-- ==== Sys2Proof/Word.lean ====
section
/-! DEFINITION. The bit widths in which the BC620's host interface is described (R163): one, two and four bytes. -/

namespace Sys2Proof

/-- One byte of a frame, a reply, a diskette field or the image memory. -/
abbrev Byte := BitVec 8

/-- A two-byte parameter or a block's CRC. -/
abbrev Half := BitVec 16

/-- A four-byte parameter. -/
abbrev Word := BitVec 32

end Sys2Proof
end

