-- ==== Sys2Proof/Syntax.lean ====
section
/-! DEFINITION. The commands of the BC620: one constructor of `Instr` per row of spec/opcode_table.json. The rows that are
requests of the host carry a tag and the parameters of section 8.9 at their widths; `Request` is the same list without the
tag, which is what the request engine reads out of a posted frame. -/

namespace Sys2Proof

/-- The drive channels C0 to C5 (00_scope.md, Conventions). -/
abbrev Chan := Fin 6

/-- A sector's data mark, and the data mark of a data block read from a track (R3, R33). -/
inductive Mark where
  | normal
  | deleted
  deriving DecidableEq, Repr

/-- The levels of a bay's input lines other than media present and read data (R91): whether the line is active. -/
structure Lines where
  index : Bool
  trackZero : Bool
  writeProtect : Bool
  deriving DecidableEq, Repr

/-- One sector entry of a TRACK LOAD frame: the six bytes of section 8.8. -/
structure RawEntry where
  idCyl : Byte
  idHead : Byte
  idSec : Byte
  size : Byte
  flags : Byte
  fill : Byte
  deriving DecidableEq, Repr

/-- The last two parameters of LOT CREATE, which may be left off the frame (R68). -/
inductive LotTail where
  | none
  | retry (limit : Byte)
  | retryBudget (limit budget : Byte)
  deriving DecidableEq, Repr

/-- The parameters of LOT CREATE in frame order (R68, section 8.9). -/
structure LotParams where
  lot : Byte
  image : Byte
  target : Half
  mark : Half
  digits : Byte
  encoding : Byte
  first : Word
  last : Word
  reissue : Byte
  patchCyl : Byte
  patchHead : Byte
  patchSector : Byte
  patchOffset : Half
  verify : Byte
  tail : LotTail
  deriving DecidableEq, Repr

/-- The parameters of PROFILE SET in frame order (R64, section 8.9). -/
structure ProfileParams where
  profile : Byte
  rate : Half
  sectors : Byte
  size : Byte
  firstSector : Byte
  gap3 : Byte
  fill : Byte
  interleave : Byte
  cylSkew : Byte
  headSkew : Byte
  deriving DecidableEq, Repr

/-- The parameters of TRACK FILL in frame order (R55, section 8.9). -/
structure FillParams where
  image : Byte
  cyl : Byte
  head : Byte
  n : Byte
  fill : Byte
  gap3 : Byte
  interleave : Byte
  skew : Byte
  size : Byte
  firstSector : Byte
  deriving DecidableEq, Repr

/-- The parameters of TRACK LOAD in frame order (R49, section 8.9). -/
structure LoadParams where
  image : Byte
  cyl : Byte
  head : Byte
  gap3 : Byte
  interleave : Byte
  skew : Byte
  n : Byte
  entries : List RawEntry
  deriving DecidableEq, Repr

/-- A request of the host with its parameters, in the order of the request summary (section 8.9). -/
inductive Request where
  | imageCreate (image profile cylinders heads : Byte) (label : List Byte)
  | imageSeal (image : Byte)
  | imageUnseal (image : Byte)
  | imageRetire (image : Byte)
  | imageDiscard (image : Byte)
  | imageQuery (image : Byte)
  | trackLoad (ps : LoadParams)
  | trackFill (ps : FillParams)
  | trackRemove (image cyl head : Byte)
  | trackRead (image cyl head : Byte)
  | trackQuery (image cyl head first count : Byte)
  | sectorPeek (image cyl head sector : Byte) (offset : Half) (length : Byte)
  | sectorAmend (image cyl head sector : Byte) (offset : Half) (length : Byte) (data : List Byte)
  | streamAbort
  | profileSet (ps : ProfileParams)
  | profileQuery (profile : Byte)
  | lotCreate (ps : LotParams)
  | lotStart (lot : Byte)
  | lotHold (lot : Byte)
  | lotResume (lot : Byte)
  | lotClose (lot : Byte)
  | lotDelete (lot : Byte)
  | lotMark (lot : Byte) (mark : Half)
  | lotQuery (lot : Byte)
  | channelEnable (channel : Byte)
  | channelDisable (channel : Byte)
  | channelAssign (channel lot : Byte)
  | channelHold (channel : Byte)
  | channelRelease (channel : Byte)
  | channelAbort (channel : Byte)
  | channelEject (channel : Byte)
  | channelClear (channel : Byte)
  | channelTiming (channel step settle : Byte)
  | channelQuery (channel : Byte)
  | captureStart (channel image firstCyl lastCyl heads : Byte)
  | captureAbort
  | captureQuery
  | noticeRead
  | noticeClear (mask : BitVec 24)
  | noticeEnable (mask : BitVec 24) (polarity : Byte)
  | storeStatus
  | partReset
  deriving DecidableEq, Repr

/-- The commands that reach the part: one constructor per row of spec/opcode_table.json, in its order.

A request row carries the frame's tag and its parameters. A bay or timer row carries the channel and the levels of the bay's
input lines at that instant (log 4); `indexPulse` also the time of the pulse in microseconds (log 6); `idBlock` and `dataBlock`
the bytes read from the track, the two CRC bytes included (R32). -/
inductive Instr where
  | imageCreate (tag image profile cylinders heads : Byte) (label : List Byte)
  | imageSeal (tag image : Byte)
  | imageUnseal (tag image : Byte)
  | imageRetire (tag image : Byte)
  | imageDiscard (tag image : Byte)
  | imageQuery (tag image : Byte)
  | trackLoad (tag : Byte) (ps : LoadParams)
  | trackFill (tag : Byte) (ps : FillParams)
  | trackRemove (tag image cyl head : Byte)
  | trackRead (tag image cyl head : Byte)
  | trackQuery (tag image cyl head first count : Byte)
  | sectorPeek (tag image cyl head sector : Byte) (offset : Half) (length : Byte)
  | sectorAmend (tag image cyl head sector : Byte) (offset : Half) (length : Byte) (data : List Byte)
  | streamAbort (tag : Byte)
  | profileSet (tag : Byte) (ps : ProfileParams)
  | profileQuery (tag profile : Byte)
  | lotCreate (tag : Byte) (ps : LotParams)
  | lotStart (tag lot : Byte)
  | lotHold (tag lot : Byte)
  | lotResume (tag lot : Byte)
  | lotClose (tag lot : Byte)
  | lotDelete (tag lot : Byte)
  | lotMark (tag lot : Byte) (mark : Half)
  | lotQuery (tag lot : Byte)
  | channelEnable (tag channel : Byte)
  | channelDisable (tag channel : Byte)
  | channelAssign (tag channel lot : Byte)
  | channelHold (tag channel : Byte)
  | channelRelease (tag channel : Byte)
  | channelAbort (tag channel : Byte)
  | channelEject (tag channel : Byte)
  | channelClear (tag channel : Byte)
  | channelTiming (tag channel step settle : Byte)
  | channelQuery (tag channel : Byte)
  | captureStart (tag channel image firstCyl lastCyl heads : Byte)
  | captureAbort (tag : Byte)
  | captureQuery (tag : Byte)
  | noticeRead (tag : Byte)
  | noticeClear (tag : Byte) (mask : BitVec 24)
  | noticeEnable (tag : Byte) (mask : BitVec 24) (polarity : Byte)
  | storeStatus (tag : Byte)
  | partReset (tag : Byte)
  | reset
  | powerOn
  | frameWrite (code : Byte)
  | bodyWrite (value : Byte)
  | bodyRead
  | post
  | nextReply
  | cancelFrame
  | streamWrite (value : Byte)
  | streamRead
  | insertion (c : Chan) (l : Lines)
  | removal (c : Chan) (l : Lines)
  | indexPulse (c : Chan) (l : Lines) (time : Nat)
  | idBlock (c : Chan) (cyl head sec size crcHi crcLo : Byte)
  | dataBlock (c : Chan) (mark : Mark) (raw : List Byte)
  | revolutionBudget (c : Chan) (l : Lines)
  | spinUpWait (c : Chan) (l : Lines)
  | indexTimeout (c : Chan) (l : Lines)
  | stepInterval (c : Chan) (l : Lines)
  | noTrack0 (c : Chan) (l : Lines)
  | settle (c : Chan) (l : Lines)
  | feedTimeout (c : Chan) (l : Lines)
  | ejectTimeout (c : Chan) (l : Lines)
  | resetInputRelease
  deriving DecidableEq, Repr

end Sys2Proof
end

