-- ==== Sys2Proof/Config.lean ====
section
/-! DEFINITION. What the manual leaves open and the machine goes on with: the free values. They have no body, so no proof can
rest on what they are. -/

namespace Sys2Proof

/-- The order in which the channels assigned to a lot answer one admission-open signal (R81, R82 give none; log 9). The k-th
signal since reset places channel `c` at position `Config.arrivalSlot k c` among the channels numbered above it. -/
opaque Config.arrivalSlot : Nat → Chan → Nat

/-- The clock bit suppressed within a mark prefix byte (R28 puts its cell position outside the manual; log 30): which of the clock
bits the byte has with normal clocks, counted from the first cell and taken modulo their number. -/
opaque Config.suppressedClock : Byte → Nat

/-- The data bit before the first bit cell of a write, on which the clock bit of that cell depends (R28 gives none; log 30). -/
opaque Config.bitBeforeWrite : Bool

end Sys2Proof
end

