-- ==== Sys2Proof/WellFormed.lean ====
section
/-! DEFINITION. Which commands one can send: the checks that the types of `Instr` do not already make. -/

namespace Sys2Proof

/-- The sector entries a TRACK LOAD frame carries for a sector count byte (R49, R163): n when n is 1 to 40, else none. -/
def entriesNeeded (n : Byte) : Nat := if 1 ≤ n.toNat ∧ n.toNat ≤ 40 then n.toNat else 0

/-- A request's parameters are exactly those of section 8.9: a label of 16 bytes, as many sector entries as n calls for, and
amend data that fit the 256-byte body after the tag and the seven fixed parameter bytes. -/
def Request.wellFormed : Request → Bool
  | .imageCreate _ _ _ _ label => label.length == 16
  | .trackLoad ps => ps.entries.length == entriesNeeded ps.n
  | .sectorAmend _ _ _ _ _ _ data => decide (data.length ≤ 248)
  | .imageSeal _ | .imageUnseal _ | .imageRetire _ | .imageDiscard _ | .imageQuery _ | .trackFill _ | .trackRemove _ _ _
  | .trackRead _ _ _ | .trackQuery _ _ _ _ _ | .sectorPeek _ _ _ _ _ _ | .streamAbort | .profileSet _ | .profileQuery _
  | .lotCreate _ | .lotStart _ | .lotHold _ | .lotResume _ | .lotClose _ | .lotDelete _ | .lotMark _ _ | .lotQuery _
  | .channelEnable _ | .channelDisable _ | .channelAssign _ _ | .channelHold _ | .channelRelease _ | .channelAbort _
  | .channelEject _ | .channelClear _ | .channelTiming _ _ _ | .channelQuery _ | .captureStart _ _ _ _ _ | .captureAbort
  | .captureQuery | .noticeRead | .noticeClear _ | .noticeEnable _ _ | .storeStatus | .partReset => true

/-- The request a request row stands for, with its tag; none for the rows that are no request of the host. -/
def Instr.request? : Instr → Option (Byte × Request)
  | .imageCreate t i p c h l => some (t, .imageCreate i p c h l)
  | .imageSeal t i => some (t, .imageSeal i)
  | .imageUnseal t i => some (t, .imageUnseal i)
  | .imageRetire t i => some (t, .imageRetire i)
  | .imageDiscard t i => some (t, .imageDiscard i)
  | .imageQuery t i => some (t, .imageQuery i)
  | .trackLoad t ps => some (t, .trackLoad ps)
  | .trackFill t ps => some (t, .trackFill ps)
  | .trackRemove t i c h => some (t, .trackRemove i c h)
  | .trackRead t i c h => some (t, .trackRead i c h)
  | .trackQuery t i c h f m => some (t, .trackQuery i c h f m)
  | .sectorPeek t i c h j o n => some (t, .sectorPeek i c h j o n)
  | .sectorAmend t i c h j o n d => some (t, .sectorAmend i c h j o n d)
  | .streamAbort t => some (t, .streamAbort)
  | .profileSet t ps => some (t, .profileSet ps)
  | .profileQuery t p => some (t, .profileQuery p)
  | .lotCreate t ps => some (t, .lotCreate ps)
  | .lotStart t l => some (t, .lotStart l)
  | .lotHold t l => some (t, .lotHold l)
  | .lotResume t l => some (t, .lotResume l)
  | .lotClose t l => some (t, .lotClose l)
  | .lotDelete t l => some (t, .lotDelete l)
  | .lotMark t l m => some (t, .lotMark l m)
  | .lotQuery t l => some (t, .lotQuery l)
  | .channelEnable t c => some (t, .channelEnable c)
  | .channelDisable t c => some (t, .channelDisable c)
  | .channelAssign t c l => some (t, .channelAssign c l)
  | .channelHold t c => some (t, .channelHold c)
  | .channelRelease t c => some (t, .channelRelease c)
  | .channelAbort t c => some (t, .channelAbort c)
  | .channelEject t c => some (t, .channelEject c)
  | .channelClear t c => some (t, .channelClear c)
  | .channelTiming t c s e => some (t, .channelTiming c s e)
  | .channelQuery t c => some (t, .channelQuery c)
  | .captureStart t c i f l k => some (t, .captureStart c i f l k)
  | .captureAbort t => some (t, .captureAbort)
  | .captureQuery t => some (t, .captureQuery)
  | .noticeRead t => some (t, .noticeRead)
  | .noticeClear t m => some (t, .noticeClear m)
  | .noticeEnable t m p => some (t, .noticeEnable m p)
  | .storeStatus t => some (t, .storeStatus)
  | .partReset t => some (t, .partReset)
  | .reset | .powerOn | .frameWrite _ | .bodyWrite _ | .bodyRead | .post | .nextReply | .cancelFrame | .streamWrite _
  | .streamRead | .insertion _ _ | .removal _ _ | .indexPulse _ _ _ | .idBlock _ _ _ _ _ _ _ | .dataBlock _ _ _
  | .revolutionBudget _ _ | .spinUpWait _ _ | .indexTimeout _ _ | .stepInterval _ _ | .noTrack0 _ _ | .settle _ _
  | .feedTimeout _ _ | .ejectTimeout _ _ | .resetInputRelease => none

/-- The bytes of a data block that follow its type byte: a field of one of the four sector sizes and two CRC bytes (R32, R33). -/
def dataBlockLengths : List Nat := [130, 258, 514, 1026]

/-- A command is well formed when its request is, or when its data block has the length of a whole block. -/
def Instr.wellFormed (i : Instr) : Bool :=
  match i.request?, i with
  | some (_, r), _ => r.wellFormed
  | none, .dataBlock _ _ raw => dataBlockLengths.contains raw.length
  | none, _ => true

end Sys2Proof
end

