-- ==== Sys2Proof/Decode.lean ====
section
/-! DEFINITION. Reading a request out of a posted frame (R163, sections 8.8 and 8.9), total on any bytes and rejecting by name;
the bytes a request is written as; and the host's question about table words, which this block answers with none, because
spec/opcode_table.json gives no row any bits. -/

namespace Sys2Proof

/-! ## Byte order: fields wider than a byte are sent low byte first (00_scope.md, Conventions) -/

/-- The two bytes of a two-byte field, low byte first. -/
def halfBytes (x : Half) : List Byte := [x.extractLsb' 0 8, x.extractLsb' 8 8]

/-- The three bytes of a notice mask, low byte first (R173). -/
def maskBytes (x : BitVec 24) : List Byte := [x.extractLsb' 0 8, x.extractLsb' 8 8, x.extractLsb' 16 8]

/-- The four bytes of a four-byte field, low byte first. -/
def wordBytes (x : Word) : List Byte :=
  [x.extractLsb' 0 8, x.extractLsb' 8 8, x.extractLsb' 16 8, x.extractLsb' 24 8]

/-- A two-byte field from its bytes, low byte first. -/
def ofHalfBytes (b0 b1 : Byte) : Half := b1 ++ b0

/-- A notice mask from its bytes, low byte first. -/
def ofMaskBytes (b0 b1 b2 : Byte) : BitVec 24 := (b2 ++ b1) ++ b0

/-- A four-byte field from its bytes, low byte first. -/
def ofWordBytes (b0 b1 b2 b3 : Byte) : Word := ((b3 ++ b2) ++ b1) ++ b0

/-! ## Writing a request -/

/-- The six bytes of a sector entry in frame order (section 8.8). -/
def RawEntry.bytes (e : RawEntry) : List Byte := [e.idCyl, e.idHead, e.idSec, e.size, e.flags, e.fill]

/-- The optional parameters of LOT CREATE (R68). -/
def LotTail.bytes : LotTail → List Byte
  | .none => []
  | .retry r => [r]
  | .retryBudget r b => [r, b]

/-- The request codes of section 8.9. -/
def Request.code : Request → Byte
  | .imageCreate _ _ _ _ _ => 0x10
  | .imageSeal _ => 0x11
  | .imageUnseal _ => 0x12
  | .imageRetire _ => 0x13
  | .imageDiscard _ => 0x14
  | .imageQuery _ => 0x15
  | .trackLoad _ => 0x20
  | .trackFill _ => 0x21
  | .trackRemove _ _ _ => 0x22
  | .trackRead _ _ _ => 0x23
  | .trackQuery _ _ _ _ _ => 0x24
  | .sectorPeek _ _ _ _ _ _ => 0x25
  | .sectorAmend _ _ _ _ _ _ _ => 0x26
  | .streamAbort => 0x27
  | .profileSet _ => 0x30
  | .profileQuery _ => 0x31
  | .lotCreate _ => 0x40
  | .lotStart _ => 0x41
  | .lotHold _ => 0x42
  | .lotResume _ => 0x43
  | .lotClose _ => 0x44
  | .lotDelete _ => 0x45
  | .lotMark _ _ => 0x46
  | .lotQuery _ => 0x47
  | .channelEnable _ => 0x50
  | .channelDisable _ => 0x51
  | .channelAssign _ _ => 0x52
  | .channelHold _ => 0x53
  | .channelRelease _ => 0x54
  | .channelAbort _ => 0x55
  | .channelEject _ => 0x56
  | .channelClear _ => 0x57
  | .channelTiming _ _ _ => 0x58
  | .channelQuery _ => 0x59
  | .captureStart _ _ _ _ _ => 0x60
  | .captureAbort => 0x61
  | .captureQuery => 0x62
  | .noticeRead => 0x70
  | .noticeClear _ => 0x71
  | .noticeEnable _ _ => 0x72
  | .storeStatus => 0x73
  | .partReset => 0xF0

/-- The parameter bytes of a request after the tag, in frame order (section 8.9). -/
def Request.params : Request → List Byte
  | .imageCreate i p c h label => [i, p, c, h] ++ label
  | .imageSeal i | .imageUnseal i | .imageRetire i | .imageDiscard i | .imageQuery i => [i]
  | .trackLoad ps =>
    [ps.image, ps.cyl, ps.head, ps.gap3, ps.interleave, ps.skew, ps.n] ++ ps.entries.flatMap RawEntry.bytes
  | .trackFill ps =>
    [ps.image, ps.cyl, ps.head, ps.n, ps.fill, ps.gap3, ps.interleave, ps.skew, ps.size, ps.firstSector]
  | .trackRemove i c h | .trackRead i c h => [i, c, h]
  | .trackQuery i c h f m => [i, c, h, f, m]
  | .sectorPeek i c h j o n => [i, c, h, j] ++ halfBytes o ++ [n]
  | .sectorAmend i c h j o n d => [i, c, h, j] ++ halfBytes o ++ [n] ++ d
  | .profileSet ps =>
    [ps.profile] ++ halfBytes ps.rate ++
      [ps.sectors, ps.size, ps.firstSector, ps.gap3, ps.fill, ps.interleave, ps.cylSkew, ps.headSkew]
  | .profileQuery p => [p]
  | .lotCreate ps =>
    [ps.lot, ps.image] ++ halfBytes ps.target ++ halfBytes ps.mark ++ [ps.digits, ps.encoding] ++ wordBytes ps.first ++
      wordBytes ps.last ++ [ps.reissue, ps.patchCyl, ps.patchHead, ps.patchSector] ++ halfBytes ps.patchOffset ++
      [ps.verify] ++ ps.tail.bytes
  | .lotStart l | .lotHold l | .lotResume l | .lotClose l | .lotDelete l | .lotQuery l => [l]
  | .lotMark l m => [l] ++ halfBytes m
  | .channelEnable c | .channelDisable c | .channelHold c | .channelRelease c | .channelAbort c | .channelEject c
  | .channelClear c | .channelQuery c => [c]
  | .channelAssign c l => [c, l]
  | .channelTiming c s e => [c, s, e]
  | .captureStart c i f l k => [c, i, f, l, k]
  | .noticeClear m => maskBytes m
  | .noticeEnable m p => maskBytes m ++ [p]
  | .streamAbort | .captureAbort | .captureQuery | .noticeRead | .storeStatus | .partReset => []

/-- The body of the frame a request is sent in: the tag and then the parameters (R160). -/
def Request.body (tag : Byte) (r : Request) : List Byte := tag :: r.params

/-! ## Reading a request -/

/-- The first `k` sector entries held by the bytes after TRACK LOAD's sector count. -/
def readEntries : Nat → List Byte → List RawEntry
  | k + 1, b0 :: b1 :: b2 :: b3 :: b4 :: b5 :: rest => ⟨b0, b1, b2, b3, b4, b5⟩ :: readEntries k rest
  | _, _ => []

/-- The optional parameters of LOT CREATE from the bytes after the verify mode; bytes beyond them are ignored (R163). -/
def readLotTail : List Byte → LotTail
  | [] => .none
  | [r] => .retry r
  | r :: b :: _ => .retryBudget r b

/-- Why a frame's parameters give no request (R163, steps 3 and 4). -/
inductive DecodeError where
  /-- The request code is not one of section 8.9. -/
  | badCode
  /-- Fewer parameter bytes after the tag than the request needs. -/
  | badLength
  deriving DecidableEq, Repr

/-- One row of the request summary: the code, the parameter bytes needed, and the parameters as read. The reader answers none
on fewer bytes than the request needs, and ignores the bytes beyond them (R163). -/
structure RequestRow where
  code : Byte
  read : List Byte → Option Request

/-- A request without parameters. -/
def rowNone (code : Byte) (r : Request) : RequestRow := ⟨code, fun _ => some r⟩

/-- A request with one parameter byte. -/
def rowOne (code : Byte) (f : Byte → Request) : RequestRow :=
  ⟨code, fun ps => match ps with
    | a :: _ => some (f a)
    | _ => none⟩

/-- A request with three parameter bytes. -/
def rowThree (code : Byte) (f : Byte → Byte → Byte → Request) : RequestRow :=
  ⟨code, fun ps => match ps with
    | a :: b :: c :: _ => some (f a b c)
    | _ => none⟩

/-- A request with five parameter bytes. -/
def rowFive (code : Byte) (f : Byte → Byte → Byte → Byte → Byte → Request) : RequestRow :=
  ⟨code, fun ps => match ps with
    | a :: b :: c :: d :: e :: _ => some (f a b c d e)
    | _ => none⟩

/-- IMAGE CREATE: 20 bytes, the last 16 of them the label (R10). -/
def readImageCreate (ps : List Byte) : Option Request :=
  match ps with
  | i :: p :: c :: h :: rest => if rest.length < 16 then none else some (.imageCreate i p c h (rest.take 16))
  | _ => none

/-- TRACK LOAD: 7 + 6n bytes when n is 1 to 40, and 7 bytes when it is not (R49, R163). -/
def readTrackLoad (ps : List Byte) : Option Request :=
  match ps with
  | i :: c :: h :: g :: il :: sk :: n :: rest =>
    if rest.length < 6 * entriesNeeded n then none
    else some (.trackLoad ⟨i, c, h, g, il, sk, n, readEntries (entriesNeeded n) rest⟩)
  | _ => none

/-- TRACK FILL: 10 bytes (R55). -/
def readTrackFill (ps : List Byte) : Option Request :=
  match ps with
  | i :: c :: h :: n :: fl :: g :: il :: sk :: sz :: fs :: _ => some (.trackFill ⟨i, c, h, n, fl, g, il, sk, sz, fs⟩)
  | _ => none

/-- SECTOR PEEK: 7 bytes (R59). -/
def readSectorPeek (ps : List Byte) : Option Request :=
  match ps with
  | i :: c :: h :: j :: o0 :: o1 :: n :: _ => some (.sectorPeek i c h j (ofHalfBytes o0 o1) n)
  | _ => none

/-- SECTOR AMEND: 7 fixed bytes, then the data bytes, which the request counts itself (R57, R163). -/
def readSectorAmend (ps : List Byte) : Option Request :=
  match ps with
  | i :: c :: h :: j :: o0 :: o1 :: n :: data => some (.sectorAmend i c h j (ofHalfBytes o0 o1) n data)
  | _ => none

/-- PROFILE SET: 11 bytes (R64). -/
def readProfileSet (ps : List Byte) : Option Request :=
  match ps with
  | p :: r0 :: r1 :: n :: sz :: fs :: g :: fl :: il :: cs :: hs :: _ =>
    some (.profileSet ⟨p, ofHalfBytes r0 r1, n, sz, fs, g, fl, il, cs, hs⟩)
  | _ => none

/-- LOT CREATE: 23 bytes up to the verify mode, and two that may follow (R68, R163). -/
def readLotCreate (ps : List Byte) : Option Request :=
  match ps with
  | l :: i :: t0 :: t1 :: m0 :: m1 :: dg :: en :: f0 :: f1 :: f2 :: f3 :: e0 :: e1 :: e2 :: e3 :: re :: pc :: ph :: pj ::
      o0 :: o1 :: v :: tl =>
    some (.lotCreate ⟨l, i, ofHalfBytes t0 t1, ofHalfBytes m0 m1, dg, en, ofWordBytes f0 f1 f2 f3,
      ofWordBytes e0 e1 e2 e3, re, pc, ph, pj, ofHalfBytes o0 o1, v, readLotTail tl⟩)
  | _ => none

/-- LOT MARK: 3 bytes (R76). -/
def readLotMark (ps : List Byte) : Option Request :=
  match ps with
  | l :: m0 :: m1 :: _ => some (.lotMark l (ofHalfBytes m0 m1))
  | _ => none

/-- CHANNEL ASSIGN: 2 bytes (R114). -/
def readChannelAssign (ps : List Byte) : Option Request :=
  match ps with
  | c :: l :: _ => some (.channelAssign c l)
  | _ => none

/-- NOTICE CLEAR: a 3-byte mask (R176). -/
def readNoticeClear (ps : List Byte) : Option Request :=
  match ps with
  | b0 :: b1 :: b2 :: _ => some (.noticeClear (ofMaskBytes b0 b1 b2))
  | _ => none

/-- NOTICE ENABLE: a 3-byte mask and the polarity (R177). -/
def readNoticeEnable (ps : List Byte) : Option Request :=
  match ps with
  | b0 :: b1 :: b2 :: p :: _ => some (.noticeEnable (ofMaskBytes b0 b1 b2) p)
  | _ => none

/-- The request summary of section 8.9. -/
def requestTable : List RequestRow :=
  [⟨0x10, readImageCreate⟩, rowOne 0x11 .imageSeal, rowOne 0x12 .imageUnseal, rowOne 0x13 .imageRetire,
   rowOne 0x14 .imageDiscard, rowOne 0x15 .imageQuery, ⟨0x20, readTrackLoad⟩, ⟨0x21, readTrackFill⟩,
   rowThree 0x22 .trackRemove, rowThree 0x23 .trackRead, rowFive 0x24 .trackQuery, ⟨0x25, readSectorPeek⟩,
   ⟨0x26, readSectorAmend⟩, rowNone 0x27 .streamAbort, ⟨0x30, readProfileSet⟩, rowOne 0x31 .profileQuery,
   ⟨0x40, readLotCreate⟩, rowOne 0x41 .lotStart, rowOne 0x42 .lotHold, rowOne 0x43 .lotResume, rowOne 0x44 .lotClose,
   rowOne 0x45 .lotDelete, ⟨0x46, readLotMark⟩, rowOne 0x47 .lotQuery] ++
  [rowOne 0x50 .channelEnable, rowOne 0x51 .channelDisable, ⟨0x52, readChannelAssign⟩, rowOne 0x53 .channelHold,
   rowOne 0x54 .channelRelease, rowOne 0x55 .channelAbort, rowOne 0x56 .channelEject, rowOne 0x57 .channelClear,
   rowThree 0x58 .channelTiming, rowOne 0x59 .channelQuery, rowFive 0x60 .captureStart, rowNone 0x61 .captureAbort,
   rowNone 0x62 .captureQuery, rowNone 0x70 .noticeRead, ⟨0x71, readNoticeClear⟩, ⟨0x72, readNoticeEnable⟩,
   rowNone 0x73 .storeStatus, rowNone 0xF0 .partReset]

/-- The request a code and its parameter bytes stand for: steps 3 and 4 of R163. -/
def decodeRequest (code : Byte) (params : List Byte) : Except DecodeError Request :=
  match requestTable.find? (fun row => row.code == code) with
  | none => .error .badCode
  | some row =>
    match row.read params with
    | none => .error .badLength
    | some r => .ok r

/-- The command a word of spec/opcode_table.json spells. The table gives no row any bits (every row's "fields" is empty and none
has "fixed"), so no word spells a command (log 3). -/
def decodeTableWord (_nbits _w : Nat) : Option Instr := none

end Sys2Proof
end

