-- ==== Sys2Proof/Machine/State.lean ====
section
/-! DEFINITION. Every piece of state the manual gives the BC620, as plain data, and the state after reset. `Device` is the part,
block by block; `State` is the part together with the queue of commands that wait for it. -/

namespace Sys2Proof.Machine

/-! ## Names of slots (00_scope.md, Conventions) -/

/-- Image slots I0 to I7. -/
abbrev ImageNo := Fin 8

/-- Track record slots 0 to 511. -/
abbrev RecNo := Fin 512

/-- Lots L0 to L7. -/
abbrev LotNo := Fin 8

/-- Format profiles P0 to P15. -/
abbrev ProfileNo := Fin 16

/-- A track's key within an image (00_scope.md, Track keys). -/
structure Key where
  cyl : Nat
  head : Nat
  deriving DecidableEq, Repr

/-! ## The image store (01) -/

/-- The states of an image (R1). -/
inductive ImageState where
  | vacant
  | building
  | sealed
  | retiring
  deriving DecidableEq, Repr

/-- A default layout (R1, R63). `size` is the size code. -/
structure Layout where
  sectors : Nat
  size : Fin 4
  firstSector : Nat
  gap3 : Nat
  fill : Byte
  interleave : Nat
  cylSkew : Nat
  headSkew : Nat
  deriving DecidableEq, Repr

/-- The layout of a vacant image or profile: zero in every field. -/
def Layout.zero : Layout := ⟨0, 0, 0, 0, 0, 0, 0, 0⟩

/-- The image record of one image slot (R1). `directory` lists the entries in cylinder-then-head order (R4). -/
structure Image where
  state : ImageState
  label : List Byte
  cylinders : Nat
  heads : Nat
  rate : Nat
  layout : Layout
  directory : List (Option RecNo)
  pins : Nat
  bindings : Nat
  captureOwner : Option Chan
  checksum : Nat
  checksumValid : Bool
  presentTracks : Nat
  pagesHeld : Nat
  deriving DecidableEq, Repr

/-- An image in VACANT: the last column of R1. -/
def Image.vacant : Image :=
  { state := .vacant, label := List.replicate 16 0, cylinders := 0, heads := 0, rate := 0, layout := Layout.zero,
    directory := [], pins := 0, bindings := 0, captureOwner := none, checksum := 0, checksumValid := false,
    presentTracks := 0, pagesHeld := 0 }

/-- How a sector's contents are stored (R3). -/
inductive SectorStore where
  | data
  | fill (value : Byte)
  deriving DecidableEq, Repr

/-- A sector entry (R3). `size` is the size code. -/
structure SectorEntry where
  idCyl : Byte
  idHead : Byte
  idSec : Byte
  size : Fin 4
  mark : Mark
  store : SectorStore
  deriving DecidableEq, Repr

/-- A track as a lookup answers it (R22): its header fields, sector table, page list and track sum. The sector count n is the
length of the sector table (log 28). -/
structure Track where
  gap3 : Nat
  interleave : Nat
  skew : Nat
  sectors : List SectorEntry
  dataLen : Nat
  pages : List Nat
  sum : Nat
  deriving DecidableEq, Repr

/-- A track with zero in every field and nothing in it. -/
def Track.empty : Track := ⟨0, 0, 0, [], 0, [], 0⟩

/-- The states of a track record slot (R2). -/
inductive RecState where
  | free
  | loading
  | present
  deriving DecidableEq, Repr

/-- The link attribute of a record (R2). -/
inductive Link where
  | linked
  | unlinked
  deriving DecidableEq, Repr

/-- The track record of one record slot (R2). `image` and `key` together are the record's key. -/
structure TrackRecord where
  state : RecState
  link : Link
  readPin : Bool
  image : ImageNo
  key : Key
  track : Track
  deriving DecidableEq, Repr

/-- A FREE record: zero in every field, empty lists, LINKED (R2). -/
def TrackRecord.free : TrackRecord := ⟨.free, .linked, false, 0, ⟨0, 0⟩, Track.empty⟩

/-- The image store: image slots, track record slots, the pool of free pages in ascending order (R5), and the image memory, a
list of (address, byte) cells with address 2048 × page + byte. -/
structure Store where
  images : Vector Image 8
  records : Vector TrackRecord 512
  freePages : List Nat
  memory : List Host.Cell
  deriving DecidableEq, Repr

/-! ## The profile table (03) -/

/-- One format profile (R63). A vacant profile holds zero in every field. -/
structure Profile where
  defined : Bool
  rate : Nat
  layout : Layout
  deriving DecidableEq, Repr

/-- A vacant profile. -/
def Profile.vacant : Profile := ⟨false, 0, Layout.zero⟩

/-! ## The lot table (04) -/

/-- The states of a lot (R66). -/
inductive LotState where
  | vacant
  | ready
  | running
  | held
  | filled
  | exhausted
  | closing
  | closed
  deriving DecidableEq, Repr

/-- The encodings of a serial (R45, R46). -/
inductive Encoding where
  | ascii
  | bcd
  deriving DecidableEq, Repr

/-- The verify modes (R66). -/
inductive VerifyMode where
  | none
  | crc
  | full
  deriving DecidableEq, Repr

/-- A patch site: key, logical sector index and byte offset (R66, R69). -/
structure PatchSite where
  cyl : Nat
  head : Nat
  sector : Nat
  offset : Nat
  deriving DecidableEq, Repr

/-- The reasons of a reject, in the order of R66's tally. -/
inductive RejectReason where
  | writeProtected
  | mediaLost
  | trackFailed
  | timeLimit
  | overfull
  | aborted
  | driveFault
  deriving DecidableEq, Repr

/-- The tally: one count for each reject reason (R66). -/
structure Tally where
  writeProtected : Nat
  mediaLost : Nat
  trackFailed : Nat
  timeLimit : Nat
  overfull : Nat
  aborted : Nat
  driveFault : Nat
  deriving DecidableEq, Repr

/-- The lot record of one lot slot (R66). -/
structure Lot where
  state : LotState
  image : ImageNo
  target : Nat
  good : Nat
  rejects : Nat
  tally : Tally
  inFlight : Nat
  mark : Nat
  digits : Nat
  encoding : Encoding
  first : Nat
  last : Nat
  next : Nat
  reissue : List Nat
  reissueEnable : Bool
  void : Nat
  patch : Option PatchSite
  verify : VerifyMode
  retryLimit : Nat
  budget : Nat
  deriving DecidableEq, Repr

/-- A VACANT lot: the last column of R66. -/
def Lot.vacant : Lot :=
  { state := .vacant, image := 0, target := 0, good := 0, rejects := 0, tally := ⟨0, 0, 0, 0, 0, 0, 0⟩, inFlight := 0,
    mark := 0, digits := 0, encoding := .ascii, first := 0, last := 0, next := 0, reissue := [], reissueEnable := false,
    void := 0, patch := none, verify := .none, retryLimit := 0, budget := 0 }

/-! ## Drive channels and copy engines (05, 06) -/

/-- The states of a drive channel (R92). -/
inductive ChanState where
  | offline
  | idle
  | feeding
  | starved
  | loaded
  | spinup
  | calibrating
  | copying
  | held
  | capturing
  | ejecting
  | jammed
  | fault
  deriving DecidableEq, Repr

/-- What a channel's spin-up or calibration is for (R92). -/
inductive Work where
  | none
  | copy
  | capture
  deriving DecidableEq, Repr

/-- The fault record: reason and detail (R93). -/
inductive FaultRecord where
  | noIndex (detail : ChanState)
  | speed (detail : Nat)
  | noTrack0 (detail : Nat)
  deriving DecidableEq, Repr

/-- The reasons of a drive fault, without their details (R93). -/
inductive FaultReason where
  | noIndex
  | speed
  | noTrack0
  deriving DecidableEq, Repr

/-- The bins of a bay's sorter (R91). -/
inductive Bin where
  | good
  | reject
  deriving DecidableEq, Repr

/-- The kinds of verify fault (R130). -/
inductive VerifyKind where
  | idCrc
  | idMismatch
  | sectorMissing
  | dataCrc
  | dataMismatch
  | sumMismatch
  deriving DecidableEq, Repr

/-- A verify fault record (R130). -/
structure VerifyFault where
  kind : VerifyKind
  key : Key
  attempt : Nat
  slot : Option Nat
  logical : Option Nat
  deriving DecidableEq, Repr

/-- The outcome of a copy (R94). -/
inductive CopyOutcome where
  | good
  | reject (reason : RejectReason)
  deriving DecidableEq, Repr

/-- The last outcome record of a channel (R94). -/
structure LastOutcome where
  outcome : CopyOutcome
  faultReason : Option FaultReason
  lot : LotNo
  serial : Option Nat
  failedKey : Option Key
  verifyFault : Option VerifyFault
  written : Nat
  rewrites : Nat
  deriving DecidableEq, Repr

/-- The patch held by the plan of the patch track: the logical sector, the byte offset and the rendered serial (R123). -/
structure Patch where
  sector : Nat
  offset : Nat
  bytes : List Byte
  deriving DecidableEq, Repr

/-- The track plan (R122): the effective gap 3, the logical sector of each physical slot, the track looked up, the expected sum
and, on the patch track, the patch. -/
structure Plan where
  gEff : Nat
  slots : List Nat
  track : Track
  expected : Nat
  patch : Option Patch
  deriving DecidableEq, Repr

/-- The phases of a copy engine other than none (R119). -/
inductive CopyPhase where
  | seek
  | indexWait
  | write
  | verify
  | recal
  deriving DecidableEq, Repr

/-- The verify pass as a reader (R128 to R130): ID blocks found, whether the last of them has had its data block, the first fault
detected with its slot, and the read sum. -/
structure VerifyReader where
  found : Nat
  dataSeen : Bool
  fault : Option (VerifyKind × Nat)
  readSum : Nat
  deriving DecidableEq, Repr

/-- A reader at the start of its revolution. -/
def VerifyReader.start : VerifyReader := ⟨0, false, none, 0⟩

/-- The copy context of a channel (R119), with the engine's verify reader. -/
structure CopyContext where
  lot : LotNo
  image : ImageNo
  serial : Option Nat
  digits : Nat
  encoding : Encoding
  patch : Option PatchSite
  verify : VerifyMode
  retryLimit : Nat
  budget : Nat
  key : Option Key
  plan : Option Plan
  phase : Option CopyPhase
  attempt : Nat
  failures : Nat
  counter : Option Nat
  written : Nat
  rewrites : Nat
  lastFault : Option VerifyFault
  reader : VerifyReader
  deriving DecidableEq, Repr

/-- What the write data line carries, byte by byte: a mark prefix byte, or a byte with normal clocks (R28). Its bit cells are
`Sym.cells`. -/
inductive Sym where
  | mark (b : Byte)
  | byte (b : Byte)
  deriving DecidableEq, Repr

/-- The output lines of a bay (R91). `stepPulses` counts the pulses issued on the step line since reset (log 23). `writeData`
lists the lead-in and the slots of the track being written (R29, R30, R126) and is empty while the line is idle; what the line
carries, the tail of 4Eh and the bit cells included, is `Outputs.symbols` and `Outputs.cells` (log 22). -/
structure Outputs where
  motor : Bool
  stepPulses : Nat
  directionIn : Bool
  head : Nat
  writeGate : Bool
  writeData : List Sym
  feed : Bool
  eject : Bool
  bin : Bin
  deriving DecidableEq, Repr

/-- Every output at its inactive level (R91). -/
def Outputs.inactive : Outputs := ⟨false, 0, false, 0, false, [], false, false, .good⟩

/-- The timers of a channel: none when stopped, else the length in ms it was started with. -/
structure Timers where
  spinUp : Option Nat
  index : Option Nat
  step : Option Nat
  settle : Option Nat
  feed : Option Nat
  eject : Option Nat
  deriving DecidableEq, Repr

/-- Every timer stopped. -/
def Timers.stopped : Timers := ⟨none, none, none, none, none, none⟩

/-- The measurement of R100: not under way, waiting for the first pulse after the wait, or begun at `t1` with one or two pulses. -/
inductive Measure where
  | none
  | waiting
  | first (t1 : Nat)
  | second (t1 : Nat)
  deriving DecidableEq, Repr

/-- The head movement in progress (R102 to R104). `calOut` and `recalOut` count the step-out pulses issued; `target` is the
cylinder a seek names and `back` the one a recalibration returns to. -/
inductive Motion where
  | none
  | calOut (pulses : Nat)
  | calSettle
  | seek (target : Nat)
  | seekSettle
  | recalOut (pulses back : Nat)
  | recalIn (back : Nat)
  | recalSettle
  deriving DecidableEq, Repr

/-- A drive channel: the channel record (R92), its bay's lines (R91), its timers, and its copy engine's context (R119). -/
structure Channel where
  state : ChanState
  work : Work
  fault : Option FaultRecord
  faultPending : Bool
  ejectBin : Bin
  hold : Bool
  lot : Option LotNo
  master : Bool
  stepInterval : Nat
  settle : Nat
  period : Nat
  headCyl : Nat
  calibrated : Bool
  last : Option LastOutcome
  media : Bool
  lines : Lines
  out : Outputs
  timers : Timers
  measure : Measure
  motion : Motion
  ctx : Option CopyContext
  deriving DecidableEq, Repr

/-- A channel after reset (R92, R118), with the bay's input levels as they are: the reset does not reach them. -/
def Channel.reset (media : Bool) (lines : Lines) : Channel :=
  { state := .offline, work := .none, fault := none, faultPending := false, ejectBin := .good, hold := false, lot := none,
    master := false, stepInterval := 3, settle := 15, period := 0, headCyl := 0, calibrated := false, last := none,
    media := media, lines := lines, out := Outputs.inactive, timers := Timers.stopped, measure := .none, motion := .none,
    ctx := none }

/-! ## The capture engine (07) -/

/-- The states of the capture context (R143). -/
inductive CaptureState where
  | idle
  | running
  | ended
  deriving DecidableEq, Repr

/-- The phases of a capture other than none (R143). -/
inductive CapturePhase where
  | spinup
  | seek
  | indexWait
  | scan
  | read
  deriving DecidableEq, Repr

/-- The reasons for which a key fails (R153). -/
inductive FailReason where
  | tooMany
  | idCrc
  | badSize
  | overfull
  | idChanged
  | noData
  | dataCrc
  deriving DecidableEq, Repr

/-- The end reasons of a capture other than none (R143). -/
inductive EndReason where
  | complete
  | aborted
  | noSpace
  | mediaLost
  | driveFault
  deriving DecidableEq, Repr

/-- One scan list entry: the four ID bytes of a block and whether its CRC check was good (R148). -/
structure ScanEntry where
  cyl : Byte
  head : Byte
  sec : Byte
  size : Byte
  crcGood : Bool
  deriving DecidableEq, Repr

/-- The faults of a data revolution (R150). -/
inductive RevolutionFault where
  | idChanged
  | noData
  | dataCrc
  deriving DecidableEq, Repr

/-- The data revolution as a reader (R150): ID blocks found, whether the last of them has had its data block, and the first fault
detected. -/
structure CaptureReader where
  found : Nat
  dataSeen : Bool
  fault : Option RevolutionFault
  deriving DecidableEq, Repr

/-- A reader at the start of its revolution. -/
def CaptureReader.start : CaptureReader := ⟨0, false, none⟩

/-- The capture context (R143), with the scan list (R148), the data revolution's reader (R150) and the record in construction:
the mark and the field bytes of each sector read so far. -/
structure CaptureContext where
  state : CaptureState
  channel : Option Chan
  image : Option ImageNo
  firstCyl : Nat
  lastCyl : Nat
  headCount : Nat
  key : Option Key
  phase : Option CapturePhase
  scans : Nat
  reads : Nat
  captured : Nat
  absent : Nat
  failed : List (Key × FailReason)
  overflow : Nat
  endReason : Option EndReason
  scanList : List ScanEntry
  scanFound : Nat
  reader : CaptureReader
  buffer : List (Mark × List Byte)
  deriving DecidableEq, Repr

/-- The capture context after reset (R143, R158). -/
def CaptureContext.reset : CaptureContext :=
  { state := .idle, channel := none, image := none, firstCyl := 0, lastCyl := 0, headCount := 0, key := none, phase := none,
    scans := 0, reads := 0, captured := 0, absent := 0, failed := [], overflow := 0, endReason := none, scanList := [],
    scanFound := 0, reader := CaptureReader.start, buffer := [] }

/-! ## The request port and the notice unit (08, 09) -/

/-- A frame: request code, body and long mark; the body count is the body's length (R160). -/
structure Frame where
  code : Byte
  body : List Byte
  long : Bool
  deriving DecidableEq, Repr

/-- The completion codes (R166). -/
inductive Completion where
  | ok
  | started
  | badCode
  | badLength
  | badValue
  | noSuch
  | wrongState
  | busy
  | noSpace
  | overfull
  | lotsBound
  | patchSite
  | fillSector
  | mediaPresent
  deriving DecidableEq, Repr

/-- A reply, but for its length byte (R164). -/
structure Reply where
  tag : Byte
  code : Byte
  completion : Completion
  result : List Byte
  deriving DecidableEq, Repr

/-- The stream, with its record and its remaining count (R167). A CLOSED stream has a remaining count of 0. -/
inductive Stream where
  | closed
  | inbound (rec : RecNo) (remaining : Nat)
  | outbound (rec : RecNo) (remaining : Nat)
  deriving DecidableEq, Repr

/-- The request port and the request engine (R160 to R172). `working` is the request being worked, none while the engine is idle.
`dataLines` is the byte the most recent read access returned (log 13). -/
structure Port where
  frame : Option Frame
  requests : List Frame
  replies : List Reply
  readPos : Nat
  stream : Stream
  postRefused : Bool
  streamFault : Bool
  working : Option Frame
  dataLines : Byte
  deriving DecidableEq, Repr

/-- The port after reset (R172), with the data lines as the last read left them. -/
def Port.reset (dataLines : Byte) : Port :=
  { frame := none, requests := [], replies := [], readPos := 0, stream := .closed, postRefused := false, streamFault := false,
    working := none, dataLines := dataLines }

/-- The notice unit (R173, R177): the flags at positions 1 to 22, the enable mask, and whether the line is active-high. -/
structure Notices where
  flags : BitVec 24
  enable : BitVec 24
  activeHigh : Bool
  deriving DecidableEq, Repr

/-- The notice unit after reset (R179). -/
def Notices.reset : Notices := ⟨0, 0, false⟩

/-! ## The part, and the state -/

/-- The part, block by block. `resetInput` is true while the RESET input is asserted. `freeCount` is the model's own counter of
free choices (log 9). -/
structure Device where
  port : Port
  store : Store
  profiles : Vector Profile 16
  lots : Vector Lot 8
  channels : Vector Channel 6
  capture : CaptureContext
  notices : Notices
  resetInput : Bool
  freeCount : Nat
  deriving DecidableEq, Repr

/-- The state of the model: the part, and the commands that wait for it, first in, first out. -/
structure State where
  dev : Device
  pending : List Instr
  deriving DecidableEq, Repr

/-- Nothing stops this block: every command either has an effect the manual gives or leaves the part as it was, so no meaning
raises a fault and the type has no constructor. Safe: no claim can rest on a fault. -/
inductive Fault where
  deriving DecidableEq, Repr

/-- Why a command has no next state. -/
inductive Refusal where
  /-- Raised by `exec`'s arm of a command that has no meaning yet. Safe: nothing is claimed of such a command. -/
  | notModelled (mnemonic : String)
  deriving DecidableEq, Repr

/-- The store after reset (R26): every image VACANT, every record FREE, all 2048 pages in the pool. -/
def Store.reset : Store :=
  { images := Vector.replicate 8 Image.vacant, records := Vector.replicate 512 TrackRecord.free,
    freePages := List.range 2048, memory := [] }

/-- The profile table after reset (R63). -/
def profilesReset : Vector Profile 16 :=
  ((Vector.replicate 16 Profile.vacant).set 0 ⟨true, 250, ⟨9, 2, 1, 80, 0xE5, 1, 0, 0⟩⟩).set 1
    ⟨true, 500, ⟨18, 2, 1, 84, 0xE5, 1, 0, 0⟩⟩

/-- The machine right after reset, with empty bays and nothing waiting (logs 2, 4, 13, 24). -/
def State.reset : State :=
  { dev :=
      { port := Port.reset 0, store := Store.reset, profiles := profilesReset, lots := Vector.replicate 8 Lot.vacant,
        channels := Vector.replicate 6 (Channel.reset false ⟨false, false, false⟩), capture := CaptureContext.reset,
        notices := Notices.reset, resetInput := false, freeCount := 0 },
    pending := [] }

end Sys2Proof.Machine
end

