-- ==== Sys2Proof/Machine/Arithmetic.lean ====
section
/-! DEFINITION. The layout unit (chapter 2): capacity and fit, slot mapping, CRC, track sums, serial rendering, and the written
track. Every function takes all its inputs and holds no state (R27). -/

namespace Sys2Proof.Machine

/-! ## Sector sizes and data offsets (R3) -/

/-- S, the bytes of a sector of a size code (R3). -/
def sizeBytes (code : Fin 4) : Nat := 128 * 2 ^ code.val

/-- The bytes of the pages a record of data length `d` needs: ceil(D / 2048) (R2, R5). -/
def pageCount (d : Nat) : Nat := (d + 2047) / 2048

/-- Whether a sector entry is a DATA sector. -/
def SectorEntry.isData (e : SectorEntry) : Bool := e.store == .data

/-- The bytes a sector entry takes in the record's data: S for DATA, none for FILL (R3). -/
def SectorEntry.stored (e : SectorEntry) : Nat := if e.isData then sizeBytes e.size else 0

/-- D, the sum of the sizes of the DATA sectors (R2). -/
def dataLength (es : List SectorEntry) : Nat := (es.map SectorEntry.stored).sum

/-- The data offset of DATA sector `j`: the sum of S over the DATA sectors before it in the table (R3). -/
def dataOffset (es : List SectorEntry) (j : Nat) : Nat := dataLength (es.take j)

/-- The sum of S over all sectors, FILL sectors included (R36). -/
def totalSize (es : List SectorEntry) : Nat := (es.map fun e => sizeBytes e.size).sum

/-- n, the sector count of a track (R2). -/
def Track.n (t : Track) : Nat := t.sectors.length

/-! ## Capacity and fit (R34 to R38) -/

/-- The nominal period in µs (R34). -/
def nominalPeriod : Nat := 200000

/-- C, the capacity in bytes (R34). -/
def capacity (rate period : Nat) : Nat := rate * period / 8000

/-- U, the usable capacity (R35). -/
def usable (rate period : Nat) : Nat := capacity rate period - capacity rate period / 64

/-- B, the base length (R36). -/
def baseLength (n sumS : Nat) : Nat := 96 + 62 * n + sumS

/-- g_max, the largest gap 3 that fits; none when the room is negative (R36). -/
def gapMax (rate period n sumS : Nat) : Option Nat :=
  if usable rate period < baseLength n sumS then none else some ((usable rate period - baseLength n sumS) / n)

/-- The fit test: g_max is 8 or more (R36). -/
def fits (rate period n sumS : Nat) : Bool :=
  match gapMax rate period n sumS with
  | none => false
  | some g => decide (8 ≤ g)

/-- The load-time fit test, at the nominal period (R37). -/
def fitsAtLoad (rate n sumS : Nat) : Bool := fits rate nominalPeriod n sumS

/-- The write-time gap clamp: the effective gap 3 of a track on a drive, none when the track does not fit (R38). -/
def effectiveGap (rate period : Nat) (t : Track) : Option Nat :=
  match gapMax rate period t.n (totalSize t.sectors) with
  | none => none
  | some g => if 8 ≤ g then some (min t.gap3 g) else none

/-! ## Slot mapping (R39 to R41) -/

/-- i_e, the effective interleave (R39). -/
def effectiveInterleave (interleave n : Nat) : Nat := if interleave % n = 0 then 1 else interleave % n

/-- The first free slot from `candidate` on, moving one slot at a time modulo the track's slots, at most `fuel` moves (R40). -/
def probeSlot (taken : List (Option Nat)) : Nat → Nat → Nat
  | 0, candidate => candidate
  | fuel + 1, candidate =>
    match taken[candidate]? with
    | some (some _) => probeSlot taken fuel ((candidate + 1) % taken.length)
    | _ => candidate

/-- One step of R40: logical sector `j` takes its candidate slot, or the next free one. -/
def placeSector (interleave skew : Nat) (taken : List (Option Nat)) (j : Nat) : List (Option Nat) :=
  taken.set (probeSlot taken taken.length ((skew + j * interleave) % taken.length)) (some j)

/-- The slot mapping (R40) as a list: at position k, the logical sector in physical slot k. -/
def slotMap (n interleave skew : Nat) : List Nat :=
  ((List.range n).foldl (placeSector (effectiveInterleave interleave n) skew) (List.replicate n none)).map (·.getD 0)

/-- The slot mapping of a track (R40). -/
def Track.slotMap (t : Track) : List Nat := Machine.slotMap t.n t.interleave t.skew

/-! ## Track sums (R42) -/

/-- The sum of some data bytes. -/
def byteSum (bs : List Byte) : Nat := (bs.map BitVec.toNat).sum

/-- What the FILL sectors of a table contribute to the track sum: S × fill value each (R42). -/
def fillSum (es : List SectorEntry) : Nat :=
  (es.map fun e => match e.store with
    | .data => 0
    | .fill v => sizeBytes e.size * v.toNat).sum

/-! ## The default track (R21, R41) -/

/-- Sector `i` of the default track at a key (R21). -/
def defaultSector (lay : Layout) (key : Key) (i : Nat) : SectorEntry :=
  { idCyl := BitVec.ofNat 8 key.cyl, idHead := BitVec.ofNat 8 key.head, idSec := BitVec.ofNat 8 (lay.firstSector + i),
    size := lay.size, mark := .normal, store := .fill lay.fill }

/-- The default track at a key (R21), with the skew of R41. -/
def defaultTrack (lay : Layout) (key : Key) : Track :=
  { gap3 := lay.gap3, interleave := lay.interleave,
    skew := (key.cyl * lay.cylSkew + key.head * lay.headSkew) % lay.sectors,
    sectors := (List.range lay.sectors).map (defaultSector lay key), dataLen := 0, pages := [],
    sum := lay.sectors * sizeBytes lay.size * lay.fill.toNat % 65536 }

/-! ## CRC (R32) -/

/-- One bit of the CRC register with polynomial x^16 + x^12 + x^5 + 1. -/
def crcBit (r : Half) : Half := if r.getLsbD 15 then (r <<< 1) ^^^ 0x1021#16 else r <<< 1

/-- One byte into the CRC register, most significant bit first (R32). -/
def crcByte (r : Half) (b : Byte) : Half :=
  let x := r ^^^ (b.setWidth 16 <<< 8)
  crcBit (crcBit (crcBit (crcBit (crcBit (crcBit (crcBit (crcBit x)))))))

/-- The CRC of some bytes: the register after the last of them, from a preset of FFFFh (R32). -/
def crc (bs : List Byte) : Half := bs.foldl crcByte 0xFFFF#16

/-- A block's CRC as written: high byte first (R32). -/
def crcBytes (x : Half) : List Byte := [x.extractLsb' 8 8, x.extractLsb' 0 8]

/-- The type byte of a data mark (R30, R33). -/
def markType : Mark → Byte
  | .normal => 0xFB
  | .deleted => 0xF8

/-- The four mark bytes a CRC covers: three A1h prefix bytes and the type byte (R32). -/
def markBytes (type : Byte) : List Byte := [0xA1, 0xA1, 0xA1, type]

/-- The type byte of an ID mark (R30). -/
def idType : Byte := 0xFE

/-- The reader's check over the mark bytes, the field and the two CRC bytes as read: good when the result is 0000h (R32). -/
def crcGood (type : Byte) (fieldAndCrc : List Byte) : Bool := crc (markBytes type ++ fieldAndCrc) == 0

/-! ## Serial rendering (R45, R46) -/

/-- The decimal digits of a number, most significant first, padded with zeros to `n` digits. -/
def decimalDigits : Nat → Nat → List Nat
  | 0, _ => []
  | n + 1, x => decimalDigits n (x / 10) ++ [x % 10]

/-- ASCII rendering (R45). -/
def renderAscii (digits serial : Nat) : List Byte := (decimalDigits digits serial).map fun d => BitVec.ofNat 8 (0x30 + d)

/-- Decimal digits packed two to a byte, the earlier in the high nibble (R46). -/
def packDigits : List Nat → List Byte
  | hi :: lo :: rest => BitVec.ofNat 8 (16 * hi + lo) :: packDigits rest
  | _ => []

/-- BCD rendering: an odd digit count takes one further 0 in front (R46). -/
def renderBcd (digits serial : Nat) : List Byte := packDigits (decimalDigits (digits + digits % 2) serial)

/-- A serial rendered with a lot's settings (R45, R46). -/
def renderSerial (encoding : Encoding) (digits serial : Nat) : List Byte :=
  match encoding with
  | .ascii => renderAscii digits serial
  | .bcd => renderBcd digits serial

/-- w, the rendered width (R45, R46). An unserialized lot renders nothing. -/
def patchWidth (encoding : Encoding) (digits : Nat) : Nat :=
  match encoding with
  | .ascii => digits
  | .bcd => (digits + 1) / 2

/-- The expected sum of the patch track: the stored sum less the window's stored bytes plus the rendered bytes, wrapped modulo
65 536 (R44). -/
def patchedSum (stored : Nat) (window rendered : List Byte) : Nat :=
  (stored + 65536 - byteSum window % 65536 + byteSum rendered) % 65536

/-! ## The written track (R28 to R31) -/

/-- A run of bytes with normal clocks. -/
def byteRun (bs : List Byte) : List Sym := bs.map .byte

/-- A mark: three prefix bytes with a suppressed clock, then the type byte. -/
def markRun (pre type : Byte) : List Sym := [.mark pre, .mark pre, .mark pre, .byte type]

/-- The lead-in: gap 4a, sync and the index mark, 80 bytes (R29). -/
def leadIn : List Sym := byteRun (List.replicate 64 0x4E ++ List.replicate 12 0x00) ++ markRun 0xC2 0xFC

/-- The four bytes of an ID field (R30). -/
def idField (e : SectorEntry) : List Byte := [e.idCyl, e.idHead, e.idSec, BitVec.ofNat 8 e.size.val]

/-- A sector slot as written, with the data field `field` and the effective gap 3 (R30). -/
def slotRun (e : SectorEntry) (field : List Byte) (gEff : Nat) : List Sym :=
  byteRun (List.replicate 12 0x00) ++ markRun 0xA1 idType ++ byteRun (idField e) ++
    byteRun (crcBytes (crc (markBytes idType ++ idField e))) ++ byteRun (List.replicate 22 0x4E) ++
    byteRun (List.replicate 12 0x00) ++ markRun 0xA1 (markType e.mark) ++ byteRun field ++
    byteRun (crcBytes (crc (markBytes (markType e.mark) ++ field))) ++ byteRun (List.replicate gEff 0x4E)

/-- The bytes a slot costs: 62 + S + g_eff (R30). -/
def slotCost (e : SectorEntry) (gEff : Nat) : Nat := 62 + sizeBytes e.size + gEff

/-- The tail's length on a drive turning at exactly its measured period: C − 80 − the slot costs (R31). -/
def tailLength (rate period gEff : Nat) (es : List SectorEntry) : Nat :=
  capacity rate period - 80 - (es.map fun e => slotCost e gEff).sum

/-! ## The reader's search for blocks (R33) -/

/-- A block as a reader finds it (R33): the four field bytes and two CRC bytes of an ID block, or the mark of a data block and the
bytes that follow its type byte up to the next mark. -/
inductive Block where
  | id (cyl head sec size crcHi crcLo : Byte)
  | data (mark : Mark) (raw : List Byte)
  deriving DecidableEq, Repr

/-- The bytes up to the next mark, which ends a block wherever it stands (DESIGN CHOICE, log 31). -/
def bytesToMark : List Sym → List Byte
  | .byte b :: rest => b :: bytesToMark rest
  | _ => []

/-- The block that a type byte opens after three A1h marks; none for any other type byte (R33), or for an
ID block cut short (DESIGN CHOICE, log 31). -/
def openedBlock (type : Byte) (rest : List Sym) : Option Block :=
  if type = idType then
    match bytesToMark rest with
    | a :: b :: n :: s :: hi :: lo :: _ => some (.id a b n s hi lo)
    | _ => none
  else if type = markType .normal then some (.data .normal (bytesToMark rest))
  else if type = markType .deleted then some (.data .deleted (bytesToMark rest))
  else none

/-- The blocks a reader finds, after `k` A1h marks in a row (R33). Each stands for the command ID_BLOCK or DATA_BLOCK of its
channel. R33 speaks of a run of three: that a run of more than three opens a block too is a DESIGN CHOICE (log 31). -/
def readTrack : Nat → List Sym → List Block
  | _, [] => []
  | k, .mark b :: rest => readTrack (if b = 0xA1 then k + 1 else 0) rest
  | k, .byte b :: rest =>
    if k < 3 then readTrack 0 rest
    else match openedBlock b rest with
      | none => readTrack 0 rest
      | some x => x :: readTrack 0 rest

/-- The command by which a block reaches the part. -/
def Block.command (c : Chan) : Block → Instr
  | .id a b n s hi lo => .idBlock c a b n s hi lo
  | .data mark raw => .dataBlock c mark raw

end Sys2Proof.Machine
end

