-- ==== Sys2Proof/Machine/Memory.lean ====
section
/-! DEFINITION. The image memory: reading and writing one byte in the canonical list of cells, and a record's data bytes through
its page list (R3). -/

namespace Sys2Proof.Machine

/-- What an unlisted address of the image memory reads as (log 11, DESIGN CHOICE). -/
def unlistedByte : Byte := 0

/-- The byte at an address. -/
def memRead : List Host.Cell → Nat → Byte
  | [], _ => unlistedByte
  | (a, b) :: rest, addr => if addr = a then b else memRead rest addr

/-- Write one byte, keeping addresses strictly rising and listing no cell equal to an unlisted byte. -/
def memWrite : List Host.Cell → Nat → Byte → List Host.Cell
  | [], addr, v => if v = unlistedByte then [] else [(addr, v)]
  | (a, b) :: rest, addr, v =>
    if addr < a then (if v = unlistedByte then (a, b) :: rest else (addr, v) :: (a, b) :: rest)
    else if addr = a then (if v = unlistedByte then rest else (addr, v) :: rest)
    else (a, b) :: memWrite rest addr v

/-- The canonical form: addresses strictly rising, no cell equal to an unlisted byte. -/
abbrev Memory.wf (m : List Host.Cell) : Prop :=
  m.Pairwise (fun x y => x.1 < y.1) ∧ ∀ x ∈ m, x.2 ≠ unlistedByte

/-- The address of data offset `b` of a record with the given page list: byte b mod 2048 of the page at list position b / 2048
(R3); none beyond the list (log 12). -/
def dataAddress (pages : List Nat) (b : Nat) : Option Nat :=
  match pages[b / 2048]? with
  | some p => some (2048 * p + b % 2048)
  | none => none

/-- The data byte at offset `b` of a record (R3). -/
def dataRead (m : List Host.Cell) (pages : List Nat) (b : Nat) : Byte :=
  match dataAddress pages b with
  | some a => memRead m a
  | none => unlistedByte

/-- Write the data byte at offset `b` of a record (R3, R51). -/
def dataWrite (m : List Host.Cell) (pages : List Nat) (b : Nat) (v : Byte) : List Host.Cell :=
  match dataAddress pages b with
  | some a => memWrite m a v
  | none => m

/-- Write data bytes from offset `b` on, in order. -/
def dataWriteAll (m : List Host.Cell) (pages : List Nat) : Nat → List Byte → List Host.Cell
  | _, [] => m
  | b, v :: vs => dataWriteAll (dataWrite m pages b v) pages (b + 1) vs

/-- `len` bytes of sector `j` of a track from byte offset `o` on: stored bytes of a DATA sector, or the fill value (R3, R59). -/
def sectorBytes (m : List Host.Cell) (t : Track) (j o len : Nat) : List Byte :=
  match t.sectors[j]? with
  | none => []
  | some e =>
    match e.store with
    | .fill v => List.replicate len v
    | .data => (List.range len).map fun i => dataRead m t.pages (dataOffset t.sectors j + o + i)

/-- The whole data field of sector `j` (R3). -/
def sectorField (m : List Host.Cell) (t : Track) (j : Nat) : List Byte :=
  match t.sectors[j]? with
  | none => []
  | some e => sectorBytes m t j 0 (sizeBytes e.size)

/-- The data field of sector `j` as a copy writes it: on the patch track, with the window replaced by the rendered serial (R43). -/
def writtenField (m : List Host.Cell) (t : Track) (patch : Option Patch) (j : Nat) : List Byte :=
  match patch with
  | none => sectorField m t j
  | some p =>
    if p.sector = j then
      (sectorField m t j).take p.offset ++ p.bytes ++ (sectorField m t j).drop (p.offset + p.bytes.length)
    else sectorField m t j

/-- One slot of the write revolution: the sector the plan maps to it, as R30 lays it out. -/
def planSlot (m : List Host.Cell) (p : Plan) (j : Nat) : List Sym :=
  match p.track.sectors[j]? with
  | none => []
  | some e => slotRun e (writtenField m p.track p.patch j) p.gEff

/-- What the write data line carries from the opening pulse to the end of the last slot (R29, R30, R126). The tail that follows
until the gate drops is added by `Outputs.symbols` (R31). -/
def writeStream (m : List Host.Cell) (p : Plan) : List Sym := leadIn ++ p.slots.flatMap (planSlot m p)

end Sys2Proof.Machine
end

