-- ==== Sys2Proof/Machine/Ops.lean ====
section
/-! DEFINITION. The named operations over the part's records: reading and updating one slot, the notice flags, and the image
store's claim, installation, removal, release, vacating and lookup (chapter 1). -/

namespace Sys2Proof.Machine

/-! ## Slots of the store -/

/-- The image record of a slot. -/
def Store.image (st : Store) (i : ImageNo) : Image := st.images.get i

/-- Replace an image record. -/
def Store.setImage (st : Store) (i : ImageNo) (x : Image) : Store := { st with images := st.images.set i.val x i.isLt }

/-- The track record of a slot. -/
def Store.record (st : Store) (r : RecNo) : TrackRecord := st.records.get r

/-- Replace a track record. -/
def Store.setRecord (st : Store) (r : RecNo) (x : TrackRecord) : Store :=
  { st with records := st.records.set r.val x r.isLt }

/-- An image's pages held falls by `k`. -/
def Store.dropPages (st : Store) (i : ImageNo) (k : Nat) : Store :=
  st.setImage i { st.image i with pagesHeld := (st.image i).pagesHeld - k }

/-! ## The page pool and the life of a record (R5 to R9) -/

/-- Put a page back at its place in ascending order. -/
def insertPage (x : Nat) : List Nat → List Nat
  | [] => [x]
  | y :: ys => if x ≤ y then x :: y :: ys else y :: insertPage x ys

/-- The pool after some pages have returned to it. -/
def returnPages (pool pages : List Nat) : List Nat := pages.foldr insertPage pool

/-- The lowest-numbered FREE record slot (R5). -/
def Store.lowestFree (st : Store) : Option RecNo :=
  (List.finRange 512).find? fun r => (st.record r).state == .free

/-- The slot a claim of `p` pages is granted: the lowest FREE one, when there is one and the pool holds `p` pages; none when the
claim is refused (R5). -/
def Store.claim (st : Store) (p : Nat) : Option RecNo := if st.freePages.length < p then none else st.lowestFree

/-- The grant of a claim (R5): slot `r` becomes a record in `state` for the key of `image`, its page list the `p` lowest free
pages, which leave the pool and are added to the image's pages held. -/
def Store.grant (st : Store) (r : RecNo) (state : RecState) (image : ImageNo) (key : Key) (t : Track) (p : Nat) : Store :=
  let st1 := st.setRecord r
    { state := state, link := .linked, readPin := false, image := image, key := key,
      track := { t with pages := st.freePages.take p } }
  let st2 := { st1 with freePages := st.freePages.drop p }
  st2.setImage image { st2.image image with pagesHeld := (st2.image image).pagesHeld + p }

/-- Release a record (R5): its pages return to the pool and leave its image's pages held unless it was UNLINKED, and the slot
becomes FREE. -/
def Store.release (st : Store) (r : RecNo) : Store :=
  let rec0 := st.record r
  let st1 := { st with freePages := returnPages st.freePages rec0.track.pages }
  let st2 := match rec0.link with
    | .linked => st1.dropPages rec0.image rec0.track.pages.length
    | .unlinked => st1
  st2.setRecord r TrackRecord.free

/-- Make a record UNLINKED: it keeps slot and pages, which no image holds any more (R6, R9). -/
def Store.unlink (st : Store) (r : RecNo) : Store :=
  let rec0 := st.record r
  (st.dropPages rec0.image rec0.track.pages.length).setRecord r { rec0 with link := .unlinked }

/-- Dispose of a record that its entry no longer names (R6): released when its read pin is 0, UNLINKED when it is 1. -/
def Store.dispose (st : Store) (r : RecNo) : Store :=
  if (st.record r).readPin then st.unlink r else st.release r

/-- The position of a key's entry in an image's directory: cylinder-then-head order (R4). -/
def Image.entryAt (im : Image) (key : Key) : Nat := key.cyl * im.heads + key.head

/-- The record a key's entry names; none when it is ABSENT (R4). -/
def Image.entry (im : Image) (key : Key) : Option RecNo := im.directory.getD (im.entryAt key) none

/-- Whether a key lies within an image's geometry (R4, R47). -/
def Image.hasKey (im : Image) (key : Key) : Bool := decide (key.cyl < im.cylinders) && decide (key.head < im.heads)

/-- Installation of a record under its own key (R7): it becomes PRESENT and LINKED, its entry names it, present tracks rises by 1
if the entry was ABSENT, and the record the entry named before is disposed of. -/
def Store.install (st : Store) (r : RecNo) : Store :=
  let rec0 := st.record r
  let im := st.image rec0.image
  let old := im.entry rec0.key
  let st1 := st.setRecord r { rec0 with state := .present, link := .linked }
  let st2 := st1.setImage rec0.image
    { im with
      directory := im.directory.set (im.entryAt rec0.key) (some r),
      presentTracks := match old with
        | none => im.presentTracks + 1
        | some _ => im.presentTracks }
  match old with
  | none => st2
  | some o => st2.dispose o

/-- Removal (R8): the key's entry becomes ABSENT, present tracks falls by 1 and the record is disposed of; nothing changes when
the entry is already ABSENT. -/
def Store.remove (st : Store) (i : ImageNo) (key : Key) : Store :=
  let im := st.image i
  match im.entry key with
  | none => st
  | some r =>
    (st.setImage i { im with directory := im.directory.set (im.entryAt key) none,
                             presentTracks := im.presentTracks - 1 }).dispose r

/-- Dispose of every record a directory names (R15). -/
def Store.disposeAll (st : Store) : List (Option RecNo) → Store
  | [] => st
  | none :: rest => st.disposeAll rest
  | some r :: rest => (st.dispose r).disposeAll rest

/-- Vacating an image (R15). -/
def Store.vacate (st : Store) (i : ImageNo) : Store :=
  (st.disposeAll (st.image i).directory).setImage i Image.vacant

/-- The records of a directory that vacating releases: those whose read pin is 0 (R13, R14). -/
def Store.releasable (st : Store) (i : ImageNo) : List RecNo :=
  ((st.image i).directory.filterMap id).filter fun r => !(st.record r).readPin

/-- The pages that releasing some records returns to the pool. -/
def Store.pagesOf (st : Store) (rs : List RecNo) : Nat := (rs.map fun r => (st.record r).track.pages.length).sum

/-! ## Lookup and checksum (R22, R23) -/

/-- A lookup: the PRESENT record the entry names, or the default track (R22). -/
def Store.lookup (st : Store) (i : ImageNo) (key : Key) : Track :=
  match (st.image i).entry key with
  | some r => (st.record r).track
  | none => defaultTrack (st.image i).layout key

/-- The key of the directory entry at a position (R4). -/
def Image.keyAt (im : Image) (k : Nat) : Key := ⟨k / im.heads, k % im.heads⟩

/-- The image checksum: the sum modulo 2^32 of one track sum per directory entry (R23). -/
def Store.checksum (st : Store) (i : ImageNo) : Nat :=
  ((List.range (st.image i).directory.length).map fun k => (st.lookup i ((st.image i).keyAt k)).sum).sum % 4294967296

/-! ## Slots of the part -/

/-- A drive channel. -/
def Device.chan (d : Device) (c : Chan) : Channel := d.channels.get c

/-- Replace a drive channel. -/
def Device.setChan (d : Device) (c : Chan) (x : Channel) : Device := { d with channels := d.channels.set c.val x c.isLt }

/-- A lot record. -/
def Device.lot (d : Device) (l : LotNo) : Lot := d.lots.get l

/-- Replace a lot record. -/
def Device.setLot (d : Device) (l : LotNo) (x : Lot) : Device := { d with lots := d.lots.set l.val x l.isLt }

/-- A format profile. -/
def Device.profile (d : Device) (p : ProfileNo) : Profile := d.profiles.get p

/-- Replace a format profile. -/
def Device.setProfile (d : Device) (p : ProfileNo) (x : Profile) : Device :=
  { d with profiles := d.profiles.set p.val x p.isLt }

/-- The image record of a slot. -/
def Device.image (d : Device) (i : ImageNo) : Image := d.store.image i

/-- Replace an image record. -/
def Device.setImage (d : Device) (i : ImageNo) (x : Image) : Device := { d with store := d.store.setImage i x }

/-! ## The record of the stream (R9, R11) -/

/-- Whether a stream is open on an image: an inbound stream filling its LOADING record, or an outbound stream whose record is
LINKED and belongs to it (R11). -/
def Device.streamOn (d : Device) (i : ImageNo) : Bool :=
  match d.port.stream with
  | .closed => false
  | .inbound r _ => (d.store.record r).image == i
  | .outbound r _ => (d.store.record r).link == .linked && (d.store.record r).image == i

/-- Closing the outbound stream on record `r`: its read pin returns to 0, and an UNLINKED record is released (R9, R54, R62). -/
def Store.unpinRead (st : Store) (r : RecNo) : Store :=
  let st1 := st.setRecord r { st.record r with readPin := false }
  match (st.record r).link with
  | .linked => st1
  | .unlinked => st1.release r

/-! ## Pins (R16 to R18) -/

/-- One more pin on an image (R16, R80). -/
def Device.pin (d : Device) (i : ImageNo) : Device := d.setImage i { d.image i with pins := (d.image i).pins + 1 }

/-! ## Taking commands -/

/-- The outcome of a command whose effect on the part is `f`: the queue is left to `step`. -/
def onDevice (s : State) (f : Device → Device) : Host.Outcome State Fault Refusal := .next { s with dev := f s.dev }

end Sys2Proof.Machine
end

