-- ==== Sys2Proof/Machine/Flags.lean ====
section
/-! DEFINITION. The notice flags and the levels computed from them: the attention line (R178), the port status byte (R169) and the
attention summary byte (R170). -/

namespace Sys2Proof.Machine

/-! ## Notice positions (R173) -/

/-- CH DONE n. -/
def noticeChDone (c : Chan) : Nat := 1 + c.val

/-- CH ALERT n. -/
def noticeChAlert (c : Chan) : Nat := 7 + c.val

/-- LOT n. -/
def noticeLot (l : LotNo) : Nat := 13 + l.val

/-- IMAGE FREED. -/
def noticeImageFreed : Nat := 21

/-- CAPTURE END. -/
def noticeCaptureEnd : Nat := 22

/-- The word with one position set. -/
def noticeBit (pos : Nat) : BitVec 24 := 1#24 <<< pos

/-- Set a notice flag: a set flag stays set (R173). -/
def Device.notify (d : Device) (pos : Nat) : Device :=
  { d with notices := { d.notices with flags := d.notices.flags ||| noticeBit pos } }

/-! ## Levels -/

/-- REPLY READY: the reply queue is not empty (R174). -/
def Device.replyReady (d : Device) : Bool := !d.port.replies.isEmpty

/-- The notice word: the flags at positions 1 to 22, REPLY READY at position 0 and 0 at position 23 (R175). -/
def Device.noticeWord (d : Device) : BitVec 24 :=
  (d.notices.flags &&& 0x7FFFFE#24) ||| (if d.replyReady then 1#24 else 0#24)

/-- The attention line is asserted: some enabled flag is set, or REPLY READY is true and enabled (R178). While the RESET input is
asserted the line is held deasserted (R179). -/
def Device.lineAsserted (d : Device) : Bool := !d.resetInput && (d.noticeWord &&& d.notices.enable != 0#24)

/-- The attention line's level: high when asserted on an active-high line or deasserted on an active-low one (R178). -/
def Device.lineHigh (d : Device) : Bool := d.lineAsserted == d.notices.activeHigh

/-- A byte from its bits, bit 0 first. -/
def byteOfBits (bits : List Bool) : Byte := BitVec.ofNat 8 (bits.foldr (fun b n => b.toNat + 2 * n) 0)

/-- The port status byte, read at Frame (R169, section 8.8). -/
def Device.statusByte (d : Device) : Byte :=
  byteOfBits [decide (d.port.requests.length < 4), d.replyReady, d.port.frame.isSome, d.port.postRefused,
    match d.port.stream with
      | .inbound _ _ => true
      | _ => false,
    match d.port.stream with
      | .outbound _ _ => true
      | _ => false,
    d.port.streamFault, d.lineAsserted]

/-- Whether a flag among the given positions is set and enabled. -/
def Device.causeAmong (d : Device) (positions : BitVec 24) : Bool :=
  d.noticeWord &&& d.notices.enable &&& positions != 0#24

/-- The attention summary byte, read at Control (R170). -/
def Device.attentionSummary (d : Device) : Byte :=
  byteOfBits [d.causeAmong 0x000001#24, d.causeAmong 0x00007E#24, d.causeAmong 0x001F80#24, d.causeAmong 0x01E000#24,
    d.causeAmong 0x1E0000#24, d.causeAmong 0x200000#24, d.causeAmong 0x400000#24,
    d.noticeWord &&& ~~~d.notices.enable &&& 0x7FFFFE#24 != 0#24]

/-- What a read of Frame returns: the port status byte, or 00h while the RESET input is asserted (R159, R172). It changes nothing
and has no row in the table (log 25). -/
def Device.readFrame (d : Device) : Byte := if d.resetInput then 0 else d.statusByte

/-- What a read of Control returns: the attention summary byte, or 00h while the RESET input is asserted (R159, R172). It changes
nothing and has no row in the table (log 25). -/
def Device.readControl (d : Device) : Byte := if d.resetInput then 0 else d.attentionSummary

/-- Clear the flags a mask names; positions 0 and 23 are ignored (R176). -/
def Device.clearNotices (d : Device) (mask : BitVec 24) : Device :=
  { d with notices := { d.notices with flags := d.notices.flags &&& ~~~mask } }

end Sys2Proof.Machine
end

