-- ==== Sys2Proof/Machine/Operands.lean ====
section
/-! DEFINITION. The operand forms of requests and replies: slot numbers, keys and flags as parameters (R163), and result fields
as bytes (R164). -/

namespace Sys2Proof.Machine

/-! ## Results of a request -/

/-- What the owning block answers: a completion code and result bytes (R164). -/
structure Response where
  completion : Completion
  result : List Byte
  deriving DecidableEq, Repr

/-- OK with result bytes. -/
def answerOk (d : Device) (result : List Byte) : Device × Response := (d, ⟨.ok, result⟩)

/-- STARTED, which carries no result bytes here (R71, R145). -/
def answerStarted (d : Device) : Device × Response := (d, ⟨.started, []⟩)

/-- A refusal: it changes nothing and carries no result bytes (R164, R166). -/
def refuse (d : Device) (code : Completion) : Device × Response := (d, ⟨code, []⟩)

/-- A request's checks in their order, each with the code that refuses the request when the check fails; `k` is what the request
does when every check passes. -/
def checked (d : Device) : List (Bool × Completion) → Device × Response → Device × Response
  | [], k => k
  | (ok, code) :: rest, k => if ok then checked d rest k else refuse d code

/-- Whether a value lies in an inclusive range. -/
def within (lo hi n : Nat) : Bool := decide (lo ≤ n) && decide (n ≤ hi)

/-! ## Parameters that name a slot -/

/-- Check a slot number against the number of slots, refusing NO_SUCH (R92, R66, section 1.3). -/
def withSlot (n : Nat) (b : Byte) (d : Device) (k : Fin n → Device × Response) : Device × Response :=
  if h : b.toNat < n then k ⟨b.toNat, h⟩ else refuse d .noSuch

/-- The key two parameter bytes give. -/
def keyOf (cyl head : Byte) : Key := ⟨cyl.toNat, head.toNat⟩

/-- A lot parameter that may be none, sent as FFh (R114, R163): none when out of range. -/
def lotOrNone (b : Byte) : Option (Option LotNo) :=
  if b = 0xFF then some none else if h : b.toNat < 8 then some (some ⟨b.toNat, h⟩) else none

/-! ## Result fields (R164): natural width, low byte first; absent or none with every bit set -/

/-- A one-byte field. -/
def u8 (n : Nat) : List Byte := [BitVec.ofNat 8 n]

/-- A two-byte field. -/
def u16 (n : Nat) : List Byte := halfBytes (BitVec.ofNat 16 n)

/-- A four-byte field. -/
def u32 (n : Nat) : List Byte := wordBytes (BitVec.ofNat 32 n)

/-- A flag: 0 or 1. -/
def uFlag (b : Bool) : List Byte := if b then [1] else [0]

/-- A field of `k` bytes reported as absent or none: every bit set. -/
def uAbsent (k : Nat) : List Byte := List.replicate k 0xFF

/-- A one-byte field that may be absent. -/
def u8? (o : Option Nat) : List Byte :=
  match o with
  | some n => u8 n
  | none => uAbsent 1

/-- A two-byte field that may be absent. -/
def u16? (o : Option Nat) : List Byte :=
  match o with
  | some n => u16 n
  | none => uAbsent 2

/-- A four-byte field that may be absent. -/
def u32? (o : Option Nat) : List Byte :=
  match o with
  | some n => u32 n
  | none => uAbsent 4

/-- A key: cylinder and head; an absent key is FFh FFh. -/
def uKey (k : Option Key) : List Byte :=
  match k with
  | some k => u8 k.cyl ++ u8 k.head
  | none => uAbsent 2

/-- A channel, or none as FFh. -/
def uChan (c : Option Chan) : List Byte := u8? (c.map Fin.val)

/-! ## Named values, by their position in the list of the record field that holds them (R164) -/

/-- R1's image states. -/
def ImageState.pos : ImageState → Nat
  | .vacant => 0
  | .building => 1
  | .sealed => 2
  | .retiring => 3

/-- R66's lot states. -/
def LotState.pos : LotState → Nat
  | .vacant => 0
  | .ready => 1
  | .running => 2
  | .held => 3
  | .filled => 4
  | .exhausted => 5
  | .closing => 6
  | .closed => 7

/-- R66's encodings. -/
def Encoding.pos : Encoding → Nat
  | .ascii => 0
  | .bcd => 1

/-- R66's verify modes. -/
def VerifyMode.pos : VerifyMode → Nat
  | .none => 0
  | .crc => 1
  | .full => 2

/-- R92's channel states. -/
def ChanState.pos : ChanState → Nat
  | .offline => 0
  | .idle => 1
  | .feeding => 2
  | .starved => 3
  | .loaded => 4
  | .spinup => 5
  | .calibrating => 6
  | .copying => 7
  | .held => 8
  | .capturing => 9
  | .ejecting => 10
  | .jammed => 11
  | .fault => 12

/-- R92's work values. -/
def Work.pos : Work → Nat
  | .none => 0
  | .copy => 1
  | .capture => 2

/-- R93's fault reasons, as R92 lists them. -/
def FaultReason.pos : FaultReason → Nat
  | .noIndex => 0
  | .speed => 1
  | .noTrack0 => 2

/-- The bins, as R92 lists them. -/
def Bin.pos : Bin → Nat
  | .good => 0
  | .reject => 1

/-- R94's reject reasons. -/
def RejectReason.pos : RejectReason → Nat
  | .writeProtected => 0
  | .mediaLost => 1
  | .trackFailed => 2
  | .timeLimit => 3
  | .overfull => 4
  | .aborted => 5
  | .driveFault => 6

/-- R130's verify faults, in the order of its table. -/
def VerifyKind.pos : VerifyKind → Nat
  | .idCrc => 0
  | .idMismatch => 1
  | .sectorMissing => 2
  | .dataCrc => 3
  | .dataMismatch => 4
  | .sumMismatch => 5

/-- R119's phases; none is sent as FFh. -/
def CopyPhase.pos : CopyPhase → Nat
  | .seek => 0
  | .indexWait => 1
  | .write => 2
  | .verify => 3
  | .recal => 4

/-- R143's capture states. -/
def CaptureState.pos : CaptureState → Nat
  | .idle => 0
  | .running => 1
  | .ended => 2

/-- R143's capture phases; none is sent as FFh. -/
def CapturePhase.pos : CapturePhase → Nat
  | .spinup => 0
  | .seek => 1
  | .indexWait => 2
  | .scan => 3
  | .read => 4

/-- R153's failure reasons. -/
def FailReason.pos : FailReason → Nat
  | .tooMany => 0
  | .idCrc => 1
  | .badSize => 2
  | .overfull => 3
  | .idChanged => 4
  | .noData => 5
  | .dataCrc => 6

/-- R143's end reasons; none is sent as FFh. -/
def EndReason.pos : EndReason → Nat
  | .complete => 0
  | .aborted => 1
  | .noSpace => 2
  | .mediaLost => 3
  | .driveFault => 4

/-- The completion codes' byte values (R166). -/
def Completion.byte : Completion → Byte
  | .ok => 0x00
  | .started => 0x01
  | .badCode => 0x10
  | .badLength => 0x11
  | .badValue => 0x12
  | .noSuch => 0x13
  | .wrongState => 0x14
  | .busy => 0x15
  | .noSpace => 0x16
  | .overfull => 0x17
  | .lotsBound => 0x18
  | .patchSite => 0x19
  | .fillSector => 0x1A
  | .mediaPresent => 0x1B

/-- The reason of a fault record (R93). -/
def FaultRecord.reason : FaultRecord → FaultReason
  | .noIndex _ => .noIndex
  | .speed _ => .speed
  | .noTrack0 _ => .noTrack0

/-- The detail value of a fault record as a number: a state by its position, a period in µs, or a step count (R93). -/
def FaultRecord.detail : FaultRecord → Nat
  | .noIndex s => s.pos
  | .speed p => p
  | .noTrack0 k => k

/-- A fault record: reason, then detail in four bytes (logs 14, 18). -/
def uFault (f : Option FaultRecord) : List Byte :=
  u8? (f.map fun x => x.reason.pos) ++ u32? (f.map FaultRecord.detail)

/-- A verify fault record: kind, key, attempt, slot and logical index (R130, log 14). -/
def uVerifyFault (f : Option VerifyFault) : List Byte :=
  u8? (f.map fun x => x.kind.pos) ++ uKey (f.map VerifyFault.key) ++ u8? (f.map VerifyFault.attempt) ++
    u8? (f.bind VerifyFault.slot) ++ u8? (f.bind VerifyFault.logical)

/-- A patch site: cylinder, head, sector index and two bytes of offset. -/
def uPatch (p : Option PatchSite) : List Byte :=
  u8? (p.map PatchSite.cyl) ++ u8? (p.map PatchSite.head) ++ u8? (p.map PatchSite.sector) ++ u16? (p.map PatchSite.offset)

/-- The eight fields of a default layout (R24, R65). -/
def uLayout (l : Layout) : List Byte :=
  u8 l.sectors ++ u8 l.size.val ++ u8 l.firstSector ++ u8 l.gap3 ++ [l.fill] ++ u8 l.interleave ++ u8 l.cylSkew ++
    u8 l.headSkew

/-- A sector entry of a TRACK QUERY reply (section 8.8): a DATA entry reports a fill value of 0 (R60). -/
def uSector (e : SectorEntry) : List Byte :=
  [e.idCyl, e.idHead, e.idSec] ++ u8 e.size.val ++
    u8 ((if e.mark = .deleted then 1 else 0) + (if e.isData then 0 else 2)) ++
    (match e.store with
      | .data => [0]
      | .fill v => [v])

/-- The bytes of a reply as the host reads them at Body: the length byte, the header and the result (R164, section 8.8). -/
def Reply.bytes (r : Reply) : List Byte :=
  u8 (3 + r.result.length) ++ [r.tag, r.code, r.completion.byte] ++ r.result

end Sys2Proof.Machine
end

