-- ==== Sys2Proof/Machine/LotOps.lean ====
section
/-! DEFINITION. The lot record's own operations (chapter 4): serial issue and return, the admission test, and what a copy end does
to the counts and the state. -/

namespace Sys2Proof.Machine

/-- A count that stops at 65 535 (R66). -/
def satSucc (n : Nat) : Nat := if n < 65535 then n + 1 else n

/-- One more reject of a reason in the tally (R84, R87). -/
def Tally.bump (t : Tally) (r : RejectReason) : Tally :=
  match r with
  | .writeProtected => { t with writeProtected := satSucc t.writeProtected }
  | .mediaLost => { t with mediaLost := satSucc t.mediaLost }
  | .trackFailed => { t with trackFailed := satSucc t.trackFailed }
  | .timeLimit => { t with timeLimit := satSucc t.timeLimit }
  | .overfull => { t with overfull := satSucc t.overfull }
  | .aborted => { t with aborted := satSucc t.aborted }
  | .driveFault => { t with driveFault := satSucc t.driveFault }

/-- Whether a lot is serialized: digits above 0 (R66). -/
def Lot.serialized (l : Lot) : Bool := decide (0 < l.digits)

/-- RUNNING with good + in-flight below target: the lot is open to admission (R82), and the lot's half of the feed condition (R96). -/
def Lot.isOpen (l : Lot) : Bool := l.state == .running && decide (l.good + l.inFlight < l.target)

/-- A serial is obtainable: the reissue list is not empty or next is at most last (R79). -/
def Lot.obtainable (l : Lot) : Bool := !l.reissue.isEmpty || decide (l.next ≤ l.last)

/-- Issue a serial: the lowest reissue entry, else next, which rises by 1; an unserialized lot issues none (R79). -/
def Lot.issue (l : Lot) : Lot × Option Nat :=
  if l.serialized then
    match l.reissue with
    | x :: xs => ({ l with reissue := xs }, some x)
    | [] => ({ l with next := l.next + 1 }, some l.next)
  else (l, none)

/-- The lot's answer to an admission request (R78, R99). -/
inductive AdmissionAnswer where
  | granted (serial : Option Nat)
  | notRunning
  | filled
  | exhausted
  | closed
  | full
  deriving DecidableEq, Repr

/-- The refusal of a lot that is not RUNNING, by its state (R78). R78 gives a VACANT lot no answer, since no channel is
assigned to one: it refuses NOT_RUNNING (DEDUCED, log 27). -/
def LotState.refusal : LotState → AdmissionAnswer
  | .filled => .filled
  | .exhausted => .exhausted
  | .closing | .closed => .closed
  | .vacant | .ready | .held | .running => .notRunning

/-- The admission tests of R78 in their order, with the lot as the request leaves it (R79, R80). -/
def Lot.admission (l : Lot) : Lot × AdmissionAnswer :=
  if l.state ≠ .running then (l, l.state.refusal)
  else if ¬ l.good + l.inFlight < l.target then (l, .full)
  else if l.serialized && !l.obtainable then ({ l with state := .exhausted }, .exhausted)
  else ({ l.issue.1 with inFlight := l.inFlight + 1 }, .granted l.issue.2)

/-- Insert a serial at its place in ascending order (R67). -/
def insertSerial (x : Nat) : List Nat → List Nat
  | [] => [x]
  | y :: ys => if x ≤ y then x :: y :: ys else y :: insertSerial x ys

/-- Whether a returned serial enters the reissue list: reissue is enabled and the list holds fewer than 16 entries (R67). -/
def Lot.takesBack (l : Lot) : Bool := l.reissueEnable && decide (l.reissue.length < 16)

/-- Return of a serial: into the reissue list, or void rises by 1 (R67, R84). -/
def Lot.giveBack (l : Lot) (serial : Option Nat) : Lot :=
  match serial with
  | none => l
  | some x => if l.takesBack then { l with reissue := insertSerial x l.reissue } else { l with void := l.void + 1 }

/-- The counts at a copy end (R84). -/
def Lot.countEnd (l : Lot) (o : CopyOutcome) (serial : Option Nat) : Lot :=
  match o with
  | .good => { l with inFlight := l.inFlight - 1, good := l.good + 1 }
  | .reject r =>
    { l with inFlight := l.inFlight - 1, rejects := satSucc l.rejects, tally := l.tally.bump r }.giveBack serial

/-- The good count rose at this copy end to equal a mark that is not 0 (R76). -/
def Lot.markReached (l : Lot) (o : CopyOutcome) : Bool := o == .good && l.mark != 0 && l.good + 1 == l.mark

/-- The state after a copy end of outcome `o` and serial `serial` (R85, R86); `l` is the lot before the counts. -/
def Lot.stateAfterEnd (l : Lot) (o : CopyOutcome) (serial : Option Nat) : LotState :=
  match l.state with
  | .running => if (l.countEnd o serial).good = l.target then .filled else .running
  | .exhausted => if o ≠ .good ∧ serial.isSome ∧ l.takesBack then .running else .exhausted
  | .closing => if (l.countEnd o serial).inFlight = 0 then .closed else .closing
  | s => s

/-- The lot after a copy end (R84, R85, R86). -/
def Lot.afterEnd (l : Lot) (o : CopyOutcome) (serial : Option Nat) : Lot :=
  { l.countEnd o serial with state := l.stateAfterEnd o serial }

/-- The LOT notice is set at a copy end: the lot enters FILLED or CLOSED, or its good count reaches the mark (R89). -/
def Lot.noticeAtEnd (l : Lot) (o : CopyOutcome) (serial : Option Nat) : Bool :=
  l.markReached o || (l.state == .running && l.stateAfterEnd o serial == .filled) ||
    (l.state == .closing && l.stateAfterEnd o serial == .closed)

/-- Admission open is signalled at a copy end: a revival, or a reject in RUNNING that freed a place when good + in-flight had been
equal to target (R82, R85). -/
def Lot.signalAtEnd (l : Lot) (o : CopyOutcome) (serial : Option Nat) : Bool :=
  (l.state == .exhausted && l.stateAfterEnd o serial == .running) ||
    (l.state == .running && o != .good && l.good + l.inFlight == l.target)

/-- The lot's record of a PROTECTED reject (R87): counted in every state except VACANT. -/
def Lot.protectedReject (l : Lot) : Lot :=
  if l.state = .vacant then l else { l with rejects := satSucc l.rejects, tally := l.tally.bump .writeProtected }

/-- The state a HELD lot resumes to (R73). -/
def Lot.resumed (l : Lot) : LotState :=
  if l.good = l.target then .filled
  else if l.serialized ∧ l.good + l.inFlight < l.target ∧ l.reissue = [] ∧ l.last < l.next then .exhausted
  else .running

end Sys2Proof.Machine
end

