-- ==== Sys2Proof/Machine/ChannelOps.lean ====
section
/-! DEFINITION. What a drive channel does by itself (chapter 5): lines and timers, feeding, the admission point, ejecting, and head
movement; and the admission-open signal of a lot (R82), which reaches several channels. -/

namespace Sys2Proof.Machine

/-! ## Lines and timers -/

/-- The length of the spin-up wait in ms (R100). -/
def spinUpWaitMs : Nat := 500

/-- The length of the index timer in ms (R101). -/
def indexTimeoutMs : Nat := 400

/-- The length of the feed timer in ms (R96). -/
def feedTimeoutMs : Nat := 4000

/-- The length of the eject timer in ms (R106). -/
def ejectTimeoutMs : Nat := 3000

/-- The step-out limit of a calibration (R102). -/
def stepOutLimit : Nat := 90

/-- Update a drive channel. -/
def Device.modChan (d : Device) (c : Chan) (f : Channel → Channel) : Device := d.setChan c (f (d.chan c))

/-- The levels of a bay's input lines at the instant of a bay command (log 4). -/
def Device.sample (d : Device) (c : Chan) (l : Lines) : Device := d.modChan c fun ch => { ch with lines := l }

/-- Motor and write gate off, every timer, measurement and head movement abandoned (R105, R109, R113). -/
def Channel.stopDrive (ch : Channel) : Channel :=
  { ch with out := { ch.out with motor := false, writeGate := false, writeData := [] }, timers := Timers.stopped,
            measure := .none, motion := .none }

/-- One step pulse, inward or outward: the head cylinder moves by one, and a pulse outward at 0 leaves it at 0 (R102, R103). The
step interval timer starts. -/
def Channel.pulse (ch : Channel) (inward : Bool) : Channel :=
  { ch with headCyl := if inward then ch.headCyl + 1 else ch.headCyl - 1,
            out := { ch.out with directionIn := inward, stepPulses := ch.out.stepPulses + 1 },
            timers := { ch.timers with step := some ch.stepInterval } }

/-- Start the settle timer, the step interval timer being stopped. -/
def Channel.startSettle (ch : Channel) (m : Motion) : Channel :=
  { ch with motion := m, timers := { ch.timers with step := none, settle := some ch.settle } }

/-! ## Feeding (R96) -/

/-- The feed condition: hold flag clear, an assigned lot, that lot RUNNING with good + in-flight below its target (R96). -/
def Device.feedCondition (d : Device) (c : Chan) : Bool :=
  !(d.chan c).hold && (match (d.chan c).lot with
    | some l => (d.lot l).isOpen
    | none => false)

/-- An IDLE channel evaluates the feed condition, and feeds if it holds (R96). -/
def Device.evalFeed (d : Device) (c : Chan) : Device :=
  if (d.chan c).state = .idle ∧ d.feedCondition c then
    d.modChan c fun ch => { ch with state := .feeding, out := { ch.out with feed := true },
                                    timers := { ch.timers with feed := some feedTimeoutMs } }
  else d

/-- Entry into IDLE, which evaluates the feed condition (R96). -/
def Device.enterIdle (d : Device) (c : Chan) : Device := (d.modChan c fun ch => { ch with state := .idle }).evalFeed c

/-! ## Ejecting (R106) -/

/-- Begin an eject to a bin: record it, drive bin select, assert eject, start the 3 s timer, enter EJECTING (R106). -/
def Device.beginEject (d : Device) (c : Chan) (bin : Bin) : Device :=
  d.modChan c fun ch => { ch with state := .ejecting, ejectBin := bin, out := { ch.out with bin := bin, eject := true },
                                  timers := { ch.timers with eject := some ejectTimeoutMs } }

/-- The diskette has left an EJECTING or JAMMED channel: eject off, timer stopped, bin select GOOD; then FAULT with CH ALERT when a
fault is pending, else IDLE and the feed condition (R106, R107). -/
def Device.completeEject (d : Device) (c : Chan) : Device :=
  let d1 := d.modChan c fun ch => { ch with out := { ch.out with eject := false, bin := .good },
                                            timers := { ch.timers with eject := none } }
  if (d.chan c).faultPending then
    (d1.modChan c fun ch => { ch with state := .fault, faultPending := false }).notify (noticeChAlert c)
  else d1.enterIdle c

/-! ## The admission point (R98, R99) -/

/-- A LOADED channel is at the admission point: hold and master flags clear, with an assigned lot, which is the answer (R98). -/
def Device.admissionLot (d : Device) (c : Chan) : Option LotNo :=
  if (d.chan c).state = .loaded ∧ (d.chan c).hold = false ∧ (d.chan c).master = false then (d.chan c).lot else none

/-- The last outcome of a PROTECTED reject (R94). -/
def protectedOutcome (l : LotNo) : LastOutcome :=
  { outcome := .reject .writeProtected, faultReason := none, lot := l, serial := none, failedKey := none, verifyFault := none,
    written := 0, rewrites := 0 }

/-- A PROTECTED reject: the lot counts it, the channel writes its last outcome, CH DONE is set and an eject to the REJECT bin
begins (R87, R98). -/
def Device.protectedReject (d : Device) (c : Chan) (l : LotNo) : Device :=
  (((d.setLot l (d.lot l).protectedReject).modChan c fun ch => { ch with last := some (protectedOutcome l) }).notify
    (noticeChDone c)).beginEject c .reject

/-- The copy context a grant begins, from the admitting lot (R80, R119). -/
def beginContext (l : LotNo) (x : Lot) (serial : Option Nat) : CopyContext :=
  { lot := l, image := x.image, serial := serial, digits := x.digits, encoding := x.encoding, patch := x.patch,
    verify := x.verify, retryLimit := x.retryLimit, budget := x.budget, key := none, plan := none, phase := none, attempt := 0,
    failures := 0, counter := none, written := 0, rewrites := 0, lastFault := none, reader := VerifyReader.start }

/-- Entry to SPINUP: the motor is turned on and the spin-up wait starts (R100). -/
def Channel.enterSpinup (ch : Channel) (w : Work) : Channel :=
  { ch with state := .spinup, work := w, out := { ch.out with motor := true },
            timers := { ch.timers with spinUp := some spinUpWaitMs }, measure := .none, motion := .none }

/-- An admission request of channel `c` to lot `l`, and the channel's part of the answer (R78 to R80, R99). -/
def Device.requestAdmission (d : Device) (c : Chan) (l : LotNo) : Device :=
  let d1 := d.setLot l (d.lot l).admission.1
  match (d.lot l).admission.2 with
  | .granted serial =>
    (d1.pin (d.lot l).image).modChan c fun ch =>
      { ch.enterSpinup .copy with ctx := some (beginContext l (d.lot l) serial) }
  | .exhausted => if (d.lot l).state = .running then d1.notify (noticeLot l) else d1
  | .notRunning | .filled | .closed | .full => d1

/-- A LOADED channel reaches the admission point, if it is at it: a write-protected diskette is rejected, a writable one asks the
lot (R98). -/
def Device.admissionPoint (d : Device) (c : Chan) : Device :=
  match d.admissionLot c with
  | none => d
  | some l => if (d.chan c).lines.writeProtect then d.protectedReject c l else d.requestAdmission c l

/-- Entry into LOADED, which brings the channel to the admission point (R98). -/
def Device.enterLoaded (d : Device) (c : Chan) : Device :=
  (d.modChan c fun ch => { ch with state := .loaded }).admissionPoint c

/-! ## The admission-open signal (R82) -/

/-- What a channel does on its lot's signal: IDLE evaluates the feed condition, LOADED reaches the admission point (R96, R98). -/
def Device.answerSignal (d : Device) (c : Chan) : Device :=
  match (d.chan c).state with
  | .idle => d.evalFeed c
  | .loaded => d.admissionPoint c
  | .offline | .feeding | .starved | .spinup | .calibrating | .copying | .held | .capturing | .ejecting | .jammed | .fault => d

/-- Insert a channel at a position, or at the end of a shorter list. -/
def insertChan (c : Chan) : List Chan → Nat → List Chan
  | [], _ => [c]
  | x :: xs, 0 => c :: x :: xs
  | x :: xs, k + 1 => x :: insertChan c xs k

/-- Some channels in the order in which they answer the `k`-th signal: a free order, every permutation being possible (log 9). -/
def arrivalOrder (k : Nat) : List Chan → List Chan
  | [] => []
  | c :: cs => insertChan c (arrivalOrder k cs) (Config.arrivalSlot k c)

/-- The channels assigned to a lot. -/
def Device.assigned (d : Device) (l : LotNo) : List Chan := (List.finRange 6).filter fun c => (d.chan c).lot == some l

/-- A lot signals admission open to every channel assigned to it (R82); they answer one at a time, in a free order (R81, log 9). -/
def Device.signalOpen (d : Device) (l : LotNo) : Device :=
  (arrivalOrder d.freeCount (d.assigned l)).foldl Device.answerSignal { d with freeCount := d.freeCount + 1 }

/-! ## Head movement (R102 to R104) -/

/-- Track zero has been found in a calibration: cylinder 0, calibrated, and the settle timer starts (R102). -/
def Channel.calibrated0 (ch : Channel) : Channel := { ch with headCyl := 0, calibrated := true }.startSettle .calSettle

/-- Entry to CALIBRATING: head 0, direction out, and track zero read (R102). -/
def Channel.enterCalibrating (ch : Channel) : Channel :=
  let ch1 := { ch with state := .calibrating, measure := .none, out := { ch.out with head := 0, directionIn := false } }
  if ch.lines.trackZero then ch1.calibrated0 else { ch1.pulse false with motion := .calOut 1 }

/-- A seek to another cylinder: direction set, and the first pulse at the request (R103). -/
def Channel.startSeek (ch : Channel) (target : Nat) : Channel :=
  { ch.pulse (decide (ch.headCyl < target)) with motion := .seek target }

/-- Track zero has been found in a recalibration: step in to the cylinder it was asked at, or settle when that is 0 (R104). -/
def Channel.recalFound (ch : Channel) (back : Nat) : Channel :=
  if back = 0 then { ch with headCyl := 0 }.startSettle .recalSettle
  else { { ch with headCyl := 0 }.pulse true with motion := .recalIn back }

/-- A recalibration asked at the present cylinder (R104). -/
def Channel.startRecal (ch : Channel) : Channel :=
  let ch1 := { ch with out := { ch.out with directionIn := false } }
  if ch.lines.trackZero then ch1.recalFound ch.headCyl else { ch1.pulse false with motion := .recalOut 1 ch.headCyl }

end Sys2Proof.Machine
end

