-- ==== Sys2Proof/Machine/CopyOps.lean ====
section
/-! DEFINITION. The copy engine (chapter 6): beginning a track, the write and verify revolutions, retries, the revolution budget,
track boundaries, and the copy end. -/

namespace Sys2Proof.Machine

/-! ## The copy end (R105, R139) -/

/-- A copy end lowers the image's pins by 1, and completes a retirement that this brings to 0 pins (R17, R18). -/
def Device.unpin (d : Device) (i : ImageNo) : Device :=
  let d1 := d.setImage i { d.image i with pins := (d.image i).pins - 1 }
  if (d.image i).state = .retiring ∧ (d1.image i).pins = 0 then
    ({ d1 with store := d1.store.vacate i }).notify noticeImageFreed
  else d1

/-- The lot's accounting of a copy end, with its notice (R84 to R86, R89). -/
def Device.accountEnd (d : Device) (l : LotNo) (o : CopyOutcome) (serial : Option Nat) : Device :=
  let d1 := d.setLot l ((d.lot l).afterEnd o serial)
  if (d.lot l).noticeAtEnd o serial then d1.notify (noticeLot l) else d1

/-- The last outcome record of a copy (R94): the fault reason is present when the reason is DRIVE_FAULT. -/
def Channel.closingOutcome (ch : Channel) (x : CopyContext) (o : CopyOutcome) (failedKey : Option Key) : LastOutcome :=
  { outcome := o, faultReason := if o = .reject .driveFault then ch.fault.map FaultRecord.reason else none, lot := x.lot,
    serial := x.serial, failedKey := failedKey, verifyFault := x.lastFault, written := x.written, rewrites := x.rewrites }

/-- The bin of a copy's diskette (R105). -/
def CopyOutcome.bin : CopyOutcome → Bin
  | .good => .good
  | .reject _ => .reject

/-- The copy end on a channel (R105, R139): the drive stops, lot and image account the end, the last outcome is written, CH DONE is
set, the context closes, and the channel ejects, or after MEDIA_LOST enters IDLE. A signal of the lot is answered when every
account is made (log 10). With no context there is no copy to end. -/
def Device.copyEnd (d : Device) (c : Chan) (o : CopyOutcome) (failedKey : Option Key) : Device :=
  match (d.chan c).ctx with
  | none => d
  | some x =>
    let signal := (d.lot x.lot).signalAtEnd o x.serial
    let d1 := (d.accountEnd x.lot o x.serial).unpin x.image
    let d2 := (d1.modChan c fun ch =>
      { ch.stopDrive with last := some (ch.closingOutcome x o failedKey), work := .none, ctx := none }).notify (noticeChDone c)
    if o = .reject .mediaLost then
      let d3 := d2.modChan c fun ch => { ch with state := .idle }
      (if signal then d3.signalOpen x.lot else d3).evalFeed c
    else
      let d3 := d2.beginEject c o.bin
      if signal then d3.signalOpen x.lot else d3

/-- The failed key of an end that the channel decides: the current key when a track is in progress (R138). -/
def CopyContext.keyInProgress (x : CopyContext) : Option Key :=
  match x.phase with
  | some _ => x.key
  | none => none

/-- A copy end decided by the channel (R109, R110, R113, R138). -/
def Device.copyCut (d : Device) (c : Chan) (r : RejectReason) : Device :=
  d.copyEnd c (.reject r) ((d.chan c).ctx.bind CopyContext.keyInProgress)

/-! ## Beginning a track (R121 to R124) -/

/-- Update a channel's copy context. -/
def Device.setCtx (d : Device) (c : Chan) (x : CopyContext) : Device := d.modChan c fun ch => { ch with ctx := some x }

/-- The key after a key in an image, in cylinder-then-head order; none after the last (R121). -/
def Image.nextKey (im : Image) (key : Key) : Option Key :=
  if key.head + 1 < im.heads then some ⟨key.cyl, key.head + 1⟩
  else if key.cyl + 1 < im.cylinders then some ⟨key.cyl + 1, 0⟩
  else none

/-- The patch of the plan at a key: on a copy with a serial, at the key of the patch site (R123). -/
def CopyContext.patchAt (x : CopyContext) (key : Key) : Option Patch :=
  match x.serial, x.patch with
  | some serial, some site =>
    if (⟨site.cyl, site.head⟩ : Key) = key then
      some ⟨site.sector, site.offset, renderSerial x.encoding x.digits serial⟩
    else none
  | _, _ => none

/-- The expected sum of a track (R44). -/
def expectedSum (m : List Host.Cell) (t : Track) (patch : Option Patch) : Nat :=
  match patch with
  | none => t.sum
  | some p => patchedSum t.sum (sectorBytes m t p.sector p.offset p.bytes.length) p.bytes

/-- The track plan at a key, with the effective gap 3 found by the clamp (R122). -/
def makePlan (m : List Host.Cell) (t : Track) (gEff : Nat) (patch : Option Patch) : Plan :=
  { gEff := gEff, slots := t.slotMap, track := t, expected := expectedSum m t patch, patch := patch }

/-- Position the head for a track that has begun: a seek to another cylinder, else head select and INDEX WAIT at once (R124). -/
def Channel.position (ch : Channel) (x : CopyContext) (key : Key) : Channel :=
  if ch.headCyl = key.cyl then
    { ch with ctx := some { x with phase := some .indexWait }, out := { ch.out with head := key.head } }
  else { ch.startSeek key.cyl with ctx := some { x with phase := some .seek } }

/-- The engine begins a track (R122): it looks the key up, computes the plan or ends the copy OVERFULL, and positions the head. -/
def Device.beginTrack (d : Device) (c : Chan) (key : Key) : Device :=
  match (d.chan c).ctx with
  | none => d
  | some x =>
    let x1 := { x with key := some key, attempt := 1, failures := 0, counter := none }
    let t := d.store.lookup x.image key
    match effectiveGap (d.image x.image).rate (d.chan c).period t with
    | none => (d.setCtx c x1).copyEnd c (.reject .overfull) (some key)
    | some g =>
      d.modChan c fun ch =>
        ch.position { x1 with plan := some (makePlan d.store.memory t g (x.patchAt key)) } key

/-- The channel enters COPYING from CALIBRATING, and the engine begins the first track (R102, R121). -/
def Device.enterCopying (d : Device) (c : Chan) : Device :=
  (d.modChan c fun ch => { ch with state := .copying }).beginTrack c ⟨0, 0⟩

/-! ## Track boundaries (R134, R135) -/

/-- The engine goes on with the key after the current one (R135, R136). -/
def Device.beginNext (d : Device) (c : Chan) : Device :=
  match (d.chan c).ctx with
  | none => d
  | some x =>
    match x.key with
    | none => d
    | some k =>
      match (d.image x.image).nextKey k with
      | none => d
      | some k' => d.beginTrack c k'

/-- A track is done (R134): tracks written rises, the plan is released, the counter stops; then the copy ends GOOD at the last key,
or at the boundary the next track begins or the channel enters HELD (R135). -/
def Device.trackDone (d : Device) (c : Chan) : Device :=
  match (d.chan c).ctx with
  | none => d
  | some x =>
    let d1 := d.setCtx c { x with written := x.written + 1, plan := none, counter := none }
    match x.key.bind (d.image x.image).nextKey with
    | none => d1.copyEnd c .good none
    | some k' =>
      if (d.chan c).hold then
        d1.modChan c fun ch =>
          { ch with state := .held,
                    ctx := some { x with written := x.written + 1, plan := none, counter := none, phase := none } }
      else d1.beginTrack c k'

/-! ## The write revolution (R125 to R127) -/

/-- The opening pulse of a write revolution: WRITE is entered, the write gate asserted and the track driven on write data (R125,
R126); rewrites rises on an attempt above the first. -/
def Channel.openWrite (ch : Channel) (x : CopyContext) (m : List Host.Cell) (count : Nat) : Channel :=
  { ch with
    ctx := some { x with phase := some .write, counter := some count,
                         rewrites := if 1 < x.attempt then x.rewrites + 1 else x.rewrites },
    out := { ch.out with writeGate := true, writeData := match x.plan with
      | some p => writeStream m p
      | none => [] } }

/-- The write gate drops and write data goes idle (R126). -/
def Channel.closeWrite (ch : Channel) : Channel := { ch with out := { ch.out with writeGate := false, writeData := [] } }

/-- The revolution counter after a pulse taken while it is started (R133). -/
def CopyContext.counted (x : CopyContext) : Nat := x.counter.getD 0 + 1

/-- The copy ends TIME_LIMIT with the current key (R133, step 3). -/
def Device.timeLimit (d : Device) (c : Chan) (x : CopyContext) : Device :=
  (d.setCtx c { x with counter := some x.counted }).copyEnd c (.reject .timeLimit) x.key

/-! ## The verify revolution (R128 to R131) -/

/-- Record a fault of the pass, unless one has been detected before it (R130). -/
def VerifyReader.note (r : VerifyReader) (kind : VerifyKind) (slot : Nat) : VerifyReader :=
  match r.fault with
  | some _ => r
  | none => { r with fault := some (kind, slot) }

/-- The data block of the last ID block found is missing when the next ID block or the ending pulse arrives (R129). -/
def VerifyReader.closeSlot (r : VerifyReader) : VerifyReader :=
  if 0 < r.found ∧ r.dataSeen = false then r.note .sectorMissing (r.found - 1) else r

/-- The sector entry the plan maps to a physical slot. -/
def Plan.entry (p : Plan) (k : Nat) : Option SectorEntry := p.slots[k]?.bind fun j => p.track.sectors[j]?

/-- The verify pass judges an ID block (R128): `id` is its four bytes and `crcRead` its CRC as read. A block before it that had no data
block is settled first (DEDUCED, log 21). -/
def VerifyReader.idBlock (r : VerifyReader) (p : Plan) (id crcRead : List Byte) : VerifyReader :=
  let r1 := r.closeSlot
  let k := r1.found
  let r2 :=
    if crcGood idType (id ++ crcRead) = false then r1.note .idCrc k
    else match p.entry k with
      | none => r1.note .idMismatch k
      | some e => if id = idField e then r1 else r1.note .idMismatch k
  { r2 with found := k + 1, dataSeen := false }

/-- The field and CRC bytes of a data block of field length `s`: the first s + 2 bytes after the type byte (R33). -/
def blockGood (mark : Mark) (raw : List Byte) (s : Nat) : Bool :=
  decide (s + 2 ≤ raw.length) && crcGood (markType mark) (raw.take (s + 2))

/-- The verify pass judges a data block (R129). A block before the first ID block, or after the first data block of its slot, belongs
to no slot and is passed over. After the first fault the pass records no more. -/
def VerifyReader.dataBlock (r : VerifyReader) (mode : VerifyMode) (m : List Host.Cell) (p : Plan) (mark : Mark)
    (raw : List Byte) : VerifyReader :=
  if r.found = 0 ∨ r.dataSeen = true then r
  else
    let r1 := { r with dataSeen := true }
    match r.fault, p.entry (r.found - 1) with
    | none, some e =>
      let s := sizeBytes e.size
      if mark ≠ e.mark then r1.note .idMismatch (r.found - 1)
      else if blockGood mark raw s = false then r1.note .dataCrc (r.found - 1)
      else if mode = .full ∧ raw.take s ≠ writtenField m p.track p.patch (p.slots.getD (r.found - 1) 0) then
        r1.note .dataMismatch (r.found - 1)
      else if mode = .crc then { r1 with readSum := (r.readSum + byteSum (raw.take s)) % 65536 }
      else r1
    | _, _ => r1

/-- The fault of the pass at its ending pulse: the first detected in the revolution, else a missing data block of the last slot,
else too few ID blocks, else in CRC mode a sum that differs (R129, R130, log 21). -/
def VerifyReader.verdict (r : VerifyReader) (mode : VerifyMode) (p : Plan) : Option (VerifyKind × Option Nat) :=
  match r.closeSlot.fault with
  | some (kind, slot) => some (kind, some slot)
  | none =>
    if r.found < p.track.n then some (.sectorMissing, some r.found)
    else if mode = .crc ∧ r.readSum ≠ p.expected then some (.sumMismatch, none)
    else none

/-- The verify fault record of a failed pass (R130). -/
def faultRecord (x : CopyContext) (p : Plan) (kind : VerifyKind) (slot : Option Nat) : VerifyFault :=
  { kind := kind, key := x.key.getD ⟨0, 0⟩, attempt := x.attempt, slot := slot, logical := slot.bind fun k => p.slots[k]? }

/-- A failed pass (R131): consecutive failures rises, the last verify fault is replaced, and the retry test is made; then the budget
(R133), and RECAL after an even number of failures or INDEX WAIT after an odd one. -/
def Device.passFailed (d : Device) (c : Chan) (x : CopyContext) (f : VerifyFault) : Device :=
  let x1 := { x with counter := some x.counted, failures := x.failures + 1, lastFault := some f }
  if x.retryLimit < x1.failures then (d.setCtx c x1).copyEnd c (.reject .trackFailed) x.key
  else
    let x2 := { x1 with attempt := x1.failures + 1 }
    if x.budget ≤ x.counted then (d.setCtx c x2).copyEnd c (.reject .timeLimit) x.key
    else if x1.failures % 2 = 0 then
      d.modChan c fun ch => { ch.startRecal with ctx := some { x2 with phase := some .recal } }
    else d.setCtx c { x2 with phase := some .indexWait }

/-- The pulse that ends a verify revolution (R130, R131). -/
def Device.endVerify (d : Device) (c : Chan) (x : CopyContext) : Device :=
  match x.plan with
  | none => d
  | some p =>
    match x.reader.verdict x.verify p with
    | none => (d.setCtx c { x with counter := some x.counted }).trackDone c
    | some (kind, slot) => d.passFailed c x (faultRecord x p kind slot)

/-- The pulse that ends a write revolution (R127): the gate drops; in mode NONE the track is done; else the budget is checked and
the verify revolution begins at this pulse. -/
def Device.endWrite (d : Device) (c : Chan) (x : CopyContext) : Device :=
  let d1 := d.modChan c Channel.closeWrite
  if x.verify = .none then (d1.setCtx c { x with counter := some x.counted }).trackDone c
  else if x.budget ≤ x.counted then d1.timeLimit c x
  else d1.setCtx c { x with counter := some x.counted, phase := some .verify, reader := VerifyReader.start }

/-- The engine takes an index pulse in COPYING, by its phase (R125, R127, R131 to R133). -/
def Device.copyPulse (d : Device) (c : Chan) : Device :=
  match (d.chan c).ctx with
  | none => d
  | some x =>
    match x.phase with
    | none => d
    | some .seek => d
    | some .indexWait =>
      if x.attempt = 1 then d.modChan c fun ch => ch.openWrite x d.store.memory 0
      else if x.budget ≤ x.counted then d.timeLimit c x
      else d.modChan c fun ch => ch.openWrite x d.store.memory x.counted
    | some .recal =>
      if x.budget ≤ x.counted then d.timeLimit c x else d.setCtx c { x with counter := some x.counted }
    | some .write => d.endWrite c x
    | some .verify => d.endVerify c x

/-- An ID block read in COPYING: judged in a verify pass, not read in any other phase (R126, R128). -/
def Device.copyIdBlock (d : Device) (c : Chan) (id crcRead : List Byte) : Device :=
  match (d.chan c).ctx with
  | none => d
  | some x =>
    match x.phase, x.plan with
    | some .verify, some p => d.setCtx c { x with reader := x.reader.idBlock p id crcRead }
    | _, _ => d

/-- A data block read in COPYING: judged in a verify pass, not read in any other phase (R126, R129). -/
def Device.copyDataBlock (d : Device) (c : Chan) (mark : Mark) (raw : List Byte) : Device :=
  match (d.chan c).ctx with
  | none => d
  | some x =>
    match x.phase, x.plan with
    | some .verify, some p => d.setCtx c { x with reader := x.reader.dataBlock x.verify d.store.memory p mark raw }
    | _, _ => d

/-- Seek or recalibration complete: the engine selects the head (after a seek) and enters INDEX WAIT (R124, R132). -/
def Channel.copyPositioned (ch : Channel) : Channel :=
  match ch.ctx with
  | none => ch
  | some x =>
    match x.phase with
    | some .seek => { ch with ctx := some { x with phase := some .indexWait },
                              out := { ch.out with head := (x.key.getD ⟨0, 0⟩).head } }
    | some .recal => { ch with ctx := some { x with phase := some .indexWait } }
    | _ => ch

end Sys2Proof.Machine
end

