-- ==== Sys2Proof/Machine/CaptureOps.lean ====
section
/-! DEFINITION. The capture engine (chapter 7): beginning a key, the ID scan, the data revolution, building and installing a record,
and the capture end. -/

namespace Sys2Proof.Machine

/-- Update the capture context. -/
def Device.setCapture (d : Device) (x : CaptureContext) : Device := { d with capture := x }

/-! ## The capture end (R108, R154) -/

/-- The image's capture owner becomes none (R20, R154). -/
def Device.clearOwner (d : Device) (i : Option ImageNo) : Device :=
  match i with
  | none => d
  | some i => d.setImage i { d.image i with captureOwner := none }

/-- The channel's part of a capture end: motor off, work NONE, and the state and master flag of R108's table. -/
def Device.captureChannelEnd (d : Device) (c : Chan) (reason : EndReason) : Device :=
  let d1 := d.modChan c fun ch => { ch.stopDrive with work := .none }
  match reason with
  | .complete | .aborted | .noSpace => (d1.modChan c fun ch => { ch with master := true }).enterLoaded c
  | .mediaLost => (d1.modChan c fun ch => { ch with master := false }).enterIdle c
  | .driveFault =>
    (d1.modChan c fun ch => { ch with state := .fault, master := ch.media }).notify (noticeChAlert c)

/-- The capture end on channel `c` (R154): the context enters ENDED with its end reason, the record in construction is discarded, the
capture owner is cleared, the channel takes its end state, and CAPTURE END is set. -/
def Device.captureEnd (d : Device) (c : Chan) (reason : EndReason) : Device :=
  let x := d.capture
  (((d.setCapture { x with state := .ended, phase := none, endReason := some reason, scanList := [], scanFound := 0,
                           reader := CaptureReader.start, buffer := [] }).clearOwner x.image).captureChannelEnd c
    reason).notify noticeCaptureEnd

/-! ## Beginning a key (R147) -/

/-- The key after a key in the range; none after the last (R147). -/
def CaptureContext.nextKey (x : CaptureContext) (key : Key) : Option Key :=
  if key.head + 1 < x.headCount then some ⟨key.cyl, key.head + 1⟩
  else if key.cyl + 1 ≤ x.lastCyl then some ⟨key.cyl + 1, 0⟩
  else none

/-- The engine begins a key (R147): scans and reads are 0, and the head is positioned by a seek, or selected at once. -/
def Device.beginKey (d : Device) (c : Chan) (key : Key) : Device :=
  let x := { d.capture with key := some key, scans := 0, reads := 0 }
  if (d.chan c).headCyl = key.cyl then
    (d.setCapture { x with phase := some .indexWait }).modChan c fun ch => { ch with out := { ch.out with head := key.head } }
  else (d.setCapture { x with phase := some .seek }).modChan c fun ch => ch.startSeek key.cyl

/-- The channel enters CAPTURING from CALIBRATING, and the engine begins the first key of the range (R102, R147). -/
def Device.enterCapturing (d : Device) (c : Chan) : Device :=
  (d.modChan c fun ch => { ch with state := .capturing }).beginKey c ⟨d.capture.firstCyl, 0⟩

/-- A key has been settled: the next key begins, or the capture ends COMPLETE (R152). -/
def Device.keySettled (d : Device) (c : Chan) : Device :=
  match d.capture.key.bind d.capture.nextKey with
  | some k => d.beginKey c k
  | none => d.captureEnd c .complete

/-- A key fails: it enters the failed list, or the overflow count when the list holds 16 entries, and the record in construction is
cleared (R153). -/
def CaptureContext.fail (x : CaptureContext) (reason : FailReason) : CaptureContext :=
  match x.key with
  | none => x
  | some k =>
    if x.failed.length < 16 then { x with failed := x.failed ++ [(k, reason)], buffer := [] }
    else { x with overflow := x.overflow + 1, buffer := [] }

/-- A key fails and the capture goes on (R152, R153). -/
def Device.keyFailed (d : Device) (c : Chan) (reason : FailReason) : Device :=
  (d.setCapture (d.capture.fail reason)).keySettled c

/-! ## The ID scan (R148, R149) -/

/-- An ID scan revolution begins: scans rises and the scan list starts empty (R147 to R149). -/
def CaptureContext.beginScan (x : CaptureContext) : CaptureContext :=
  { x with phase := some .scan, scans := x.scans + 1, scanList := [], scanFound := 0 }

/-- An ID block found in a scan: kept up to 41 entries, counted beyond that (R148). -/
def CaptureContext.scanBlock (x : CaptureContext) (e : ScanEntry) : CaptureContext :=
  { x with scanFound := x.scanFound + 1,
           scanList := if x.scanList.length < 41 then x.scanList ++ [e] else x.scanList }

/-- A sector size from an ID byte: none above 3 (R149). -/
def sizeOfByte (b : Byte) : Option (Fin 4) := if h : b.toNat < 4 then some ⟨b.toNat, h⟩ else none

/-- The sum of S over a scan list (R149); an entry of no size counts nothing. -/
def scanSize (es : List ScanEntry) : Nat :=
  (es.map fun e => match sizeOfByte e.size with
    | some s => sizeBytes s
    | none => 0).sum

/-- A data revolution begins: reads rises and nothing has been read (R149, R150). -/
def CaptureContext.beginRead (x : CaptureContext) : CaptureContext :=
  { x with phase := some .read, reads := x.reads + 1, reader := CaptureReader.start, buffer := [] }

/-- The rate of the image being captured (R145). -/
def Device.captureRate (d : Device) : Nat :=
  match d.capture.image with
  | some i => (d.image i).rate
  | none => 0

/-- The pulse that ends an ID scan revolution: the first case of R149's table that applies. -/
def Device.judgeScan (d : Device) (c : Chan) : Device :=
  let x := d.capture
  if 40 < x.scanFound then d.keyFailed c .tooMany
  else if x.scanList.any (fun e => !e.crcGood) then
    if x.scans < 4 then d.setCapture x.beginScan else d.keyFailed c .idCrc
  else if x.scanFound = 0 then (d.setCapture { x with absent := x.absent + 1 }).keySettled c
  else if x.scanList.any (fun e => decide (3 < e.size.toNat)) then d.keyFailed c .badSize
  else if fitsAtLoad d.captureRate x.scanList.length (scanSize x.scanList) = false then d.keyFailed c .overfull
  else d.setCapture x.beginRead

/-! ## The data revolution (R150) -/

/-- Record a fault of the revolution, unless one has been detected before it (R150). -/
def CaptureReader.note (r : CaptureReader) (f : RevolutionFault) : CaptureReader :=
  match r.fault with
  | some _ => r
  | none => { r with fault := some f }

/-- The last ID block found has had no data block when the next one or the ending pulse arrives (R150). -/
def CaptureReader.closeSlot (r : CaptureReader) : CaptureReader :=
  if 0 < r.found ∧ r.dataSeen = false then r.note .noData else r

/-- The four ID bytes of a scan list entry. -/
def ScanEntry.id (e : ScanEntry) : List Byte := [e.cyl, e.head, e.sec, e.size]

/-- An ID block read in a data revolution, checked against the accepted scan list (R150). R150 detects at this block both the NO_DATA
of the block before it and its own ID_CHANGED, in no stated order: DESIGN CHOICE, NO_DATA first (log 29). -/
def CaptureContext.readIdBlock (x : CaptureContext) (id crcRead : List Byte) : CaptureContext :=
  let r1 := x.reader.closeSlot
  let r2 :=
    if crcGood idType (id ++ crcRead) = false then r1.note .idChanged
    else match x.scanList[r1.found]? with
      | none => r1.note .idChanged
      | some e => if id = e.id then r1 else r1.note .idChanged
  { x with reader := { r2 with found := r1.found + 1, dataSeen := false } }

/-- A data block read in a data revolution: its mark and field go into the record in construction, the field at the length that scan
list entry k gives (R150). A block that belongs to no ID block is passed over; after the first fault nothing more is kept. -/
def CaptureContext.readDataBlock (x : CaptureContext) (mark : Mark) (raw : List Byte) : CaptureContext :=
  if x.reader.found = 0 ∨ x.reader.dataSeen = true then x
  else
    let r1 := { x.reader with dataSeen := true }
    match x.reader.fault, x.scanList[x.reader.found - 1]?.bind fun e => sizeOfByte e.size with
    | none, some s =>
      if blockGood mark raw (sizeBytes s) = false then { x with reader := r1.note .dataCrc }
      else { x with reader := r1, buffer := x.buffer ++ [(mark, raw.take (sizeBytes s))] }
    | _, _ => { x with reader := r1 }

/-- The fault of a data revolution at its ending pulse, too few ID blocks last (R150). -/
def CaptureContext.readVerdict (x : CaptureContext) : Option RevolutionFault :=
  match x.reader.closeSlot.fault with
  | some f => some f
  | none => if x.reader.found < x.scanList.length then some .idChanged else none

/-- A revolution fault as a key's failure reason (R150, R153). -/
def RevolutionFault.reason : RevolutionFault → FailReason
  | .idChanged => .idChanged
  | .noData => .noData
  | .dataCrc => .dataCrc

/-! ## From track to record (R151, R152) -/

/-- How a captured sector is stored: FILL when all its bytes are one value (R151). -/
def captureStore (bytes : List Byte) : SectorStore :=
  match bytes with
  | [] => .data
  | v :: vs => if vs.all (· == v) then .fill v else .data

/-- The sector entry built from a scan list entry and the sector as read (R151). -/
def captureSector (e : ScanEntry) (read : Mark × List Byte) : SectorEntry :=
  { idCyl := e.cyl, idHead := e.head, idSec := e.sec, size := (sizeOfByte e.size).getD 0, mark := read.1,
    store := captureStore read.2 }

/-- The sector table of a captured track (R151). -/
def CaptureContext.sectors (x : CaptureContext) : List SectorEntry := List.zipWith captureSector x.scanList x.buffer

/-- The DATA bytes of a captured track in sector-table order (R152). -/
def CaptureContext.dataBytes (x : CaptureContext) : List Byte :=
  (x.buffer.filter fun s => captureStore s.2 == .data).flatMap Prod.snd

/-- The track built at the end of a clean data revolution, but for its page list (R151). -/
def CaptureContext.track (x : CaptureContext) (lay : Layout) : Track :=
  { gap3 := lay.gap3, interleave := 1, skew := 0, sectors := x.sectors, dataLen := dataLength x.sectors, pages := [],
    sum := byteSum (x.buffer.flatMap Prod.snd) % 65536 }

/-- Write a record's data bytes into its pages (R3, R152). -/
def Store.fillPages (st : Store) (r : RecNo) (bytes : List Byte) : Store :=
  { st with memory := dataWriteAll st.memory (st.record r).track.pages 0 bytes }

/-- A clean data revolution: claim, fill and install the record, or end the capture NO_SPACE (R151, R152). -/
def Device.installCapture (d : Device) (c : Chan) : Device :=
  match d.capture.image, d.capture.key with
  | some i, some key =>
    let t := d.capture.track (d.image i).layout
    match d.store.claim (pageCount t.dataLen) with
    | none => d.captureEnd c .noSpace
    | some r =>
      let st := ((d.store.grant r .present i key t (pageCount t.dataLen)).fillPages r d.capture.dataBytes).install r
      (({ d with store := st }).setCapture { d.capture with captured := d.capture.captured + 1, buffer := [] }).keySettled c
  | _, _ => d

/-- The pulse that ends a data revolution: install, reread, or fail the key at the fourth read (R150, R152). -/
def Device.judgeRead (d : Device) (c : Chan) : Device :=
  match d.capture.readVerdict with
  | none => d.installCapture c
  | some f => if d.capture.reads < 4 then d.setCapture d.capture.beginRead else d.keyFailed c f.reason

/-! ## Events in CAPTURING -/

/-- The engine takes an index pulse in CAPTURING, by its phase (R147 to R150). -/
def Device.capturePulse (d : Device) (c : Chan) : Device :=
  match d.capture.phase with
  | some .indexWait => d.setCapture d.capture.beginScan
  | some .scan => d.judgeScan c
  | some .read => d.judgeRead c
  | some .spinup | some .seek | none => d

/-- An ID block read in CAPTURING (R148, R150). -/
def Device.captureIdBlock (d : Device) (cyl head sec size : Byte) (crcRead : List Byte) : Device :=
  match d.capture.phase with
  | some .scan =>
    d.setCapture (d.capture.scanBlock ⟨cyl, head, sec, size, crcGood idType ([cyl, head, sec, size] ++ crcRead)⟩)
  | some .read => d.setCapture (d.capture.readIdBlock [cyl, head, sec, size] crcRead)
  | some .spinup | some .seek | some .indexWait | none => d

/-- A data block read in CAPTURING: passed over in a scan (R148), taken in a data revolution (R150). -/
def Device.captureDataBlock (d : Device) (mark : Mark) (raw : List Byte) : Device :=
  match d.capture.phase with
  | some .read => d.setCapture (d.capture.readDataBlock mark raw)
  | some .spinup | some .seek | some .indexWait | some .scan | none => d

/-- Seek complete: the engine selects the head and enters INDEX WAIT (R147). -/
def Device.capturePositioned (d : Device) (c : Chan) : Device :=
  match d.capture.phase, d.capture.key with
  | some .seek, some key =>
    (d.setCapture { d.capture with phase := some .indexWait }).modChan c fun ch =>
      { ch with out := { ch.out with head := key.head } }
  | _, _ => d

end Sys2Proof.Machine
end

