-- ==== Sys2Proof/Machine/BayOps.lean ====
section
/-! DEFINITION. The events of a bay and the expiries of a channel's timers (chapter 5), with the engines' work within them. -/

namespace Sys2Proof.Machine

/-! ## Drive faults (R110) -/

/-- A drive fault: the fault record is written; a copy ends DRIVE_FAULT with fault pending and an eject, a capture ends DRIVE_FAULT in
FAULT (R110). -/
def Device.driveFault (d : Device) (c : Chan) (f : FaultRecord) : Device :=
  match (d.chan c).work with
  | .copy => (d.modChan c fun ch => { ch with fault := some f, faultPending := true }).copyCut c .driveFault
  | .capture => (d.modChan c fun ch => { ch with fault := some f }).captureEnd c .driveFault
  | .none => d

/-! ## Insertion and removal (R95 to R97, R106, R107, R109, R111, R115) -/

/-- A rise of media present, acted on in IDLE, FEEDING and STARVED (R96, R97). -/
def Device.insertion (d : Device) (c : Chan) : Device :=
  if (d.chan c).media then d
  else
    let d1 := d.modChan c fun ch => { ch with media := true }
    match (d.chan c).state with
    | .idle | .starved => d1.enterLoaded c
    | .feeding =>
      (d1.modChan c fun ch => { ch with out := { ch.out with feed := false },
                                        timers := { ch.timers with feed := none } }).enterLoaded c
    | .offline | .loaded | .spinup | .calibrating | .copying | .held | .capturing | .ejecting | .jammed | .fault => d1

/-- A fall of media present (R109): it clears the master flag (R115), ends a copy or a capture MEDIA_LOST, completes an eject, or
takes LOADED to IDLE. -/
def Device.removal (d : Device) (c : Chan) : Device :=
  if (d.chan c).media = false then d
  else
    let d1 := d.modChan c fun ch => { ch with media := false, master := false }
    match (d.chan c).state with
    | .spinup | .calibrating | .copying | .held | .capturing =>
      match (d.chan c).work with
      | .copy => d1.copyCut c .mediaLost
      | .capture => d1.captureEnd c .mediaLost
      | .none => d1
    | .loaded => d1.enterIdle c
    | .ejecting | .jammed => d1.completeEject c
    | .offline | .idle | .feeding | .starved | .fault => d1

/-! ## Index pulses (R100, R101) -/

/-- The 400 ms index timer is running: index monitoring (R101). -/
def Channel.monitored (ch : Channel) : Bool := ch.timers.index.isSome

/-- Restart the index timer (R101). -/
def Channel.restartIndex (ch : Channel) : Channel := { ch with timers := { ch.timers with index := some indexTimeoutMs } }

/-- The measured period in µs, whole part (R100). -/
def measuredPeriod (t1 t3 : Nat) : Nat := (t3 - t1) / 2

/-- A measured period is accepted (R100). -/
def periodAccepted (p : Nat) : Bool := decide (196000 ≤ p) && decide (p ≤ 204000)

/-- The third pulse after the wait: the period is taken and the channel enters CALIBRATING, or faults SPEED (R100). -/
def Device.measured (d : Device) (c : Chan) (period : Nat) : Device :=
  if periodAccepted period then d.modChan c fun ch => { ch with period := period }.enterCalibrating
  else d.driveFault c (.speed period)

/-- An index pulse at `time` µs on a channel whose index is monitored (R100, R101). -/
def Device.pulseTaken (d : Device) (c : Chan) (time : Nat) : Device :=
  let d1 := d.modChan c Channel.restartIndex
  match (d.chan c).state with
  | .spinup =>
    match (d.chan c).measure with
    | .none => d1
    | .waiting => d1.modChan c fun ch => { ch with measure := .first time }
    | .first t1 => d1.modChan c fun ch => { ch with measure := .second t1 }
    | .second t1 => d1.measured c (measuredPeriod t1 time)
  | .copying => d1.copyPulse c
  | .capturing => d1.capturePulse c
  | .calibrating | .held => d1
  | .offline | .idle | .feeding | .starved | .loaded | .ejecting | .jammed | .fault => d1

/-- An index pulse: acted on while the index is monitored, and at no other time (R100, R101). -/
def Device.indexPulse (d : Device) (c : Chan) (time : Nat) : Device :=
  if (d.chan c).monitored then d.pulseTaken c time else d

/-- The revolution counter of the track in progress stands one pulse below the lot's budget or beyond (R133). -/
def Device.budgetDue (d : Device) (c : Chan) : Bool :=
  (d.chan c).state == .copying && (d.chan c).monitored &&
    (match (d.chan c).ctx with
      | some x => x.counter.isSome && decide (x.budget ≤ x.counted)
      | none => false)

/-- The index pulse at which the revolution counter reaches the budget (R133); at any other moment the event cannot arise (log 7). -/
def Device.budgetPulse (d : Device) (c : Chan) : Device := if d.budgetDue c then d.indexPulse c 0 else d

/-! ## Timer expiries -/

/-- Expiry of the spin-up wait: the index timer starts and the measurement begins (R100). -/
def Device.spinUpExpired (d : Device) (c : Chan) : Device :=
  if (d.chan c).timers.spinUp.isSome then
    d.modChan c fun ch => { ch with timers := { ch.timers with spinUp := none, index := some indexTimeoutMs },
                                    measure := .waiting }
  else d

/-- Expiry of the index timer: a drive fault NO_INDEX with the state as detail (R101). -/
def Device.indexExpired (d : Device) (c : Chan) : Device :=
  if (d.chan c).monitored then d.driveFault c (.noIndex (d.chan c).state) else d

/-- Expiry of the step interval timer (R102 to R104): track zero is sampled while stepping out, with NO_TRACK0 after the 90th pulse;
a seek or the way back of a recalibration issues its next pulse, or settles after its last. -/
def Device.stepExpired (d : Device) (c : Chan) : Device :=
  if (d.chan c).timers.step.isNone then d
  else
    match (d.chan c).motion with
    | .calOut k =>
      if (d.chan c).lines.trackZero then d.modChan c Channel.calibrated0
      else if stepOutLimit ≤ k then d.driveFault c (.noTrack0 stepOutLimit)
      else d.modChan c fun ch => { ch.pulse false with motion := .calOut (k + 1) }
    | .recalOut k back =>
      if (d.chan c).lines.trackZero then
        d.modChan c fun ch => { ch with timers := { ch.timers with step := none } }.recalFound back
      else if stepOutLimit ≤ k then d.driveFault c (.noTrack0 stepOutLimit)
      else d.modChan c fun ch => { ch.pulse false with motion := .recalOut (k + 1) back }
    | .seek target =>
      if (d.chan c).headCyl = target then d.modChan c fun ch => ch.startSettle .seekSettle
      else d.modChan c fun ch => ch.pulse (decide (ch.headCyl < target))
    | .recalIn back =>
      if back ≤ (d.chan c).headCyl then d.modChan c fun ch => ch.startSettle .recalSettle
      else d.modChan c fun ch => ch.pulse true
    | .none | .calSettle | .seekSettle | .recalSettle => d

/-- The channel is stepping out, has issued its 90th pulse and finds track zero inactive: NO_TRACK0 is due at the step expiry (R102,
R104). -/
def Device.noTrack0Due (d : Device) (c : Chan) : Bool :=
  (d.chan c).timers.step.isSome && !(d.chan c).lines.trackZero &&
    (match (d.chan c).motion with
      | .calOut k => decide (stepOutLimit ≤ k)
      | .recalOut k _ => decide (stepOutLimit ≤ k)
      | _ => false)

/-- The step expiry after the 90th pulse with track zero still inactive (R102); at any other moment the event cannot arise (log 8). -/
def Device.noTrack0Expired (d : Device) (c : Chan) : Device := if d.noTrack0Due c then d.stepExpired c else d

/-- A calibration is settled: the channel enters COPYING or CAPTURING by its work (R102). -/
def Device.calibrationDone (d : Device) (c : Chan) : Device :=
  match (d.chan c).work with
  | .copy => d.enterCopying c
  | .capture => d.enterCapturing c
  | .none => d

/-- A seek or recalibration is complete, and the engine that asked for it goes on (R103, R104). -/
def Device.positioned (d : Device) (c : Chan) : Device :=
  match (d.chan c).work with
  | .copy => d.modChan c Channel.copyPositioned
  | .capture => d.capturePositioned c
  | .none => d

/-- Expiry of the settle timer: calibration, seek or recalibration complete (R102 to R104). -/
def Device.settleExpired (d : Device) (c : Chan) : Device :=
  if (d.chan c).timers.settle.isNone then d
  else
    let d1 := d.modChan c fun ch => { ch with timers := { ch.timers with settle := none }, motion := .none }
    match (d.chan c).motion with
    | .calSettle => d1.calibrationDone c
    | .seekSettle | .recalSettle => d1.positioned c
    | .none | .calOut _ | .seek _ | .recalOut _ _ | .recalIn _ => d1

/-- Expiry of the feed timer: feed drops, STARVED, CH ALERT (R97). -/
def Device.feedExpired (d : Device) (c : Chan) : Device :=
  if (d.chan c).timers.feed.isSome then
    (d.modChan c fun ch => { ch with state := .starved, out := { ch.out with feed := false },
                                     timers := { ch.timers with feed := none } }).notify (noticeChAlert c)
  else d

/-- Expiry of the eject timer: eject drops, bin select stays, JAMMED, CH ALERT (R106). -/
def Device.ejectExpired (d : Device) (c : Chan) : Device :=
  if (d.chan c).timers.eject.isSome then
    (d.modChan c fun ch => { ch with state := .jammed, out := { ch.out with eject := false },
                                     timers := { ch.timers with eject := none } }).notify (noticeChAlert c)
  else d

/-! ## Blocks read under the head (R128, R129, R148, R150) -/

/-- An ID block on a bay's read data: read while its copy engine verifies or the capture engine reads (R91). -/
def Device.idBlockRead (d : Device) (c : Chan) (cyl head sec size : Byte) (crcRead : List Byte) : Device :=
  match (d.chan c).state with
  | .copying => d.copyIdBlock c [cyl, head, sec, size] crcRead
  | .capturing => d.captureIdBlock cyl head sec size crcRead
  | .offline | .idle | .feeding | .starved | .loaded | .spinup | .calibrating | .held | .ejecting | .jammed | .fault => d

/-- A data block on a bay's read data: read while its copy engine verifies or the capture engine reads (R91). -/
def Device.dataBlockRead (d : Device) (c : Chan) (mark : Mark) (raw : List Byte) : Device :=
  match (d.chan c).state with
  | .copying => d.copyDataBlock c mark raw
  | .capturing => d.captureDataBlock mark raw
  | .offline | .idle | .feeding | .starved | .loaded | .spinup | .calibrating | .held | .ejecting | .jammed | .fault => d

end Sys2Proof.Machine
end

