-- ==== Sys2Proof/Machine/Images.lean ====
section
/-! DEFINITION. The image requests (chapter 1): create, seal, unseal, retire, discard, query, and store status. -/

namespace Sys2Proof.Machine

/-- An image as IMAGE CREATE leaves it: label, geometry, the profile's rate and default layout, and an all-ABSENT directory (R10). -/
def Image.created (p : Profile) (cylinders heads : Nat) (label : List Byte) : Image :=
  { Image.vacant with
    state := .building, label := label, cylinders := cylinders, heads := heads, rate := p.rate, layout := p.layout,
    directory := List.replicate (cylinders * heads) none }

/-- IMAGE CREATE (R10). -/
def workImageCreate (image profile cylinders heads : Byte) (label : List Byte) (d : Device) : Device × Response :=
  withSlot 8 image d fun i => withSlot 16 profile d fun p =>
    checked d
      [((d.image i).state == .vacant, .wrongState),
       (within 1 84 cylinders.toNat && within 1 2 heads.toNat, .badValue),
       ((d.profile p).defined, .noSuch)]
      (answerOk (d.setImage i (Image.created (d.profile p) cylinders.toNat heads.toNat label)) [])

/-- The checks of IMAGE SEAL and IMAGE DISCARD after the slot number: BUILDING, no capture owner, no stream open on the image (R11,
R14). -/
def unheldChecks (d : Device) (i : ImageNo) : List (Bool × Completion) :=
  [((d.image i).state == .building, .wrongState), ((d.image i).captureOwner.isNone, .busy), (!d.streamOn i, .busy)]

/-- IMAGE SEAL (R11, R23). -/
def workImageSeal (image : Byte) (d : Device) : Device × Response :=
  withSlot 8 image d fun i =>
    checked d (unheldChecks d i)
      (answerOk
        (d.setImage i { d.image i with state := .sealed, checksum := d.store.checksum i, checksumValid := true })
        (u32 (d.store.checksum i)))

/-- IMAGE UNSEAL (R12). -/
def workImageUnseal (image : Byte) (d : Device) : Device × Response :=
  withSlot 8 image d fun i =>
    checked d
      [((d.image i).state == .sealed, .wrongState), ((d.image i).bindings == 0, .lotsBound),
       ((d.image i).pins == 0, .wrongState)]
      (answerOk (d.setImage i { d.image i with state := .building, checksumValid := false }) [])

/-- The counts of records released and of pages returned by a vacating (R13, R14, log 16). -/
def releaseCounts (d : Device) (i : ImageNo) : List Byte :=
  u8 (d.store.releasable i).length ++ u16 (d.store.pagesOf (d.store.releasable i))

/-- IMAGE RETIRE (R13). -/
def workImageRetire (image : Byte) (d : Device) : Device × Response :=
  withSlot 8 image d fun i =>
    checked d [((d.image i).state == .sealed, .wrongState), ((d.image i).bindings == 0, .lotsBound)]
      (if (d.image i).pins = 0 then
        answerOk (({ d with store := d.store.vacate i }).notify noticeImageFreed)
          (u8 ImageState.vacant.pos ++ releaseCounts d i)
      else
        answerOk (d.setImage i { d.image i with state := .retiring })
          (u8 ImageState.retiring.pos ++ u8 (d.image i).pins ++ u8 0 ++ u16 0))

/-- IMAGE DISCARD (R14). -/
def workImageDiscard (image : Byte) (d : Device) : Device × Response :=
  withSlot 8 image d fun i =>
    checked d (unheldChecks d i) (answerOk { d with store := d.store.vacate i } (releaseCounts d i))

/-- The result fields of IMAGE QUERY (R24); a checksum that is not valid is reported as 0 (R23). -/
def Image.report (im : Image) : List Byte :=
  u8 im.state.pos ++ im.label ++ u8 im.cylinders ++ u8 im.heads ++ u16 im.rate ++ uLayout im.layout ++ u8 im.pins ++
    u8 im.bindings ++ u8 im.presentTracks ++ u16 im.pagesHeld ++ u32 (if im.checksumValid then im.checksum else 0) ++
    uFlag im.checksumValid ++ uChan im.captureOwner

/-- IMAGE QUERY (R24). -/
def workImageQuery (image : Byte) (d : Device) : Device × Response :=
  withSlot 8 image d fun i => answerOk d (d.image i).report

/-- The result fields of STORE STATUS (R25). -/
def Store.status (st : Store) : List Byte :=
  u16 st.freePages.length ++ u16 (st.records.toList.countP fun r => r.state == .free) ++
    u8 (st.records.toList.countP fun r => r.state == .loading) ++
    u8 (st.records.toList.countP fun r => r.link == .unlinked) ++
    st.images.toList.flatMap fun im => u8 im.state.pos

/-- STORE STATUS (R25). -/
def workStoreStatus (d : Device) : Device × Response := answerOk d d.store.status

end Sys2Proof.Machine
end

