-- ==== Sys2Proof/Machine/Tracks.lean ====
section
/-! DEFINITION. The requests that build, amend and read the tracks of an image, and the abort of a stream (chapter 3). -/

namespace Sys2Proof.Machine

/-! ## Checks common to the track requests (R47) -/

/-- The checks of a request that changes a track record, after the image slot (R47). -/
def changeChecks (d : Device) (i : ImageNo) (key : Key) : List (Bool × Completion) :=
  [((d.image i).state == .building, .wrongState), ((d.image i).captureOwner.isNone, .busy),
   ((d.image i).hasKey key, .badValue)]

/-- The checks of a request that reads an image, after the image slot (R47). -/
def readChecks (d : Device) (i : ImageNo) (key : Key) : List (Bool × Completion) :=
  [((d.image i).state != .vacant, .wrongState), ((d.image i).hasKey key, .badValue)]

/-- Whether a stream is open, inbound or outbound, on any image (R49, R61). -/
def Device.streamOpen (d : Device) : Bool := d.port.stream != .closed

/-- Open the stream, which clears STREAM FAULT (R167). -/
def Device.openStream (d : Device) (st : Stream) : Device :=
  { d with port := { d.port with stream := st, streamFault := false } }

/-- Close the stream. -/
def Device.closeStream (d : Device) : Device := { d with port := { d.port with stream := .closed } }

/-! ## TRACK LOAD (R48 to R50) -/

/-- A sector entry of the frame in its ranges: size code 0 to 3, and flags bits 2 to 7 clear (R48, section 8.8). -/
def rawEntryOk (e : RawEntry) : Bool := decide (e.size.toNat ≤ 3) && decide (e.flags.toNat < 4)

/-- The ranges of a track description (R48). -/
def describes (ps : LoadParams) : Bool :=
  within 1 40 ps.n.toNat && within 8 255 ps.gap3.toNat && within 1 16 ps.interleave.toNat && within 0 39 ps.skew.toNat &&
    ps.entries.all rawEntryOk

/-- A sector entry as the record holds it (R48, section 8.8): the fill value of a DATA entry is discarded. -/
def entryOf (e : RawEntry) : SectorEntry :=
  { idCyl := e.idCyl, idHead := e.idHead, idSec := e.idSec, size := (sizeOfByte e.size).getD 0,
    mark := if e.flags.getLsbD 0 then .deleted else .normal, store := if e.flags.getLsbD 1 then .fill e.fill else .data }

/-- The track a description gives, but for its page list; the track sum is given (R48 to R50). -/
def describedTrack (ps : LoadParams) (sum : Nat) : Track :=
  { gap3 := ps.gap3.toNat, interleave := ps.interleave.toNat, skew := ps.skew.toNat % ps.entries.length,
    sectors := ps.entries.map entryOf, dataLen := dataLength (ps.entries.map entryOf), pages := [], sum := sum }

/-- The load-time fit test of a sector table at an image's rate (R37). -/
def tableFits (rate : Nat) (es : List SectorEntry) : Bool := fitsAtLoad rate es.length (totalSize es)

/-- TRACK LOAD (R49, R50). -/
def workTrackLoad (ps : LoadParams) (d : Device) : Device × Response :=
  withSlot 8 ps.image d fun i =>
    let key := keyOf ps.cyl ps.head
    let es := ps.entries.map entryOf
    let len := dataLength es
    checked d (changeChecks d i key ++ [(describes ps, .badValue), (tableFits (d.image i).rate es, .overfull)])
      (match d.store.claim (pageCount len) with
      | none => refuse d .noSpace
      | some r =>
        if len = 0 then
          answerOk
            { d with store := (d.store.grant r .present i key (describedTrack ps (fillSum es % 65536)) 0).install r }
            (u16 r.val ++ u16 0 ++ u8 0)
        else
          checked d [(!d.streamOpen, .busy)]
            (answerOk
              (({ d with store := d.store.grant r .loading i key (describedTrack ps 0) (pageCount len) }).openStream
                (.inbound r len))
              (u16 r.val ++ u16 len ++ u8 (pageCount len))))

/-! ## TRACK FILL (R55) -/

/-- The ranges of TRACK FILL's parameters (R55, step 1). -/
def fillRanges (ps : FillParams) : Bool :=
  within 1 40 ps.n.toNat && within 8 255 ps.gap3.toNat && within 1 16 ps.interleave.toNat && within 0 39 ps.skew.toNat &&
    decide (ps.size.toNat ≤ 3)

/-- The track TRACK FILL builds (R55). -/
def filledTrack (ps : FillParams) : Track :=
  let size := (sizeOfByte ps.size).getD 0
  { gap3 := ps.gap3.toNat, interleave := ps.interleave.toNat, skew := ps.skew.toNat % ps.n.toNat,
    sectors := (List.range ps.n.toNat).map fun i =>
      { idCyl := ps.cyl, idHead := ps.head, idSec := BitVec.ofNat 8 (ps.firstSector.toNat + i), size := size, mark := .normal,
        store := .fill ps.fill },
    dataLen := 0, pages := [], sum := ps.n.toNat * sizeBytes size * ps.fill.toNat % 65536 }

/-- TRACK FILL (R55). -/
def workTrackFill (ps : FillParams) (d : Device) : Device × Response :=
  withSlot 8 ps.image d fun i =>
    let key := keyOf ps.cyl ps.head
    let t := filledTrack ps
    checked d (changeChecks d i key ++ [(fillRanges ps, .badValue), (tableFits (d.image i).rate t.sectors, .overfull)])
      (match d.store.claim 0 with
      | none => refuse d .noSpace
      | some r =>
        answerOk { d with store := (d.store.grant r .present i key t 0).install r } (u16 r.val ++ u16 t.sum))

/-! ## TRACK REMOVE (R56) -/

/-- The indication REMOVED (R56). -/
def indicationRemoved : Nat := 0

/-- The indication WAS_ABSENT (R56). -/
def indicationWasAbsent : Nat := 1

/-- The pages that removing a record returns to the pool at once: none when its read pin is 1 (R56). -/
def Store.pagesOnRemoval (st : Store) (r : RecNo) : Nat :=
  if (st.record r).readPin then 0 else (st.record r).track.pages.length

/-- TRACK REMOVE (R56). -/
def workTrackRemove (image cyl head : Byte) (d : Device) : Device × Response :=
  withSlot 8 image d fun i =>
    checked d (changeChecks d i (keyOf cyl head))
      (match (d.image i).entry (keyOf cyl head) with
      | none => answerOk d (u8 indicationWasAbsent ++ u8 0)
      | some r =>
        answerOk { d with store := d.store.remove i (keyOf cyl head) }
          (u8 indicationRemoved ++ u8 (d.store.pagesOnRemoval r)))

/-! ## TRACK READ and TRACK QUERY (R60, R61) -/

/-- Set a record's read pin (R9). -/
def Store.pinRead (st : Store) (r : RecNo) : Store := st.setRecord r { st.record r with readPin := true }

/-- TRACK READ (R61). -/
def workTrackRead (image cyl head : Byte) (d : Device) : Device × Response :=
  withSlot 8 image d fun i =>
    checked d (readChecks d i (keyOf cyl head))
      (match (d.image i).entry (keyOf cyl head) with
      | none => answerOk d (uFlag false ++ u16 0)
      | some r =>
        if (d.store.record r).track.dataLen = 0 then answerOk d (uFlag true ++ u16 0)
        else
          checked d [(!d.streamOpen, .busy)]
            (answerOk
              (({ d with store := d.store.pinRead r }).openStream (.outbound r (d.store.record r).track.dataLen))
              (uFlag true ++ u16 r.val ++ u16 (d.store.record r).track.dataLen)))

/-- A LOADING record for a key exists (R60). -/
def Store.loadingAt (st : Store) (i : ImageNo) (key : Key) : Bool :=
  st.records.toList.any fun r => r.state == .loading && r.image == i && r.key == key

/-- The result fields of TRACK QUERY (R60). -/
def Device.trackReport (d : Device) (i : ImageNo) (key : Key) (f m : Nat) : List Byte :=
  let t := d.store.lookup i key
  let es := (t.sectors.drop f).take m
  uFlag ((d.image i).entry key).isSome ++ u16? (((d.image i).entry key).map Fin.val) ++ uFlag (d.store.loadingAt i key) ++
    u8 t.gap3 ++ u8 t.interleave ++ u8 t.skew ++ u8 t.n ++ u16 t.dataLen ++ u8 t.pages.length ++ u16 t.sum ++
    u8 es.length ++ es.flatMap uSector

/-- TRACK QUERY (R60). -/
def workTrackQuery (image cyl head first count : Byte) (d : Device) : Device × Response :=
  withSlot 8 image d fun i =>
    checked d
      (readChecks d i (keyOf cyl head) ++ [(within 0 39 first.toNat && within 0 32 count.toNat, .badValue)])
      (answerOk d (d.trackReport i (keyOf cyl head) first.toNat count.toNat))

/-! ## SECTOR PEEK and SECTOR AMEND (R57 to R59) -/

/-- S of a track's sector `j`, 0 when it has none. -/
def Track.sectorSize (t : Track) (j : Nat) : Nat :=
  match t.sectors[j]? with
  | some e => sizeBytes e.size
  | none => 0

/-- Whether a track's sector `j` is a DATA sector. -/
def Track.sectorIsData (t : Track) (j : Nat) : Bool := t.sectors[j]?.any SectorEntry.isData

/-- SECTOR PEEK (R59). -/
def workSectorPeek (image cyl head sector : Byte) (offset : Half) (length : Byte) (d : Device) : Device × Response :=
  withSlot 8 image d fun i =>
    let t := d.store.lookup i (keyOf cyl head)
    checked d
      (readChecks d i (keyOf cyl head) ++
        [(within 1 64 length.toNat, .badValue), (decide (sector.toNat < t.n), .badValue),
         (decide (offset.toNat + length.toNat ≤ t.sectorSize sector.toNat), .badValue)])
      (answerOk d (u8 length.toNat ++ sectorBytes d.store.memory t sector.toNat offset.toNat length.toNat))

/-- A record after an amendment of sector `j` at offset `o`: its data bytes replaced and its track sum corrected (R58). -/
def Store.amend (st : Store) (r : RecNo) (j o : Nat) (bytes : List Byte) : Store :=
  let t := (st.record r).track
  let old := sectorBytes st.memory t j o bytes.length
  { (st.setRecord r { st.record r with track := { t with sum := patchedSum t.sum old bytes } }) with
    memory := dataWriteAll st.memory t.pages (dataOffset t.sectors j + o) bytes }

/-- SECTOR AMEND (R57, R58). Every sector of an ABSENT key's default track is FILL, so it is refused FILL_SECTOR. -/
def workSectorAmend (image cyl head sector : Byte) (offset : Half) (length : Byte) (data : List Byte) (d : Device) :
    Device × Response :=
  withSlot 8 image d fun i =>
    let t := d.store.lookup i (keyOf cyl head)
    checked d
      (changeChecks d i (keyOf cyl head) ++
        [(decide (length.toNat ≤ data.length), .badLength), (within 1 64 length.toNat, .badValue),
         (decide (sector.toNat < t.n), .badValue), (t.sectorIsData sector.toNat, .fillSector),
         (decide (offset.toNat + length.toNat ≤ t.sectorSize sector.toNat), .badValue)])
      (match (d.image i).entry (keyOf cyl head) with
      | none => refuse d .fillSector
      | some r =>
        let st := d.store.amend r sector.toNat offset.toNat (data.take length.toNat)
        checked d [(!(d.store.record r).readPin, .busy)]
          (answerOk { d with store := st } (u16 t.sum ++ u16 (st.record r).track.sum)))

/-! ## STREAM ABORT (R54) -/

/-- The kind of a stream in a reply: 0 CLOSED, 1 INBOUND, 2 OUTBOUND (R164). -/
def Stream.kind : Stream → Nat
  | .closed => 0
  | .inbound _ _ => 1
  | .outbound _ _ => 2

/-- The remaining count of a stream: 0 when CLOSED (R54, R172). -/
def Stream.remaining : Stream → Nat
  | .closed => 0
  | .inbound _ k => k
  | .outbound _ k => k

/-- The store after a stream has been cut off: a LOADING record is released, a record being read loses its read pin (R54). -/
def Store.afterAbort (st : Store) : Stream → Store
  | .closed => st
  | .inbound r _ => st.release r
  | .outbound r _ => st.unpinRead r

/-- STREAM ABORT (R54). -/
def workStreamAbort (d : Device) : Device × Response :=
  answerOk ({ d with store := d.store.afterAbort d.port.stream }).closeStream
    (u8 d.port.stream.kind ++ u16 d.port.stream.remaining)

end Sys2Proof.Machine
end

