-- ==== Sys2Proof/Machine/Profiles.lean ====
section
/-! DEFINITION. The profile requests (R63 to R65). -/

namespace Sys2Proof.Machine

/-- The ranges of a profile's parameters (R64, step 3). -/
def profileRanges (ps : ProfileParams) : Bool :=
  (ps.rate.toNat == 250 || ps.rate.toNat == 500) && decide (ps.size.toNat ≤ 3) && within 8 255 ps.gap3.toNat &&
    within 1 16 ps.interleave.toNat && within 0 39 ps.cylSkew.toNat && within 0 39 ps.headSkew.toNat

/-- The profile that PROFILE SET defines (R64): the skews are stored as given. -/
def profileOf (ps : ProfileParams) : Profile :=
  { defined := true, rate := ps.rate.toNat,
    layout :=
      { sectors := ps.sectors.toNat, size := (sizeOfByte ps.size).getD 0, firstSector := ps.firstSector.toNat,
        gap3 := ps.gap3.toNat, fill := ps.fill, interleave := ps.interleave.toNat, cylSkew := ps.cylSkew.toNat,
        headSkew := ps.headSkew.toNat } }

/-- The default tracks of a profile pass the load-time fit test (R64, step 4). -/
def Profile.fits (p : Profile) : Bool := fitsAtLoad p.rate p.layout.sectors (p.layout.sectors * sizeBytes p.layout.size)

/-- PROFILE SET (R64). -/
def workProfileSet (ps : ProfileParams) (d : Device) : Device × Response :=
  withSlot 16 ps.profile d fun p =>
    checked d [(within 0 40 ps.sectors.toNat, .badValue)]
      (if ps.sectors.toNat = 0 then answerOk (d.setProfile p Profile.vacant) []
      else
        checked d [(profileRanges ps, .badValue), ((profileOf ps).fits, .badValue)]
          (answerOk (d.setProfile p (profileOf ps)) []))

/-- PROFILE QUERY (R65). -/
def workProfileQuery (profile : Byte) (d : Device) : Device × Response :=
  withSlot 16 profile d fun p =>
    answerOk d (uFlag (d.profile p).defined ++ u16 (d.profile p).rate ++ uLayout (d.profile p).layout)

end Sys2Proof.Machine
end

