-- ==== Sys2Proof/Machine/Lots.lean ====
section
/-! DEFINITION. The lot requests (chapter 4). -/

namespace Sys2Proof.Machine

/-! ## LOT CREATE (R68 to R70) -/

/-- The retry limit of LOT CREATE: 3 when the frame leaves it off (R68). -/
def retryLimitOf : LotTail → Nat
  | .none => 3
  | .retry r => r.toNat
  | .retryBudget r _ => r.toNat

/-- The revolution budget of LOT CREATE: 16 when the frame leaves it off (R68). -/
def budgetOf : LotTail → Nat
  | .none => 16
  | .retry _ => 16
  | .retryBudget _ b => b.toNat

/-- The verify mode a parameter byte names (R66, R163). -/
def verifyModeOf (b : Byte) : VerifyMode :=
  match b.toNat with
  | 0 => .none
  | 1 => .crc
  | _ => .full

/-- The encoding a parameter byte names (R66, R163). -/
def encodingOf (b : Byte) : Encoding := if b.toNat = 0 then .ascii else .bcd

/-- The ranges of the plain settings (R68, step 6). -/
def lotRanges (ps : LotParams) : Bool :=
  within 1 65535 ps.target.toNat && decide (ps.mark.toNat ≤ ps.target.toNat) && within 0 2 ps.verify.toNat &&
    within 0 7 (retryLimitOf ps.tail) && within 6 64 (budgetOf ps.tail)

/-- The ranges of the serial settings (R68, step 7). -/
def serialRanges (ps : LotParams) : Bool :=
  ps.digits.toNat == 0 ||
    (within 4 8 ps.digits.toNat && within 0 1 ps.encoding.toNat && decide (ps.first.toNat ≤ ps.last.toNat) &&
      decide (ps.last.toNat < 10 ^ ps.digits.toNat) && within 0 1 ps.reissue.toNat)

/-- The patch site check (R69): the window lies in a stored DATA sector of the record at the patch key. -/
def Store.patchSiteOk (st : Store) (i : ImageNo) (site : PatchSite) (w : Nat) : Bool :=
  (st.image i).hasKey ⟨site.cyl, site.head⟩ &&
    (match (st.image i).entry ⟨site.cyl, site.head⟩ with
    | none => false
    | some r =>
      (st.record r).track.sectorIsData site.sector &&
        decide (site.offset + w ≤ (st.record r).track.sectorSize site.sector))

/-- The patch site LOT CREATE's parameters name. -/
def patchSiteOf (ps : LotParams) : PatchSite :=
  ⟨ps.patchCyl.toNat, ps.patchHead.toNat, ps.patchSector.toNat, ps.patchOffset.toNat⟩

/-- The patch width of LOT CREATE: 0 for an unserialized lot (R69, R70). -/
def lotWidth (ps : LotParams) : Nat :=
  if ps.digits.toNat = 0 then 0 else patchWidth (encodingOf ps.encoding) ps.digits.toNat

/-- The number of serials in the range: 0 for an unserialized lot (R70). -/
def serialCount (ps : LotParams) : Nat := if ps.digits.toNat = 0 then 0 else ps.last.toNat - ps.first.toNat + 1

/-- The lot record a LOT CREATE sets (R70): an unserialized lot holds its VACANT values in the serial fields (R66, R68). -/
def createdLot (ps : LotParams) (i : ImageNo) : Lot :=
  let plain : Lot :=
    { Lot.vacant with
      state := .ready, image := i, target := ps.target.toNat, mark := ps.mark.toNat, verify := verifyModeOf ps.verify,
      retryLimit := retryLimitOf ps.tail, budget := budgetOf ps.tail }
  if ps.digits.toNat = 0 then plain
  else
    { plain with
      digits := ps.digits.toNat, encoding := encodingOf ps.encoding, first := ps.first.toNat, last := ps.last.toNat,
      next := ps.first.toNat, reissueEnable := ps.reissue.toNat == 1, patch := some (patchSiteOf ps) }

/-- An image's bindings rise by 1 (R19). -/
def Device.bind (d : Device) (i : ImageNo) : Device := d.setImage i { d.image i with bindings := (d.image i).bindings + 1 }

/-- An image's bindings fall by 1 (R19). -/
def Device.unbind (d : Device) (i : ImageNo) : Device := d.setImage i { d.image i with bindings := (d.image i).bindings - 1 }

/-- LOT CREATE (R68 to R70). -/
def workLotCreate (ps : LotParams) (d : Device) : Device × Response :=
  withSlot 8 ps.lot d fun l => checked d [((d.lot l).state == .vacant, .wrongState)] <|
    withSlot 8 ps.image d fun i =>
      checked d
        [((d.image i).state != .vacant, .noSuch), ((d.image i).state == .sealed, .wrongState), (lotRanges ps, .badValue),
         (serialRanges ps, .badValue),
         (ps.digits.toNat == 0 || d.store.patchSiteOk i (patchSiteOf ps) (lotWidth ps), .patchSite)]
        (answerOk ((d.setLot l (createdLot ps i)).bind i) (u8 (lotWidth ps) ++ u32 (serialCount ps)))

/-! ## LOT START, HOLD and RESUME (R71 to R73) -/

/-- LOT START (R71). -/
def workLotStart (lot : Byte) (d : Device) : Device × Response :=
  withSlot 8 lot d fun l =>
    checked d [((d.lot l).state == .ready, .wrongState)]
      (answerStarted ((d.setLot l { d.lot l with state := .running }).signalOpen l))

/-- LOT HOLD (R72). -/
def workLotHold (lot : Byte) (d : Device) : Device × Response :=
  withSlot 8 lot d fun l =>
    checked d [((d.lot l).state == .running || (d.lot l).state == .exhausted, .wrongState)]
      (answerOk (d.setLot l { d.lot l with state := .held }) (u8 (d.lot l).inFlight))

/-- What goes with a lot's entry into the state it resumes to (R73): the LOT notice in FILLED and EXHAUSTED, the admission-open signal
in RUNNING with places free. -/
def Device.afterResume (d : Device) (l : LotNo) : Device :=
  match (d.lot l).state with
  | .filled | .exhausted => d.notify (noticeLot l)
  | .running => if (d.lot l).isOpen then d.signalOpen l else d
  | .vacant | .ready | .held | .closing | .closed => d

/-- LOT RESUME (R73). The reply carries the state of R73's table (log 17). -/
def workLotResume (lot : Byte) (d : Device) : Device × Response :=
  withSlot 8 lot d fun l =>
    checked d [((d.lot l).state == .held, .wrongState)]
      (answerOk ((d.setLot l { d.lot l with state := (d.lot l).resumed }).afterResume l) (u8 (d.lot l).resumed.pos))

/-! ## LOT CLOSE and DELETE (R74, R75) -/

/-- LOT CLOSE is accepted in READY, RUNNING, HELD, FILLED and EXHAUSTED (R74): the states that bind the image (R19). -/
def LotState.binds : LotState → Bool
  | .ready | .running | .held | .filled | .exhausted => true
  | .vacant | .closing | .closed => false

/-- LOT CLOSE (R74). -/
def workLotClose (lot : Byte) (d : Device) : Device × Response :=
  withSlot 8 lot d fun l =>
    let d1 := d.unbind (d.lot l).image
    checked d [((d.lot l).state.binds, .wrongState)]
      (if (d.lot l).inFlight = 0 then
        answerOk ((d1.setLot l { d.lot l with state := .closed }).notify (noticeLot l)) (u8 LotState.closed.pos ++ u8 0)
      else
        answerOk (d1.setLot l { d.lot l with state := .closing }) (u8 LotState.closing.pos ++ u8 (d.lot l).inFlight))

/-- A channel assigned to lot `l` has its assignment set to none (R75). -/
def Channel.withoutLot (l : LotNo) (ch : Channel) : Channel := if ch.lot = some l then { ch with lot := none } else ch

/-- Every channel assigned to a lot has its assignment set to none (R75). -/
def Device.unassign (d : Device) (l : LotNo) : Device := { d with channels := d.channels.map (Channel.withoutLot l) }

/-- LOT DELETE (R75). -/
def workLotDelete (lot : Byte) (d : Device) : Device × Response :=
  withSlot 8 lot d fun l =>
    checked d [((d.lot l).state == .closed, .wrongState)]
      (answerOk ((d.setLot l Lot.vacant).unassign l) (u8 (d.assigned l).length))

/-! ## LOT MARK and QUERY (R76, R77) -/

/-- LOT MARK (R76). -/
def workLotMark (lot : Byte) (mark : Half) (d : Device) : Device × Response :=
  withSlot 8 lot d fun l =>
    checked d
      [((d.lot l).state != .vacant && (d.lot l).state != .closed, .wrongState),
       (mark.toNat == 0 || (decide ((d.lot l).good < mark.toNat) && decide (mark.toNat ≤ (d.lot l).target)), .badValue)]
      (answerOk (d.setLot l { d.lot l with mark := mark.toNat }) (u16 mark.toNat))

/-- The seven tally counts in R66's order. -/
def Tally.report (t : Tally) : List Byte :=
  u16 t.writeProtected ++ u16 t.mediaLost ++ u16 t.trackFailed ++ u16 t.timeLimit ++ u16 t.overfull ++ u16 t.aborted ++
    u16 t.driveFault

/-- The result fields of LOT QUERY (R77). -/
def Lot.report (x : Lot) : List Byte :=
  u8 x.state.pos ++ u8 x.image.val ++ u16 x.target ++ u16 x.good ++ u16 x.rejects ++ x.tally.report ++ u8 x.inFlight ++
    u16 x.mark ++ u8 x.digits ++ u8 x.encoding.pos ++ u32 x.first ++ u32 x.last ++ u32 x.next ++ u8 x.reissue.length ++
    x.reissue.flatMap u32 ++ u32 x.void ++ uFlag x.reissueEnable ++ uPatch x.patch ++ u8 x.verify.pos ++ u8 x.retryLimit ++
    u8 x.budget

/-- LOT QUERY (R77). -/
def workLotQuery (lot : Byte) (d : Device) : Device × Response := withSlot 8 lot d fun l => answerOk d (d.lot l).report

end Sys2Proof.Machine
end

