-- ==== Sys2Proof/Machine/Channels.lean ====
section
/-! DEFINITION. The channel requests (chapter 5). -/

namespace Sys2Proof.Machine

/-- Check a channel number, refusing NO_SUCH (R92). -/
def withChan (b : Byte) (d : Device) (k : Chan → Device × Response) : Device × Response := withSlot 6 b d k

/-- OK with the state of a channel as the effects of the request leave it (R95, R111 to R113, R116, log 17). -/
def answerState (d : Device) (c : Chan) : Device × Response := answerOk d (u8 (d.chan c).state.pos)

/-! ## ENABLE and DISABLE (R95) -/

/-- A channel that enters service reads media present: LOADED and the admission point, or IDLE and the feed condition (R95, R111). -/
def Device.enterService (d : Device) (c : Chan) : Device := if (d.chan c).media then d.enterLoaded c else d.enterIdle c

/-- CHANNEL ENABLE (R95). -/
def workChannelEnable (channel : Byte) (d : Device) : Device × Response :=
  withChan channel d fun c =>
    checked d [((d.chan c).state == .offline, .wrongState)] (answerState (d.enterService c) c)

/-- The states in which CHANNEL DISABLE is accepted (R95). -/
def ChanState.disables : ChanState → Bool
  | .idle | .loaded | .starved | .fault => true
  | .offline | .feeding | .spinup | .calibrating | .copying | .held | .capturing | .ejecting | .jammed => false

/-- A channel taken OFFLINE by CHANNEL DISABLE (R95): every output inactive, fault record and fault pending cleared. -/
def Channel.disabled (ch : Channel) : Channel :=
  { ch with state := .offline, fault := none, faultPending := false,
            out := { Outputs.inactive with stepPulses := ch.out.stepPulses } }

/-- CHANNEL DISABLE (R95). -/
def workChannelDisable (channel : Byte) (d : Device) : Device × Response :=
  withChan channel d fun c =>
    checked d [((d.chan c).state.disables, .wrongState)] (answerOk (d.modChan c Channel.disabled) [])

/-! ## ASSIGN (R114) -/

/-- The states in which CHANNEL ASSIGN is refused (R114). -/
def ChanState.works : ChanState → Bool
  | .spinup | .calibrating | .copying | .held | .capturing => true
  | .offline | .idle | .feeding | .starved | .loaded | .ejecting | .jammed | .fault => false

/-- What an IDLE or LOADED channel does when its lot or its hold flag has changed (R96, R98, R112, R114). -/
def Device.reconsider (d : Device) (c : Chan) : Device := d.answerSignal c

/-- The last two checks of CHANNEL ASSIGN, made when a lot is named (R114). -/
def assignChecks (d : Device) (c : Chan) : Option LotNo → List (Bool × Completion)
  | none => []
  | some l => [(!(d.chan c).master, .mediaPresent), ((d.lot l).state != .vacant, .noSuch)]

/-- CHANNEL ASSIGN (R114). -/
def workChannelAssign (channel lot : Byte) (d : Device) : Device × Response :=
  withChan channel d fun c =>
    match lotOrNone lot with
    | none => refuse d .noSuch
    | some o =>
      checked d ((!(d.chan c).state.works, .wrongState) :: assignChecks d c o)
        (answerOk ((d.modChan c fun ch => { ch with lot := o }).reconsider c) [])

/-! ## HOLD, RELEASE and ABORT (R112, R113) -/

/-- CHANNEL HOLD (R112). -/
def workChannelHold (channel : Byte) (d : Device) : Device × Response :=
  withChan channel d fun c => answerState (d.modChan c fun ch => { ch with hold := true }) c

/-- A HELD channel returns to COPYING and its engine goes on with the next track (R112, R136). -/
def Device.resumeCopy (d : Device) (c : Chan) : Device :=
  (d.modChan c fun ch => { ch with state := .copying }).beginNext c

/-- CHANNEL RELEASE's effect (R112). -/
def Device.released (d : Device) (c : Chan) : Device :=
  let d1 := d.modChan c fun ch => { ch with hold := false }
  if (d.chan c).state = .held then d1.resumeCopy c else d1.reconsider c

/-- CHANNEL RELEASE (R112). -/
def workChannelRelease (channel : Byte) (d : Device) : Device × Response :=
  withChan channel d fun c => answerState (d.released c) c

/-- A copy that CHANNEL ABORT may end: work COPY in SPINUP, CALIBRATING, COPYING or HELD (R113). -/
def Channel.abortable (ch : Channel) : Bool :=
  ch.work == .copy && (ch.state == .spinup || ch.state == .calibrating || ch.state == .copying || ch.state == .held)

/-- CHANNEL ABORT (R113). -/
def workChannelAbort (channel : Byte) (d : Device) : Device × Response :=
  withChan channel d fun c =>
    checked d [((d.chan c).abortable, .wrongState)] (answerState (d.copyCut c .aborted) c)

/-! ## EJECT, CLEAR and TIMING (R107, R111, R116, R117) -/

/-- CHANNEL EJECT (R116). -/
def workChannelEject (channel : Byte) (d : Device) : Device × Response :=
  withChan channel d fun c =>
    checked d [((d.chan c).state == .loaded, .wrongState)] (answerState (d.beginEject c .reject) c)

/-- CHANNEL CLEAR's effect (R97, R107, R111); none in the states in which it is refused. -/
def Device.cleared (d : Device) (c : Chan) : Option Device :=
  match (d.chan c).state with
  | .starved => some (d.enterIdle c)
  | .jammed => some (d.beginEject c (d.chan c).ejectBin)
  | .fault => some ((d.modChan c fun ch => { ch with fault := none }).enterService c)
  | .offline | .idle | .feeding | .loaded | .spinup | .calibrating | .copying | .held | .capturing | .ejecting => none

/-- CHANNEL CLEAR (R111). The reply carries the new state in all three states (log 19). -/
def workChannelClear (channel : Byte) (d : Device) : Device × Response :=
  withChan channel d fun c =>
    match d.cleared c with
    | none => refuse d .wrongState
    | some d1 => answerState d1 c

/-- The states in which CHANNEL TIMING is accepted (R117). -/
def ChanState.retimes (s : ChanState) : Bool := s == .offline || s == .idle || s == .loaded

/-- CHANNEL TIMING (R117). -/
def workChannelTiming (channel step settle : Byte) (d : Device) : Device × Response :=
  withChan channel d fun c =>
    checked d
      [(within 2 8 step.toNat && within 10 30 settle.toNat, .badValue), ((d.chan c).state.retimes, .wrongState)]
      (answerOk (d.modChan c fun ch => { ch with stepInterval := step.toNat, settle := settle.toNat }) [])

/-! ## QUERY (R92, R94, R120; widths and positions by log 14) -/

/-- The reason of an outcome, when it is a REJECT (R94). -/
def CopyOutcome.reason : CopyOutcome → Option RejectReason
  | .good => none
  | .reject r => some r

/-- GOOD or REJECT, by position (R94). -/
def CopyOutcome.pos : CopyOutcome → Nat
  | .good => 0
  | .reject _ => 1

/-- A last outcome record in a reply (R94). -/
def uOutcome (o : Option LastOutcome) : List Byte :=
  u8? (o.map fun x => x.outcome.pos) ++ u8? (o.bind fun x => x.outcome.reason.map RejectReason.pos) ++
    u8? (o.bind fun x => x.faultReason.map FaultReason.pos) ++ u8? (o.map fun x => x.lot.val) ++
    u32? (o.bind LastOutcome.serial) ++ uKey (o.bind LastOutcome.failedKey) ++ uVerifyFault (o.bind LastOutcome.verifyFault) ++
    u8? (o.map LastOutcome.written) ++ u16? (o.map LastOutcome.rewrites)

/-- A copy context in a reply, with the plan's effective gap 3 and expected sum (R120). -/
def uContext (o : Option CopyContext) : List Byte :=
  u8? (o.map fun x => x.lot.val) ++ u8? (o.map fun x => x.image.val) ++ u32? (o.bind CopyContext.serial) ++
    u8? (o.map CopyContext.digits) ++ u8? (o.map fun x => x.encoding.pos) ++ uPatch (o.bind CopyContext.patch) ++
    u8? (o.map fun x => x.verify.pos) ++ u8? (o.map CopyContext.retryLimit) ++ u8? (o.map CopyContext.budget) ++
    uKey (o.bind CopyContext.key) ++ u8? (o.bind fun x => x.phase.map CopyPhase.pos) ++ u8? (o.map CopyContext.attempt) ++
    u8? (o.map CopyContext.failures) ++ u8? (o.bind CopyContext.counter) ++ u8? (o.map CopyContext.written) ++
    u16? (o.map CopyContext.rewrites) ++ uVerifyFault (o.bind CopyContext.lastFault) ++
    u8? (o.bind fun x => x.plan.map Plan.gEff) ++ u16? (o.bind fun x => x.plan.map Plan.expected)

/-- The result fields of CHANNEL QUERY (R92, R120). -/
def Channel.report (ch : Channel) : List Byte :=
  u8 ch.state.pos ++ u8 ch.work.pos ++ uFault ch.fault ++ uFlag ch.faultPending ++ u8 ch.ejectBin.pos ++ uFlag ch.hold ++
    u8? (ch.lot.map Fin.val) ++ uFlag ch.master ++ u8 ch.stepInterval ++ u8 ch.settle ++ u32 ch.period ++ u8 ch.headCyl ++
    uFlag ch.calibrated ++ uFlag ch.lines.index ++ uFlag ch.lines.trackZero ++ uFlag ch.media ++
    uFlag ch.lines.writeProtect ++ uOutcome ch.last ++ uContext ch.ctx

/-- CHANNEL QUERY (R92, R120). -/
def workChannelQuery (channel : Byte) (d : Device) : Device × Response :=
  withChan channel d fun c => answerOk d (d.chan c).report

end Sys2Proof.Machine
end

