-- ==== Sys2Proof/Machine/Captures.lean ====
section
/-! DEFINITION. The capture requests (chapter 7). -/

namespace Sys2Proof.Machine

/-- The context at a successful CAPTURE START (R143). -/
def startedCapture (c : Chan) (i : ImageNo) (firstCyl lastCyl heads : Nat) : CaptureContext :=
  { CaptureContext.reset with
    state := .running, channel := some c, image := some i, firstCyl := firstCyl, lastCyl := lastCyl, headCount := heads,
    phase := some .spinup }

/-- CAPTURE START's effects (R145). -/
def Device.startCapture (d : Device) (c : Chan) (i : ImageNo) (firstCyl lastCyl heads : Nat) : Device :=
  ((d.setCapture (startedCapture c i firstCyl lastCyl heads)).setImage i { d.image i with captureOwner := some c }).modChan c
    fun ch => ch.enterSpinup .capture

/-- CAPTURE START (R144, R145). -/
def workCaptureStart (channel image firstCyl lastCyl heads : Byte) (d : Device) : Device × Response :=
  withChan channel d fun c => withSlot 8 image d fun i =>
    checked d
      [(d.capture.state != .running, .busy), ((d.image i).state == .building, .wrongState), (!d.streamOn i, .busy),
       ((d.chan c).state == .loaded, .wrongState), ((d.chan c).lot.isNone, .wrongState),
       (decide (firstCyl.toNat ≤ lastCyl.toNat) && decide (lastCyl.toNat < (d.image i).cylinders) &&
          within 1 2 heads.toNat && decide (heads.toNat ≤ (d.image i).heads), .badValue)]
      (answerStarted (d.startCapture c i firstCyl.toNat lastCyl.toNat heads.toNat))

/-- The result fields of CAPTURE ABORT (R156). -/
def CaptureContext.abortReport (x : CaptureContext) : List Byte :=
  u8 EndReason.aborted.pos ++ uKey x.key ++ u8 x.captured ++ u8 x.absent ++ u8 (x.failed.length + x.overflow)

/-- CAPTURE ABORT's effect: the capture ends ABORTED on its channel (R156). -/
def Device.abortCapture (d : Device) : Device :=
  match d.capture.channel with
  | none => d
  | some c => d.captureEnd c .aborted

/-- CAPTURE ABORT (R156). -/
def workCaptureAbort (d : Device) : Device × Response :=
  checked d [(d.capture.state == .running, .wrongState)] (answerOk d.abortCapture d.capture.abortReport)

/-- One failed list entry in a reply: key and reason (R157). -/
def uFailed (x : Key × FailReason) : List Byte := uKey (some x.1) ++ u8 x.2.pos

/-- The result fields of CAPTURE QUERY (R157). -/
def CaptureContext.report (x : CaptureContext) : List Byte :=
  u8 x.state.pos ++ uChan x.channel ++ u8? (x.image.map Fin.val) ++ u8 x.firstCyl ++ u8 x.lastCyl ++ u8 x.headCount ++
    uKey x.key ++ u8? (x.phase.map CapturePhase.pos) ++ u8 x.scans ++ u8 x.reads ++ u8 x.captured ++ u8 x.absent ++
    u8 x.failed.length ++ x.failed.flatMap uFailed ++ u8 x.overflow ++ u8? (x.endReason.map EndReason.pos)

/-- CAPTURE QUERY (R157). -/
def workCaptureQuery (d : Device) : Device × Response := answerOk d d.capture.report

end Sys2Proof.Machine
end

