-- ==== Sys2Proof/Machine/NoticeUnit.lean ====
section
/-! DEFINITION. The notice requests (chapter 9). -/

namespace Sys2Proof.Machine

/-- NOTICE READ (R175). -/
def workNoticeRead (d : Device) : Device × Response :=
  answerOk d
    (maskBytes d.noticeWord ++ maskBytes d.notices.enable ++ uFlag d.notices.activeHigh ++ uFlag d.lineAsserted)

/-- NOTICE CLEAR (R176): the word before, and the word after. -/
def workNoticeClear (mask : BitVec 24) (d : Device) : Device × Response :=
  answerOk (d.clearNotices mask) (maskBytes d.noticeWord ++ maskBytes (d.clearNotices mask).noticeWord)

/-- The enable mask and the polarity replaced (R177). -/
def Device.enableNotices (d : Device) (mask : BitVec 24) (activeHigh : Bool) : Device :=
  { d with notices := { d.notices with enable := mask, activeHigh := activeHigh } }

/-- NOTICE ENABLE (R177). -/
def workNoticeEnable (mask : BitVec 24) (polarity : Byte) (d : Device) : Device × Response :=
  checked d [(!mask.getLsbD 23, .badValue), (decide (polarity.toNat ≤ 1), .badValue)]
    (answerOk (d.enableNotices mask (polarity.toNat == 1))
      (uFlag (d.enableNotices mask (polarity.toNat == 1)).lineAsserted))

end Sys2Proof.Machine
end

