-- ==== Sys2Proof/Machine/Engine.lean ====
section
/-! DEFINITION. The part's reset, and the request engine: what it makes of a frame, and when it takes the next one (R162, R163,
R171). -/

namespace Sys2Proof.Machine

/-! ## Reset (R26, R63, R90, R118, R142, R158, R172, R179) -/

/-- The part after reset. What lies outside it stays: the bays' input levels, the RESET input, and the byte the last read returned
(logs 4, 13, 24); so does the counter of free choices (log 9). -/
def Device.afterReset (d : Device) : Device :=
  { port := Port.reset d.port.dataLines, store := Store.reset, profiles := profilesReset,
    lots := Vector.replicate 8 Lot.vacant, channels := d.channels.map fun ch => Channel.reset ch.media ch.lines,
    capture := CaptureContext.reset, notices := Notices.reset, resetInput := d.resetInput, freeCount := d.freeCount }

/-! ## Calling the owning block -/

/-- A request's result with a reply to place. -/
def replied (x : Device × Response) : Device × Option Response := (x.1, some x.2)

/-- The owning block of each request (section 8.9). PART RESET alone gives no reply (R171). -/
def work (r : Request) (d : Device) : Device × Option Response :=
  match r with
  | .imageCreate i p c h label => replied (workImageCreate i p c h label d)
  | .imageSeal i => replied (workImageSeal i d)
  | .imageUnseal i => replied (workImageUnseal i d)
  | .imageRetire i => replied (workImageRetire i d)
  | .imageDiscard i => replied (workImageDiscard i d)
  | .imageQuery i => replied (workImageQuery i d)
  | .trackLoad ps => replied (workTrackLoad ps d)
  | .trackFill ps => replied (workTrackFill ps d)
  | .trackRemove i c h => replied (workTrackRemove i c h d)
  | .trackRead i c h => replied (workTrackRead i c h d)
  | .trackQuery i c h f m => replied (workTrackQuery i c h f m d)
  | .sectorPeek i c h j o n => replied (workSectorPeek i c h j o n d)
  | .sectorAmend i c h j o n data => replied (workSectorAmend i c h j o n data d)
  | .streamAbort => replied (workStreamAbort d)
  | .profileSet ps => replied (workProfileSet ps d)
  | .profileQuery p => replied (workProfileQuery p d)
  | .lotCreate ps => replied (workLotCreate ps d)
  | .lotStart l => replied (workLotStart l d)
  | .lotHold l => replied (workLotHold l d)
  | .lotResume l => replied (workLotResume l d)
  | .lotClose l => replied (workLotClose l d)
  | .lotDelete l => replied (workLotDelete l d)
  | .lotMark l m => replied (workLotMark l m d)
  | .lotQuery l => replied (workLotQuery l d)
  | .channelEnable c => replied (workChannelEnable c d)
  | .channelDisable c => replied (workChannelDisable c d)
  | .channelAssign c l => replied (workChannelAssign c l d)
  | .channelHold c => replied (workChannelHold c d)
  | .channelRelease c => replied (workChannelRelease c d)
  | .channelAbort c => replied (workChannelAbort c d)
  | .channelEject c => replied (workChannelEject c d)
  | .channelClear c => replied (workChannelClear c d)
  | .channelTiming c s e => replied (workChannelTiming c s e d)
  | .channelQuery c => replied (workChannelQuery c d)
  | .captureStart c i f l k => replied (workCaptureStart c i f l k d)
  | .captureAbort => replied (workCaptureAbort d)
  | .captureQuery => replied (workCaptureQuery d)
  | .noticeRead => replied (workNoticeRead d)
  | .noticeClear m => replied (workNoticeClear m d)
  | .noticeEnable m p => replied (workNoticeEnable m p d)
  | .storeStatus => replied (workStoreStatus d)
  | .partReset => (d.afterReset, none)

/-! ## The request engine (R162, R163) -/

/-- What the engine makes of a frame: its own four checks in order (R163), then the owning block. -/
def workFrame (f : Frame) (d : Device) : Device × Option Response :=
  if f.body = [] then replied (refuse d .badLength)
  else if f.long then replied (refuse d .badLength)
  else
    match decodeRequest f.code f.body.tail with
    | .error .badCode => replied (refuse d .badCode)
    | .error .badLength => replied (refuse d .badLength)
    | .ok r => work r d

/-- The reply to a frame: its tag, 00h for an empty body, and its code, with the result (R163, R164, section 8.8). -/
def replyTo (f : Frame) (x : Response) : Reply := ⟨f.body.headD 0, f.code, x.completion, x.result⟩

/-- Place the reply, if there is one, at the tail of the reply queue; the engine returns to idle (R162). -/
def Device.placeReply (d : Device) (f : Frame) (x : Option Response) : Device :=
  { d with port :=
    { d.port with
      replies := match x with
        | none => d.port.replies
        | some x => d.port.replies ++ [replyTo f x],
      working := none } }

/-- The engine takes frame `f`, leaving `rest` in the request queue, works it and places the reply, as one event (R162). -/
def Device.workOne (d : Device) (f : Frame) (rest : List Frame) : Device :=
  let x := workFrame f { d with port := { d.port with requests := rest, working := some f } }
  x.1.placeReply f x.2

/-- The conditions under which the engine takes a request, but for a queue that is not empty (R162). -/
def Device.engineReady (d : Device) : Bool := d.port.working.isNone && decide (d.port.replies.length < 4)

/-- The engine takes requests while its conditions hold, at most `fuel` of them (R162). -/
def Device.runEngine : Nat → Device → Device
  | 0, d => d
  | fuel + 1, d =>
    match d.port.requests with
    | [] => d
    | f :: rest => if d.engineReady then Device.runEngine fuel (d.workOne f rest) else d

/-- The check of the engine's conditions after an event (R162): every request that can be taken is taken. -/
def Device.engineCheck (d : Device) : Device := Device.runEngine d.port.requests.length d

end Sys2Proof.Machine
end

