-- ==== Sys2Proof/Machine/PortOps.lean ====
section
/-! DEFINITION. The accesses of the host at the four locations (chapter 8), a whole request sent through them, and the bytes of the
stream (R51, R52, R62, R168). -/

namespace Sys2Proof.Machine

/-- A write access: lost while the RESET input is asserted (R172). -/
def Device.access (d : Device) (f : Device → Device) : Device := if d.resetInput then d else f d

/-- What a read access returns stands on the data lines (log 13). -/
def Device.returns (d : Device) (b : Byte) : Device := { d with port := { d.port with dataLines := b } }

/-- A read access: it returns 00h while the RESET input is asserted (R172). -/
def Device.readAccess (d : Device) (f : Device → Device) : Device := if d.resetInput then d.returns 0 else f d

/-! ## Composing and posting (R160, R161) -/

/-- A write to Frame (R160). -/
def Device.openFrame (d : Device) (code : Byte) : Device :=
  { d with port := { d.port with frame := some ⟨code, [], false⟩ } }

/-- A body byte written to an open frame (R160). -/
def Frame.append (f : Frame) (b : Byte) : Frame :=
  if f.body.length < 256 then { f with body := f.body ++ [b] } else { f with long := true }

/-- A write to Body (R160). -/
def Device.writeBody (d : Device) (b : Byte) : Device :=
  { d with port := { d.port with frame := d.port.frame.map fun f => f.append b } }

/-- CANCEL FRAME (R160). -/
def Device.cancelFrame (d : Device) : Device := { d with port := { d.port with frame := none } }

/-- A frame joins the tail of the request queue, or is discarded with POST REFUSED when the queue holds 4 (R161, R162). -/
def Device.postFrame (d : Device) (f : Frame) : Device :=
  if d.port.requests.length < 4 then
    Device.engineCheck
      { d with port := { d.port with frame := none, requests := d.port.requests ++ [f], postRefused := false } }
  else { d with port := { d.port with frame := none, postRefused := true } }

/-- POST (R161). -/
def Device.post (d : Device) : Device :=
  match d.port.frame with
  | none => d
  | some f => d.postFrame f

/-- The frame a request is posted in: at most 256 body bytes, and the long mark when more were written (R160). -/
def requestFrame (tag : Byte) (r : Request) : Frame :=
  ⟨r.code, (r.body tag).take 256, decide (256 < (r.body tag).length)⟩

/-- A whole request: its frame opened, its body written and POST given, with nothing between (log 1). -/
def Device.submit (d : Device) (tag : Byte) (r : Request) : Device := d.access fun d => d.postFrame (requestFrame tag r)

/-! ## Replies (R165) -/

/-- A read of Body (R165). -/
def Device.readBody (d : Device) : Device :=
  match d.port.replies with
  | [] => d.returns 0
  | r :: _ =>
    match r.bytes[d.port.readPos]? with
    | none => d.returns 0
    | some b => { d with port := { d.port with dataLines := b, readPos := d.port.readPos + 1 } }

/-- NEXT REPLY (R165): the room it makes lets the engine take requests (R162). -/
def Device.nextReply (d : Device) : Device :=
  match d.port.replies with
  | [] => d
  | _ :: rest => Device.engineCheck { d with port := { d.port with replies := rest, readPos := 0 } }

/-! ## The stream (R51, R52, R62, R167, R168) -/

/-- A stray access sets STREAM FAULT (R168). -/
def Device.stray (d : Device) : Device := { d with port := { d.port with streamFault := true } }

/-- The LOADING record takes a byte at data offset `b` (R51). -/
def Store.takeByte (st : Store) (r : RecNo) (b : Nat) (v : Byte) : Store :=
  let x := st.record r
  { (st.setRecord r { x with track := { x.track with sum := (x.track.sum + v.toNat) % 65536 } }) with
    memory := dataWrite st.memory x.track.pages b v }

/-- Load completion, after the D-th byte: the FILL sectors join the track sum and the record is installed (R52). -/
def Store.completeLoad (st : Store) (r : RecNo) : Store :=
  let x := st.record r
  (st.setRecord r { x with track := { x.track with sum := (x.track.sum + fillSum x.track.sectors) % 65536 } }).install r

/-- A write at Stream (R51, R52, R168). -/
def Device.writeStreamByte (d : Device) (v : Byte) : Device :=
  match d.port.stream with
  | .inbound r k =>
    let st := d.store.takeByte r ((d.store.record r).track.dataLen - k) v
    if k ≤ 1 then ({ d with store := st.completeLoad r }).closeStream
    else { d with store := st, port := { d.port with stream := .inbound r (k - 1) } }
  | .closed | .outbound _ _ => d.stray

/-- A read at Stream (R62, R168). -/
def Device.readStreamByte (d : Device) : Device :=
  match d.port.stream with
  | .outbound r k =>
    let t := (d.store.record r).track
    let d1 := d.returns (dataRead d.store.memory t.pages (t.dataLen - k))
    if k ≤ 1 then ({ d1 with store := d.store.unpinRead r }).closeStream
    else { d1 with port := { d1.port with stream := .outbound r (k - 1) } }
  | .closed | .inbound _ _ => (d.returns 0).stray

/-! ## The four locations (R159) -/

/-- The locations of the request port (R159). -/
inductive Location where
  | body
  | frame
  | stream
  | control
  deriving DecidableEq, Repr

/-- A control code written at Control: 01h POST, 02h NEXT REPLY, 03h CANCEL FRAME; any other value is ignored (R159). -/
def Device.writeControl (d : Device) (code : Byte) : Device :=
  if code = 0x01 then d.post
  else if code = 0x02 then d.nextReply
  else if code = 0x03 then d.cancelFrame
  else d

/-- A write of a byte at a location: the Write column of R159's table. -/
def Device.writeAt (d : Device) (l : Location) (b : Byte) : Device :=
  d.access fun d =>
    match l with
    | .body => d.writeBody b
    | .frame => d.openFrame b
    | .stream => d.writeStreamByte b
    | .control => d.writeControl b

/-- A read at a location: the Read column of R159's table, the byte that is returned beside the part. A read of Frame or Control
changes nothing (log 25). -/
def Device.readAt (d : Device) (l : Location) : Byte × Device :=
  match l with
  | .body => let x := d.readAccess Device.readBody; (x.port.dataLines, x)
  | .frame => (d.readFrame, d)
  | .stream => let x := d.readAccess Device.readStreamByte; (x.port.dataLines, x)
  | .control => (d.readControl, d)

end Sys2Proof.Machine
end

