-- ==== Sys2Proof/Machine/RequestCommands.lean ====
section
/-! DEFINITION. The meanings of the 42 request rows: each sends its request through the port (R160, R161, log 1); what the owning
block does with it is `work` (section 8.9). -/

namespace Sys2Proof.Machine

/-- IMAGE CREATE (R10). -/
def execImageCreate (tag image profile cylinders heads : Byte) (label : List Byte) (s : State) :
    Host.Outcome State Fault Refusal :=
  onDevice s fun d => d.submit tag (.imageCreate image profile cylinders heads label)

/-- IMAGE SEAL (R11). -/
def execImageSeal (tag image : Byte) (s : State) : Host.Outcome State Fault Refusal :=
  onDevice s fun d => d.submit tag (.imageSeal image)

/-- IMAGE UNSEAL (R12). -/
def execImageUnseal (tag image : Byte) (s : State) : Host.Outcome State Fault Refusal :=
  onDevice s fun d => d.submit tag (.imageUnseal image)

/-- IMAGE RETIRE (R13). -/
def execImageRetire (tag image : Byte) (s : State) : Host.Outcome State Fault Refusal :=
  onDevice s fun d => d.submit tag (.imageRetire image)

/-- IMAGE DISCARD (R14). -/
def execImageDiscard (tag image : Byte) (s : State) : Host.Outcome State Fault Refusal :=
  onDevice s fun d => d.submit tag (.imageDiscard image)

/-- IMAGE QUERY (R24). -/
def execImageQuery (tag image : Byte) (s : State) : Host.Outcome State Fault Refusal :=
  onDevice s fun d => d.submit tag (.imageQuery image)

/-- TRACK LOAD (R49). -/
def execTrackLoad (tag : Byte) (ps : LoadParams) (s : State) : Host.Outcome State Fault Refusal :=
  onDevice s fun d => d.submit tag (.trackLoad ps)

/-- TRACK FILL (R55). -/
def execTrackFill (tag : Byte) (ps : FillParams) (s : State) : Host.Outcome State Fault Refusal :=
  onDevice s fun d => d.submit tag (.trackFill ps)

/-- TRACK REMOVE (R56). -/
def execTrackRemove (tag image cyl head : Byte) (s : State) : Host.Outcome State Fault Refusal :=
  onDevice s fun d => d.submit tag (.trackRemove image cyl head)

/-- TRACK READ (R61). -/
def execTrackRead (tag image cyl head : Byte) (s : State) : Host.Outcome State Fault Refusal :=
  onDevice s fun d => d.submit tag (.trackRead image cyl head)

/-- TRACK QUERY (R60). -/
def execTrackQuery (tag image cyl head first count : Byte) (s : State) : Host.Outcome State Fault Refusal :=
  onDevice s fun d => d.submit tag (.trackQuery image cyl head first count)

/-- SECTOR PEEK (R59). -/
def execSectorPeek (tag image cyl head sector : Byte) (offset : Half) (length : Byte) (s : State) :
    Host.Outcome State Fault Refusal :=
  onDevice s fun d => d.submit tag (.sectorPeek image cyl head sector offset length)

/-- SECTOR AMEND (R57). -/
def execSectorAmend (tag image cyl head sector : Byte) (offset : Half) (length : Byte) (data : List Byte) (s : State) :
    Host.Outcome State Fault Refusal :=
  onDevice s fun d => d.submit tag (.sectorAmend image cyl head sector offset length data)

/-- STREAM ABORT (R54). -/
def execStreamAbort (tag : Byte) (s : State) : Host.Outcome State Fault Refusal :=
  onDevice s fun d => d.submit tag .streamAbort

/-- PROFILE SET (R64). -/
def execProfileSet (tag : Byte) (ps : ProfileParams) (s : State) : Host.Outcome State Fault Refusal :=
  onDevice s fun d => d.submit tag (.profileSet ps)

/-- PROFILE QUERY (R65). -/
def execProfileQuery (tag profile : Byte) (s : State) : Host.Outcome State Fault Refusal :=
  onDevice s fun d => d.submit tag (.profileQuery profile)

/-- LOT CREATE (R68). -/
def execLotCreate (tag : Byte) (ps : LotParams) (s : State) : Host.Outcome State Fault Refusal :=
  onDevice s fun d => d.submit tag (.lotCreate ps)

/-- LOT START (R71). -/
def execLotStart (tag lot : Byte) (s : State) : Host.Outcome State Fault Refusal :=
  onDevice s fun d => d.submit tag (.lotStart lot)

/-- LOT HOLD (R72). -/
def execLotHold (tag lot : Byte) (s : State) : Host.Outcome State Fault Refusal :=
  onDevice s fun d => d.submit tag (.lotHold lot)

/-- LOT RESUME (R73). -/
def execLotResume (tag lot : Byte) (s : State) : Host.Outcome State Fault Refusal :=
  onDevice s fun d => d.submit tag (.lotResume lot)

/-- LOT CLOSE (R74). -/
def execLotClose (tag lot : Byte) (s : State) : Host.Outcome State Fault Refusal :=
  onDevice s fun d => d.submit tag (.lotClose lot)

/-- LOT DELETE (R75). -/
def execLotDelete (tag lot : Byte) (s : State) : Host.Outcome State Fault Refusal :=
  onDevice s fun d => d.submit tag (.lotDelete lot)

/-- LOT MARK (R76). -/
def execLotMark (tag lot : Byte) (mark : Half) (s : State) : Host.Outcome State Fault Refusal :=
  onDevice s fun d => d.submit tag (.lotMark lot mark)

/-- LOT QUERY (R77). -/
def execLotQuery (tag lot : Byte) (s : State) : Host.Outcome State Fault Refusal :=
  onDevice s fun d => d.submit tag (.lotQuery lot)

/-- CHANNEL ENABLE (R95). -/
def execChannelEnable (tag channel : Byte) (s : State) : Host.Outcome State Fault Refusal :=
  onDevice s fun d => d.submit tag (.channelEnable channel)

/-- CHANNEL DISABLE (R95). -/
def execChannelDisable (tag channel : Byte) (s : State) : Host.Outcome State Fault Refusal :=
  onDevice s fun d => d.submit tag (.channelDisable channel)

/-- CHANNEL ASSIGN (R114). -/
def execChannelAssign (tag channel lot : Byte) (s : State) : Host.Outcome State Fault Refusal :=
  onDevice s fun d => d.submit tag (.channelAssign channel lot)

/-- CHANNEL HOLD (R112). -/
def execChannelHold (tag channel : Byte) (s : State) : Host.Outcome State Fault Refusal :=
  onDevice s fun d => d.submit tag (.channelHold channel)

/-- CHANNEL RELEASE (R112). -/
def execChannelRelease (tag channel : Byte) (s : State) : Host.Outcome State Fault Refusal :=
  onDevice s fun d => d.submit tag (.channelRelease channel)

/-- CHANNEL ABORT (R113). -/
def execChannelAbort (tag channel : Byte) (s : State) : Host.Outcome State Fault Refusal :=
  onDevice s fun d => d.submit tag (.channelAbort channel)

/-- CHANNEL EJECT (R116). -/
def execChannelEject (tag channel : Byte) (s : State) : Host.Outcome State Fault Refusal :=
  onDevice s fun d => d.submit tag (.channelEject channel)

/-- CHANNEL CLEAR (R111). -/
def execChannelClear (tag channel : Byte) (s : State) : Host.Outcome State Fault Refusal :=
  onDevice s fun d => d.submit tag (.channelClear channel)

/-- CHANNEL TIMING (R117). -/
def execChannelTiming (tag channel step settle : Byte) (s : State) : Host.Outcome State Fault Refusal :=
  onDevice s fun d => d.submit tag (.channelTiming channel step settle)

/-- CHANNEL QUERY (R92). -/
def execChannelQuery (tag channel : Byte) (s : State) : Host.Outcome State Fault Refusal :=
  onDevice s fun d => d.submit tag (.channelQuery channel)

/-- CAPTURE START (R144). -/
def execCaptureStart (tag channel image firstCyl lastCyl heads : Byte) (s : State) : Host.Outcome State Fault Refusal :=
  onDevice s fun d => d.submit tag (.captureStart channel image firstCyl lastCyl heads)

/-- CAPTURE ABORT (R156). -/
def execCaptureAbort (tag : Byte) (s : State) : Host.Outcome State Fault Refusal :=
  onDevice s fun d => d.submit tag .captureAbort

/-- CAPTURE QUERY (R157). -/
def execCaptureQuery (tag : Byte) (s : State) : Host.Outcome State Fault Refusal :=
  onDevice s fun d => d.submit tag .captureQuery

/-- NOTICE READ (R175). -/
def execNoticeRead (tag : Byte) (s : State) : Host.Outcome State Fault Refusal :=
  onDevice s fun d => d.submit tag .noticeRead

/-- NOTICE CLEAR (R176). -/
def execNoticeClear (tag : Byte) (mask : BitVec 24) (s : State) : Host.Outcome State Fault Refusal :=
  onDevice s fun d => d.submit tag (.noticeClear mask)

/-- NOTICE ENABLE (R177). -/
def execNoticeEnable (tag : Byte) (mask : BitVec 24) (polarity : Byte) (s : State) : Host.Outcome State Fault Refusal :=
  onDevice s fun d => d.submit tag (.noticeEnable mask polarity)

/-- STORE STATUS (R25). -/
def execStoreStatus (tag : Byte) (s : State) : Host.Outcome State Fault Refusal :=
  onDevice s fun d => d.submit tag .storeStatus

/-- PART RESET (R171). -/
def execPartReset (tag : Byte) (s : State) : Host.Outcome State Fault Refusal :=
  onDevice s fun d => d.submit tag .partReset

end Sys2Proof.Machine
end

