-- ==== Sys2Proof/Machine/PortCommands.lean ====
section
/-! DEFINITION. The meanings of the port access rows and of the reset rows (chapter 8). -/

namespace Sys2Proof.Machine

/-- A write to Frame (R160). -/
def execFrameWrite (code : Byte) (s : State) : Host.Outcome State Fault Refusal :=
  onDevice s fun d => d.writeAt .frame code

/-- A write to Body (R160). -/
def execBodyWrite (value : Byte) (s : State) : Host.Outcome State Fault Refusal :=
  onDevice s fun d => d.writeAt .body value

/-- A read of Body (R165). -/
def execBodyRead (s : State) : Host.Outcome State Fault Refusal := onDevice s fun d => (d.readAt .body).2

/-- POST: control code 01h (R159, R161). -/
def execPost (s : State) : Host.Outcome State Fault Refusal := onDevice s fun d => d.writeAt .control 0x01

/-- NEXT REPLY: control code 02h (R159, R165). -/
def execNextReply (s : State) : Host.Outcome State Fault Refusal := onDevice s fun d => d.writeAt .control 0x02

/-- CANCEL FRAME: control code 03h (R159, R160). -/
def execCancelFrame (s : State) : Host.Outcome State Fault Refusal := onDevice s fun d => d.writeAt .control 0x03

/-- A write to Stream (R51, R52, R168). -/
def execStreamWrite (value : Byte) (s : State) : Host.Outcome State Fault Refusal :=
  onDevice s fun d => d.writeAt .stream value

/-- A read of Stream (R62, R168). -/
def execStreamRead (s : State) : Host.Outcome State Fault Refusal := onDevice s fun d => (d.readAt .stream).2

/-- Assertion of the RESET input: the part's reset, and the input asserted (R172, log 24). -/
def execReset (s : State) : Host.Outcome State Fault Refusal :=
  onDevice s fun d => { d.afterReset with resetInput := true }

/-- Power-on: the part's reset (R172, log 24). -/
def execPowerOn (s : State) : Host.Outcome State Fault Refusal := onDevice s Device.afterReset

/-- Deassertion of the RESET input: accesses are taken again (R172). -/
def execResetInputRelease (s : State) : Host.Outcome State Fault Refusal := onDevice s fun d => { d with resetInput := false }

end Sys2Proof.Machine
end

