-- ==== Sys2Proof/Machine/BayCommands.lean ====
section
/-! DEFINITION. The meanings of the bay and timer rows (chapters 5 to 7). Each takes the levels of the bay's input lines at its
instant first (log 4). -/

namespace Sys2Proof.Machine

/-- A rise of media present (R95 to R97). -/
def execInsertion (c : Chan) (l : Lines) (s : State) : Host.Outcome State Fault Refusal :=
  onDevice s fun d => (d.sample c l).insertion c

/-- A fall of media present (R109). -/
def execRemoval (c : Chan) (l : Lines) (s : State) : Host.Outcome State Fault Refusal :=
  onDevice s fun d => (d.sample c l).removal c

/-- An index pulse at `time` µs (R100, R101, log 6). -/
def execIndexPulse (c : Chan) (l : Lines) (time : Nat) (s : State) : Host.Outcome State Fault Refusal :=
  onDevice s fun d => (d.sample c l).indexPulse c time

/-- An ID block passes under the head, to its last CRC byte (R128, R148, R150). -/
def execIdBlock (c : Chan) (cyl head sec size crcHi crcLo : Byte) (s : State) : Host.Outcome State Fault Refusal :=
  onDevice s fun d => d.idBlockRead c cyl head sec size [crcHi, crcLo]

/-- A data block passes under the head, to its last CRC byte (R129, R150). -/
def execDataBlock (c : Chan) (mark : Mark) (raw : List Byte) (s : State) : Host.Outcome State Fault Refusal :=
  onDevice s fun d => d.dataBlockRead c mark raw

/-- The index pulse at which the revolution counter reaches the budget (R133, log 7). -/
def execRevolutionBudget (c : Chan) (l : Lines) (s : State) : Host.Outcome State Fault Refusal :=
  onDevice s fun d => (d.sample c l).budgetPulse c

/-- Expiry of the spin-up wait (R100). -/
def execSpinUpWait (c : Chan) (l : Lines) (s : State) : Host.Outcome State Fault Refusal :=
  onDevice s fun d => (d.sample c l).spinUpExpired c

/-- Expiry of the index timer (R101). -/
def execIndexTimeout (c : Chan) (l : Lines) (s : State) : Host.Outcome State Fault Refusal :=
  onDevice s fun d => (d.sample c l).indexExpired c

/-- Expiry of the step interval timer (R102 to R104). -/
def execStepInterval (c : Chan) (l : Lines) (s : State) : Host.Outcome State Fault Refusal :=
  onDevice s fun d => (d.sample c l).stepExpired c

/-- The step expiry after the 90th pulse with track zero inactive (R102, log 8). -/
def execNoTrack0 (c : Chan) (l : Lines) (s : State) : Host.Outcome State Fault Refusal :=
  onDevice s fun d => (d.sample c l).noTrack0Expired c

/-- Expiry of the settle timer (R102 to R104). -/
def execSettle (c : Chan) (l : Lines) (s : State) : Host.Outcome State Fault Refusal :=
  onDevice s fun d => (d.sample c l).settleExpired c

/-- Expiry of the feed timer (R97). -/
def execFeedTimeout (c : Chan) (l : Lines) (s : State) : Host.Outcome State Fault Refusal :=
  onDevice s fun d => (d.sample c l).feedExpired c

/-- Expiry of the eject timer (R106). -/
def execEjectTimeout (c : Chan) (l : Lines) (s : State) : Host.Outcome State Fault Refusal :=
  onDevice s fun d => (d.sample c l).ejectExpired c

end Sys2Proof.Machine
end

