-- ==== Sys2Proof/Machine/Dispatch.lean ====
section
/-! DEFINITION. What each command does: one arm per row of spec/opcode_table.json. -/

namespace Sys2Proof.Machine

/-- The effect of a command on the part (the queue of waiting commands is `step`'s). -/
def exec (i : Instr) (s : State) : Host.Outcome State Fault Refusal :=
  match i with
  | .imageCreate tag image profile cylinders heads label => Sys2Proof.Machine.execImageCreate tag image profile cylinders heads label s
  | .imageSeal tag image => Sys2Proof.Machine.execImageSeal tag image s
  | .imageUnseal tag image => Sys2Proof.Machine.execImageUnseal tag image s
  | .imageRetire tag image => Sys2Proof.Machine.execImageRetire tag image s
  | .imageDiscard tag image => Sys2Proof.Machine.execImageDiscard tag image s
  | .imageQuery tag image => Sys2Proof.Machine.execImageQuery tag image s
  | .trackLoad tag ps => Sys2Proof.Machine.execTrackLoad tag ps s
  | .trackFill tag ps => Sys2Proof.Machine.execTrackFill tag ps s
  | .trackRemove tag image cyl head => Sys2Proof.Machine.execTrackRemove tag image cyl head s
  | .trackRead tag image cyl head => Sys2Proof.Machine.execTrackRead tag image cyl head s
  | .trackQuery tag image cyl head first count => Sys2Proof.Machine.execTrackQuery tag image cyl head first count s
  | .sectorPeek tag image cyl head sector offset length => Sys2Proof.Machine.execSectorPeek tag image cyl head sector offset length s
  | .sectorAmend tag image cyl head sector offset length data => Sys2Proof.Machine.execSectorAmend tag image cyl head sector offset length data s
  | .streamAbort tag => Sys2Proof.Machine.execStreamAbort tag s
  | .profileSet tag ps => Sys2Proof.Machine.execProfileSet tag ps s
  | .profileQuery tag profile => Sys2Proof.Machine.execProfileQuery tag profile s
  | .lotCreate tag ps => Sys2Proof.Machine.execLotCreate tag ps s
  | .lotStart tag lot => Sys2Proof.Machine.execLotStart tag lot s
  | .lotHold tag lot => Sys2Proof.Machine.execLotHold tag lot s
  | .lotResume tag lot => Sys2Proof.Machine.execLotResume tag lot s
  | .lotClose tag lot => Sys2Proof.Machine.execLotClose tag lot s
  | .lotDelete tag lot => Sys2Proof.Machine.execLotDelete tag lot s
  | .lotMark tag lot mark => Sys2Proof.Machine.execLotMark tag lot mark s
  | .lotQuery tag lot => Sys2Proof.Machine.execLotQuery tag lot s
  | .channelEnable tag channel => Sys2Proof.Machine.execChannelEnable tag channel s
  | .channelDisable tag channel => Sys2Proof.Machine.execChannelDisable tag channel s
  | .channelAssign tag channel lot => Sys2Proof.Machine.execChannelAssign tag channel lot s
  | .channelHold tag channel => Sys2Proof.Machine.execChannelHold tag channel s
  | .channelRelease tag channel => Sys2Proof.Machine.execChannelRelease tag channel s
  | .channelAbort tag channel => Sys2Proof.Machine.execChannelAbort tag channel s
  | .channelEject tag channel => Sys2Proof.Machine.execChannelEject tag channel s
  | .channelClear tag channel => Sys2Proof.Machine.execChannelClear tag channel s
  | .channelTiming tag channel step settle => Sys2Proof.Machine.execChannelTiming tag channel step settle s
  | .channelQuery tag channel => Sys2Proof.Machine.execChannelQuery tag channel s
  | .captureStart tag channel image firstCyl lastCyl heads => Sys2Proof.Machine.execCaptureStart tag channel image firstCyl lastCyl heads s
  | .captureAbort tag => Sys2Proof.Machine.execCaptureAbort tag s
  | .captureQuery tag => Sys2Proof.Machine.execCaptureQuery tag s
  | .noticeRead tag => Sys2Proof.Machine.execNoticeRead tag s
  | .noticeClear tag mask => Sys2Proof.Machine.execNoticeClear tag mask s
  | .noticeEnable tag mask polarity => Sys2Proof.Machine.execNoticeEnable tag mask polarity s
  | .storeStatus tag => Sys2Proof.Machine.execStoreStatus tag s
  | .partReset tag => Sys2Proof.Machine.execPartReset tag s
  | .reset => Sys2Proof.Machine.execReset s
  | .powerOn => Sys2Proof.Machine.execPowerOn s
  | .frameWrite code => Sys2Proof.Machine.execFrameWrite code s
  | .bodyWrite value => Sys2Proof.Machine.execBodyWrite value s
  | .bodyRead => Sys2Proof.Machine.execBodyRead s
  | .post => Sys2Proof.Machine.execPost s
  | .nextReply => Sys2Proof.Machine.execNextReply s
  | .cancelFrame => Sys2Proof.Machine.execCancelFrame s
  | .streamWrite value => Sys2Proof.Machine.execStreamWrite value s
  | .streamRead => Sys2Proof.Machine.execStreamRead s
  | .insertion c l => Sys2Proof.Machine.execInsertion c l s
  | .removal c l => Sys2Proof.Machine.execRemoval c l s
  | .indexPulse c l time => Sys2Proof.Machine.execIndexPulse c l time s
  | .idBlock c cyl head sec size crcHi crcLo => Sys2Proof.Machine.execIdBlock c cyl head sec size crcHi crcLo s
  | .dataBlock c mark raw => Sys2Proof.Machine.execDataBlock c mark raw s
  | .revolutionBudget c l => Sys2Proof.Machine.execRevolutionBudget c l s
  | .spinUpWait c l => Sys2Proof.Machine.execSpinUpWait c l s
  | .indexTimeout c l => Sys2Proof.Machine.execIndexTimeout c l s
  | .stepInterval c l => Sys2Proof.Machine.execStepInterval c l s
  | .noTrack0 c l => Sys2Proof.Machine.execNoTrack0 c l s
  | .settle c l => Sys2Proof.Machine.execSettle c l s
  | .feedTimeout c l => Sys2Proof.Machine.execFeedTimeout c l s
  | .ejectTimeout c l => Sys2Proof.Machine.execEjectTimeout c l s
  | .resetInputRelease => Sys2Proof.Machine.execResetInputRelease s

end Sys2Proof.Machine
end

