-- ==== Sys2Proof/Safety.lean ====
section
/-! DEFINITION. The terms in which claims are made: when the port takes a request at once and what a reply leaves, and the
invariants of a good run, block by block. -/

namespace Sys2Proof.Machine

/-! ## A request on a ready port -/

/-- The request engine takes the next request at once (R162): the RESET input is released, the engine is idle, the request queue is
empty and the reply queue has room. -/
structure PortReady (d : Device) : Prop where
  released : d.resetInput = false
  idle : d.port.working = none
  empty : d.port.requests = []
  room : d.port.replies.length < 4

/-- The part `d` after a request posted to a ready port has been answered: no frame is open, POST REFUSED is clear, and the reply is
the newest of the reply queue (R161, R162). -/
def Device.answered (d : Device) (tag code : Byte) (completion : Completion) (result : List Byte) : Device :=
  { d with port :=
    { d.port with
      frame := none, postRefused := false, replies := d.port.replies ++ [⟨tag, code, completion, result⟩] } }

/-- The state after a request that left the part as `d` has been answered. -/
def State.answered (s : State) (d : Device) (tag code : Byte) (completion : Completion) (result : List Byte) : State :=
  { s with dev := d.answered tag code completion result }

/-- The state after a request that is refused on the state `s`: nothing has changed but for the reply (R164, R166). -/
def State.refused (s : State) (tag code : Byte) (completion : Completion) : State :=
  s.answered s.dev tag code completion []

/-- The part while the engine works a request posted in frame `f` on a ready port (R161, R162). -/
def Device.taking (d : Device) (f : Frame) : Device :=
  { d with port := { d.port with frame := none, requests := [], postRefused := false, working := some f } }

/-- The number of parameter bytes each request needs after the tag (section 8.9, R163); none for a code that is no request's.
TRACK LOAD's number depends on the sector count in its seventh parameter byte. -/
def paramsNeeded (code : Byte) (params : List Byte) : Option Nat :=
  match code.toNat with
  | 0x10 => some 20
  | 0x11 | 0x12 | 0x13 | 0x14 | 0x15 => some 1
  | 0x20 =>
    some (match params[6]? with
      | some n => if 1 ≤ n.toNat ∧ n.toNat ≤ 40 then 7 + 6 * n.toNat else 7
      | none => 7)
  | 0x21 => some 10
  | 0x22 | 0x23 => some 3
  | 0x24 => some 5
  | 0x25 | 0x26 => some 7
  | 0x27 => some 0
  | 0x30 => some 11
  | 0x31 => some 1
  | 0x40 => some 23
  | 0x41 | 0x42 | 0x43 | 0x44 | 0x45 | 0x47 => some 1
  | 0x46 => some 3
  | 0x50 | 0x51 | 0x53 | 0x54 | 0x55 | 0x56 | 0x57 | 0x59 => some 1
  | 0x52 => some 2
  | 0x58 => some 3
  | 0x60 => some 5
  | 0x61 | 0x62 => some 0
  | 0x70 | 0x73 => some 0
  | 0x71 => some 3
  | 0x72 => some 4
  | 0xF0 => some 0
  | _ => none

/-- The accesses that send a request: its code at Frame, its tag and parameters at Body, and POST at Control (section 8.11). -/
def portAccesses (tag : Byte) (r : Request) : List Instr :=
  .frameWrite r.code :: ((r.body tag).map .bodyWrite ++ [.post])

/-- The part after some commands, each executed in turn; none when one of them stops. -/
def runCommands : List Instr → State → Option State
  | [], s => some s
  | c :: cs, s =>
    match exec c s with
    | .next t => runCommands cs t
    | .fault _ => none
    | .refused _ => none

/-! ## The port and the notice unit -/

/-- A frame as it can be composed (R160): at most 256 body bytes, and long only when the body is full. -/
def FrameOk (f : Frame) : Prop := f.body.length ≤ 256 ∧ (f.long = true → f.body.length = 256)

/-- The port between two commands (R160 to R165): queues of at most 4, an idle engine, requests waiting only behind a full reply
queue, and a read position within the oldest reply. -/
structure PortOk (p : Port) : Prop where
  requests : p.requests.length ≤ 4
  replies : p.replies.length ≤ 4
  idle : p.working = none
  held : p.requests ≠ [] → p.replies.length = 4
  queued : ∀ f ∈ p.requests, FrameOk f
  opened : ∀ f, p.frame = some f → FrameOk f
  position : p.readPos ≤ (match p.replies with
    | [] => 0
    | r :: _ => r.bytes.length)

/-- The notice unit (R173, R177): no flag at positions 0 and 23, and position 23 not enabled. -/
structure NoticesOk (n : Notices) : Prop where
  flags : n.flags &&& 0x800001#24 = 0#24
  enable : n.enable.getLsbD 23 = false

/-- The port and the notice unit are in order. -/
def HostSideOk (d : Device) : Prop := PortOk d.port ∧ NoticesOk d.notices

/-! ## The page pool (R5) -/

/-- The pages held by the track records, slot by slot. -/
def Store.heldPages (st : Store) : List Nat := st.records.toList.flatMap fun x => x.track.pages

/-- Every page is in the pool or in exactly one record's page list, and once only; the pool is in ascending order, and a FREE record
holds no page (R2, R5). -/
structure PagesOk (st : Store) : Prop where
  all : (st.freePages ++ st.heldPages).Perm (List.range 2048)
  ascending : st.freePages.Pairwise (· < ·)
  free : ∀ r, (st.record r).state = .free → (st.record r).track.pages = []

/-! ## Drive channels and the engines on them -/

/-- The work that goes with a channel's state (R92). -/
def WorkOk (ch : Channel) : Prop :=
  match ch.state with
  | .copying | .held => ch.work = .copy
  | .capturing => ch.work = .capture
  | .spinup | .calibrating => ch.work ≠ .none
  | .offline | .idle | .feeding | .starved | .loaded | .ejecting | .jammed | .fault => ch.work = .none

/-- The media level that goes with a channel's state (R95 to R99, R109): in OFFLINE and FAULT a diskette may be seated or not. -/
def SeatedOk (ch : Channel) : Prop :=
  match ch.state with
  | .offline | .fault => True
  | .idle | .feeding | .starved => ch.media = false
  | .loaded | .spinup | .calibrating | .copying | .held | .capturing | .ejecting | .jammed => ch.media = true

/-- The head movements of a calibration (R102). -/
def Motion.calibrates : Motion → Bool
  | .calOut _ | .calSettle => true
  | .none | .seek _ | .seekSettle | .recalOut _ _ | .recalIn _ | .recalSettle => false

/-- A copy context (R119, R122, R126): a plan is held exactly while a track is in progress, and its effective gap 3 lies between 8
and the programmed gap 3, when that is 8 or more. -/
def ContextOk (x : CopyContext) : Prop :=
  x.plan.isSome = x.phase.isSome ∧
    ∀ p, x.plan = some p → p.gEff ≤ p.track.gap3 ∧ (8 ≤ p.track.gap3 → 8 ≤ p.gEff)

/-- A drive channel in order. -/
structure ChannelOk (ch : Channel) : Prop where
  /-- R92. -/
  work : WorkOk ch
  /-- A copy context exists exactly while work is COPY (R119). -/
  context : ch.ctx.isSome = (ch.work == .copy)
  /-- The motor is on in SPINUP, CALIBRATING, COPYING, HELD and CAPTURING alone (section 5.3). -/
  motor : ch.out.motor = ch.state.works
  /-- The index is monitored while the motor is on and the spin-up wait has ended (R101). -/
  monitored : ch.timers.index.isSome = (ch.state.works && ch.timers.spinUp.isNone)
  /-- The spin-up wait runs in SPINUP alone (R100). -/
  spinUp : ch.timers.spinUp.isSome = true → ch.state = .spinup
  /-- The feed line is asserted in FEEDING alone (R96, R97). -/
  feed : ch.out.feed = (ch.state == .feeding)
  /-- The feed timer runs in FEEDING alone (R96, R97). -/
  feedTimer : ch.timers.feed.isSome = (ch.state == .feeding)
  /-- The eject line is asserted in EJECTING alone (R106). -/
  eject : ch.out.eject = (ch.state == .ejecting)
  /-- The eject timer runs in EJECTING alone (R106). -/
  ejectTimer : ch.timers.eject.isSome = (ch.state == .ejecting)
  /-- Bin select stays at the eject bin in EJECTING and JAMMED, and is at GOOD in every other state (R106). -/
  bin : ch.out.bin = if ch.state = .ejecting ∨ ch.state = .jammed then ch.ejectBin else .good
  /-- Fault pending is set in EJECTING and JAMMED alone, with a fault record (R93). -/
  pendingFault : ch.faultPending = true → (ch.state = .ejecting ∨ ch.state = .jammed) ∧ ch.fault.isSome = true
  /-- A channel in FAULT has a fault record (R111). -/
  faulted : ch.state = .fault → ch.fault.isSome = true
  /-- R109. -/
  seated : SeatedOk ch
  /-- The master flag is set only with a diskette in the bay (R115). -/
  master : ch.master = true → ch.media = true
  /-- The write gate is asserted only in COPYING, in phase WRITE of a copy (R126). -/
  gate : ch.out.writeGate = true → ch.state = .copying ∧ ch.ctx.bind CopyContext.phase = some .write
  /-- No track is in progress in HELD (R135). -/
  held : ch.state = .held → ch.ctx.bind CopyContext.phase = none
  /-- A calibration goes on in CALIBRATING alone (R102). -/
  calibration : ch.motion.calibrates = true → ch.state = .calibrating
  /-- R119, R122, R126. -/
  plan : ∀ x, ch.ctx = some x → ContextOk x

/-- Every channel is in order, and work is CAPTURE on exactly the channel of a running capture (R92, R143). -/
structure BaysOk (d : Device) : Prop where
  channel : ∀ c, ChannelOk (d.chan c)
  capture : ∀ c, (d.chan c).work = .capture ↔ d.capture.state = .running ∧ d.capture.channel = some c

/-! ## Copies, lots and images -/

/-- The channels whose copy context names lot `l`. -/
def Device.copiesOfLot (d : Device) (l : LotNo) : Nat :=
  (List.finRange 6).countP fun c => ((d.chan c).ctx.map CopyContext.lot) == some l

/-- The channels whose copy context names image `i`. -/
def Device.copiesOfImage (d : Device) (i : ImageNo) : Nat :=
  (List.finRange 6).countP fun c => ((d.chan c).ctx.map CopyContext.image) == some i

/-- The lots that bind image `i`: those naming it in READY, RUNNING, HELD, FILLED or EXHAUSTED (R19). -/
def Device.lotsBinding (d : Device) (i : ImageNo) : Nat :=
  (List.finRange 8).countP fun l => (d.lot l).state.binds && (d.lot l).image == i

/-- What a lot's state says of its in-flight count (section 4.3). -/
def InFlightOk (x : Lot) : Prop :=
  match x.state with
  | .vacant | .ready | .filled | .closed => x.inFlight = 0
  | .closing => 0 < x.inFlight
  | .running | .held | .exhausted => True

/-- A lot's counts in order. -/
structure LotOk (d : Device) (l : LotNo) : Prop where
  /-- In-flight is the number of channels whose copy context names the lot (R80). -/
  inFlight : (d.lot l).inFlight = d.copiesOfLot l
  /-- Section 4.3. -/
  state : InFlightOk (d.lot l)
  /-- Good + in-flight never exceeds the target (R78). -/
  target : (d.lot l).good + (d.lot l).inFlight ≤ (d.lot l).target
  /-- A FILLED lot has reached its target (R85). -/
  filled : (d.lot l).state = .filled → (d.lot l).good = (d.lot l).target
  /-- The serial equation (R79). -/
  serials : (d.lot l).serialized = true →
    (d.lot l).next = (d.lot l).first + (d.lot l).good + (d.lot l).inFlight + (d.lot l).reissue.length + (d.lot l).void

/-- An image's pins and bindings in order. -/
structure ImageOk (d : Device) (i : ImageNo) : Prop where
  /-- The pin count is the number of copies in flight whose context names the image (R16). -/
  pins : (d.image i).pins = d.copiesOfImage i
  /-- The bindings are the number of lots that bind the image (R19). -/
  bindings : (d.image i).bindings = d.lotsBinding i
  /-- A pinned image is SEALED or RETIRING (R16). -/
  pinned : 0 < (d.image i).pins → (d.image i).state = .sealed ∨ (d.image i).state = .retiring
  /-- A RETIRING image has pins (R16). -/
  retiring : (d.image i).state = .retiring → 0 < (d.image i).pins
  /-- A bound image is SEALED (R16, R19). -/
  bound : 0 < (d.image i).bindings → (d.image i).state = .sealed
  /-- The capture owner is the channel of the capture running on the image (R20). -/
  owner : ∀ c, (d.image i).captureOwner = some c ↔
    d.capture.state = .running ∧ d.capture.channel = some c ∧ d.capture.image = some i
  /-- An image being captured is BUILDING (R20). -/
  captured : (d.image i).captureOwner.isSome = true → (d.image i).state = .building

/-- The accounts of copies in order: lots, images, and each copy context with the lot and image it names. -/
structure AccountsOk (d : Device) : Prop where
  lot : ∀ l, LotOk d l
  image : ∀ i, ImageOk d i
  /-- A copy carries a serial exactly when its lot is serialized, and copies its lot's image (R80, R119). -/
  copy : ∀ c x, (d.chan c).ctx = some x →
    x.serial.isSome = (d.lot x.lot).serialized ∧ x.image = (d.lot x.lot).image
  /-- A running capture has a channel and an image (R143). -/
  capture : d.capture.state = .running → d.capture.channel.isSome = true ∧ d.capture.image.isSome = true

/-- A serial issued by lot `l` and carried by the copy on channel `c`. -/
def Device.carries (d : Device) (c : Chan) (l : LotNo) (serial : Nat) : Prop :=
  ∃ x, (d.chan c).ctx = some x ∧ x.lot = l ∧ x.serial = some serial

/-- The serials of a lot in order (R67, R79, R141). -/
structure SerialsOk (d : Device) (l : LotNo) : Prop where
  /-- The reissue list holds at most 16 serials, in ascending order, without repeats. -/
  list : (d.lot l).reissue.length ≤ 16 ∧ (d.lot l).reissue.Pairwise (· < ·)
  /-- Each lies within first to next − 1. -/
  issued : ∀ x ∈ (d.lot l).reissue, (d.lot l).first ≤ x ∧ x < (d.lot l).next
  /-- So does each serial in flight, and none of those is on the list. -/
  inFlight : ∀ c x, d.carries c l x → (d.lot l).first ≤ x ∧ x < (d.lot l).next ∧ x ∉ (d.lot l).reissue
  /-- Two copies of one lot carry different serials. -/
  distinct : ∀ c c' x, d.carries c l x → d.carries c' l x → c = c'

/-! ## The directories (R4) -/

/-- The image store's directories in order (R1, R4, R9). -/
structure DirectoriesOk (d : Device) : Prop where
  /-- A directory has one entry for each key of its image's geometry. -/
  size : ∀ i, (d.image i).directory.length = (d.image i).cylinders * (d.image i).heads
  /-- An entry names a LINKED PRESENT record, whose key is the entry's own. -/
  named : ∀ i k r, (d.image i).directory[k]? = some (some r) →
    (d.store.record r).state = .present ∧ (d.store.record r).link = .linked ∧ (d.store.record r).image = i ∧
      (d.image i).hasKey (d.store.record r).key = true ∧ (d.image i).entryAt (d.store.record r).key = k
  /-- Every LINKED PRESENT record is named by the entry of its own image and key. -/
  entered : ∀ r, (d.store.record r).state = .present → (d.store.record r).link = .linked →
    (d.image (d.store.record r).image).entry (d.store.record r).key = some r
  /-- The LOADING record is the one the inbound stream fills; its image is BUILDING and has its key. -/
  loading : ∀ r, (d.store.record r).state = .loading ↔ ∃ k, d.port.stream = .inbound r k
  loadingKey : ∀ r, (d.store.record r).state = .loading →
    (d.store.record r).link = .linked ∧ (d.store.record r).readPin = false ∧
      (d.image (d.store.record r).image).state = .building ∧
      (d.image (d.store.record r).image).hasKey (d.store.record r).key = true
  /-- A record's read pin is set while the outbound stream reads it, and that record is PRESENT. -/
  reading : ∀ r, (d.store.record r).readPin = true ↔ ∃ k, d.port.stream = .outbound r k
  readPresent : ∀ r, (d.store.record r).readPin = true → (d.store.record r).state = .present
  /-- An UNLINKED record is one the outbound stream holds. -/
  unlinked : ∀ r, (d.store.record r).link = .unlinked → (d.store.record r).readPin = true
  /-- Present tracks is the number of entries that name a record. -/
  present : ∀ i, (d.image i).presentTracks = (d.image i).directory.countP Option.isSome
  /-- A VACANT image has no geometry. -/
  vacant : ∀ i, (d.image i).state = .vacant → (d.image i).cylinders = 0
  /-- A running capture reads keys of its image's geometry. -/
  capture : ∀ i, d.capture.state = .running → d.capture.image = some i →
    (d.image i).state = .building ∧ (d.image i).captureOwner.isSome = true ∧
      d.capture.lastCyl < (d.image i).cylinders ∧ d.capture.firstCyl ≤ d.capture.lastCyl ∧
      d.capture.headCount ≤ (d.image i).heads ∧ 0 < d.capture.headCount ∧
      ∀ k, d.capture.key = some k → k.cyl ≤ d.capture.lastCyl ∧ k.head < d.capture.headCount

/-! ## The whole part -/

/-- The part is in order: every invariant above, and image memory in its canonical form. -/
structure InOrder (d : Device) : Prop where
  host : HostSideOk d
  memory : Memory.wf d.store.memory
  pages : PagesOk d.store
  bays : BaysOk d
  accounts : AccountsOk d
  serials : ∀ l, SerialsOk d l
  directories : DirectoriesOk d

/-- The channel of a bay or timer command; none for the host's commands and the resets. -/
def bayOf : Instr → Option Chan
  | .insertion c _ | .removal c _ | .indexPulse c _ _ | .idBlock c _ _ _ _ _ _ | .dataBlock c _ _ | .revolutionBudget c _
  | .spinUpWait c _ | .indexTimeout c _ | .stepInterval c _ | .noTrack0 c _ | .settle c _ | .feedTimeout c _
  | .ejectTimeout c _ => some c
  | .imageCreate .. | .imageSeal .. | .imageUnseal .. | .imageRetire .. | .imageDiscard .. | .imageQuery .. | .trackLoad ..
  | .trackFill .. | .trackRemove .. | .trackRead .. | .trackQuery .. | .sectorPeek .. | .sectorAmend .. | .streamAbort ..
  | .profileSet .. | .profileQuery .. | .lotCreate .. | .lotStart .. | .lotHold .. | .lotResume .. | .lotClose ..
  | .lotDelete .. | .lotMark .. | .lotQuery .. | .channelEnable .. | .channelDisable .. | .channelAssign ..
  | .channelHold .. | .channelRelease .. | .channelAbort .. | .channelEject .. | .channelClear .. | .channelTiming ..
  | .channelQuery .. | .captureStart .. | .captureAbort .. | .captureQuery .. | .noticeRead .. | .noticeClear ..
  | .noticeEnable .. | .storeStatus .. | .partReset .. | .reset | .powerOn | .frameWrite .. | .bodyWrite .. | .bodyRead
  | .post | .nextReply | .cancelFrame | .streamWrite .. | .streamRead | .resetInputRelease => none

end Sys2Proof.Machine
end

