-- ==== Sys2Proof/Certificates/Slice0/Obligations.lean ====
section
/-! DEFINITION. The statements about the part: what the commands do, rule by rule, and the invariants every step keeps. -/

open Sys2Proof Sys2Proof.Machine

/-! ## Commands, the queue and the request port (chapter 8) -/

/-- The step takes the command at the front and executes it on the state with the queue's rest; an empty queue idles
(log 2, DESIGN CHOICE). -/
def Obligations.StepTakesTheFront : Prop :=
  (∀ (c : Instr) (rest : List Instr) (s : State),
    step { s with pending := c :: rest } = exec c { s with pending := rest }) ∧
  ∀ s : State, s.pending = [] → step s = .next s

/-- No command stops, reads the queue or changes it. -/
def Obligations.EveryCommandActsOnThePart : Prop :=
  ∀ c : Instr, ∃ f : Device → Device, ∀ s : State, exec c s = .next { s with dev := f s.dev }

/-- Decode of encode for the 42 requests of section 8.9. -/
def Obligations.RequestsReadBack : Prop :=
  ∀ (tag : Byte) (r : Request), r.wellFormed = true →
    decodeRequest r.code (r.body tag).tail = .ok r ∧ (r.body tag).length ≤ 256 ∧ (r.body tag).head? = some tag

/-- The 42 request rows are abbreviations of port accesses (log 1, DESIGN CHOICE). -/
def Obligations.RequestRowIsItsAccesses : Prop :=
  ∀ (c : Instr) (tag : Byte) (r : Request), c.request? = some (tag, r) → ∀ s : State,
    ∃ t : State, exec c s = .next t ∧ runCommands (portAccesses tag r) s = some t

/-- R160, write by write, and R161, with R162's conditions for taking a request. -/
def Obligations.Framing : Prop :=
  (∀ s : State, s.dev.resetInput = false →
    (∀ code : Byte, exec (.frameWrite code) s =
      .next { s with dev := { s.dev with port := { s.dev.port with frame := some ⟨code, [], false⟩ } } }) ∧
    (∀ b : Byte,
      (s.dev.port.frame = none → exec (.bodyWrite b) s = .next s) ∧
      ∀ f : Frame, s.dev.port.frame = some f →
        (f.body.length < 256 → exec (.bodyWrite b) s =
          .next { s with dev := { s.dev with port := { s.dev.port with frame := some { f with body := f.body ++ [b] } } } }) ∧
        (256 ≤ f.body.length → exec (.bodyWrite b) s =
          .next { s with dev := { s.dev with port := { s.dev.port with frame := some { f with long := true } } } })) ∧
    exec .cancelFrame s = .next { s with dev := { s.dev with port := { s.dev.port with frame := none } } } ∧
    (s.dev.port.frame = none → exec .cancelFrame s = .next s)) ∧
  (∀ s : State, s.dev.resetInput = false →
    (s.dev.port.frame = none → exec .post s = .next s) ∧
    ∀ f : Frame, s.dev.port.frame = some f →
      (4 ≤ s.dev.port.requests.length → exec .post s =
        .next { s with dev := { s.dev with port := { s.dev.port with frame := none, postRefused := true } } }) ∧
      (s.dev.port.requests.length < 4 → 4 ≤ s.dev.port.replies.length → exec .post s =
        .next { s with dev := { s.dev with port :=
          { s.dev.port with frame := none, requests := s.dev.port.requests ++ [f], postRefused := false } } }) ∧
      (PortReady s.dev → ∃ t : State, exec .post s = .next t ∧
        t = { s with dev := (workFrame f (s.dev.taking f)).1.placeReply f (workFrame f (s.dev.taking f)).2 }))

/-- R163: the four checks of the engine, before any check of an owning block. `paramsNeeded` is the column of section
8.9. -/
def Obligations.EngineChecks : Prop :=
  ∀ (s : State) (f : Frame), PortReady s.dev → s.dev.port.frame = some f →
    (f.body = [] → exec .post s = .next (s.refused 0 f.code .badLength)) ∧
    ∀ (tag : Byte) (ps : List Byte), f.body = tag :: ps →
      (f.long = true → exec .post s = .next (s.refused tag f.code .badLength)) ∧
      (f.long = false → paramsNeeded f.code ps = none → exec .post s = .next (s.refused tag f.code .badCode)) ∧
      (f.long = false → ∀ k : Nat, paramsNeeded f.code ps = some k → ps.length < k →
        exec .post s = .next (s.refused tag f.code .badLength)) ∧
      (f.long = false → ∀ k : Nat, paramsNeeded f.code ps = some k → k ≤ ps.length →
        ∃ r : Request, r.code = f.code ∧ decodeRequest f.code ps = .ok r ∧
          exec .post s =
            .next { s with dev := (work r (s.dev.taking f)).1.placeReply f (work r (s.dev.taking f)).2 })

/-- R165, with R162's check at a NEXT REPLY that removes a reply. -/
def Obligations.ReadingReplies : Prop :=
  ∀ s : State, s.dev.resetInput = false →
    (s.dev.port.replies = [] →
      exec .bodyRead s = .next { s with dev := { s.dev with port := { s.dev.port with dataLines := 0 } } } ∧
      exec .nextReply s = .next s) ∧
    ∀ (r : Reply) (rest : List Reply), s.dev.port.replies = r :: rest →
      (∀ b : Byte, r.bytes[s.dev.port.readPos]? = some b → exec .bodyRead s =
        .next { s with dev := { s.dev with port :=
          { s.dev.port with dataLines := b, readPos := s.dev.port.readPos + 1 } } }) ∧
      (r.bytes.length ≤ s.dev.port.readPos → exec .bodyRead s =
        .next { s with dev := { s.dev with port := { s.dev.port with dataLines := 0 } } }) ∧
      (s.dev.port.requests = [] → exec .nextReply s =
        .next { s with dev := { s.dev with port := { s.dev.port with replies := rest, readPos := 0 } } }) ∧
      (∀ (f : Frame) (more : List Frame), s.dev.port.requests = f :: more → s.dev.port.working = none →
        rest.length = 3 → f.code ≠ 0xF0 →
        ∃ x : Device × Option Response,
          x = workFrame f { s.dev with port :=
            { s.dev.port with replies := rest, readPos := 0, requests := more, working := some f } } ∧
          x.2.isSome = true ∧ exec .nextReply s = .next { s with dev := x.1.placeReply f x.2 })

/-- R172 and R179 while the input is asserted; that the input is a level which its own row releases is the model's
choice (log 24). -/
def Obligations.ResetInputHoldsThePort : Prop :=
  ∀ s : State, s.dev.resetInput = true →
    (∀ c : Instr, c.request?.isSome = true → exec c s = .next s) ∧
    (∀ b : Byte, exec (.frameWrite b) s = .next s ∧ exec (.bodyWrite b) s = .next s ∧ exec (.streamWrite b) s = .next s) ∧
    exec .post s = .next s ∧ exec .nextReply s = .next s ∧ exec .cancelFrame s = .next s ∧
    exec .bodyRead s = .next { s with dev := { s.dev with port := { s.dev.port with dataLines := 0 } } } ∧
    exec .streamRead s = .next { s with dev := { s.dev with port := { s.dev.port with dataLines := 0 } } } ∧
    s.dev.readFrame = 0 ∧ s.dev.readControl = 0 ∧ s.dev.lineAsserted = false ∧
    exec .resetInputRelease s = .next { s with dev := { s.dev with resetInput := false } }

/-- R51 and R52, R62 and R9, byte by byte. What installing and releasing a record do is stated by
`Obligations.InstallAndRemove` and `Obligations.ClaimGrantRelease`. What a read returns stands on the data lines (log
13). -/
def Obligations.StreamBytes : Prop :=
  (∀ (s : State) (v : Byte) (r : RecNo) (k p : Nat), s.dev.resetInput = false → s.dev.port.stream = .inbound r k →
    Memory.wf s.dev.store.memory →
    let x := s.dev.store.record r
    let b := x.track.dataLen - k
    let sum := (x.track.sum + v.toNat) % 65536
    x.track.pages[b / 2048]? = some p →
    ∃ m : List Host.Cell,
      (∀ a : Nat, memRead m a = if a = 2048 * p + b % 2048 then v else memRead s.dev.store.memory a) ∧
      (1 < k → exec (.streamWrite v) s = .next { s with dev := { s.dev with
        store := { s.dev.store.setRecord r { x with track := { x.track with sum := sum } } with memory := m }
        port := { s.dev.port with stream := .inbound r (k - 1) } } }) ∧
      (k = 1 → exec (.streamWrite v) s = .next { s with dev := { s.dev with
        store := ({ s.dev.store.setRecord r
          { x with track := { x.track with sum := (sum + fillSum x.track.sectors) % 65536 } } with memory := m }).install r
        port := { s.dev.port with stream := .closed } } })) ∧
  (∀ (s : State) (r : RecNo) (k p : Nat), s.dev.resetInput = false → s.dev.port.stream = .outbound r k →
    let x := s.dev.store.record r
    let b := x.track.dataLen - k
    let v := memRead s.dev.store.memory (2048 * p + b % 2048)
    let unpinned := s.dev.store.setRecord r { x with readPin := false }
    x.track.pages[b / 2048]? = some p →
      (1 < k → exec .streamRead s = .next { s with dev := { s.dev with
        port := { s.dev.port with dataLines := v, stream := .outbound r (k - 1) } } }) ∧
      (k = 1 → x.link = .linked → exec .streamRead s = .next { s with dev := { s.dev with
        store := unpinned, port := { s.dev.port with dataLines := v, stream := .closed } } }) ∧
      (k = 1 → x.link = .unlinked → exec .streamRead s = .next { s with dev := { s.dev with
        store := unpinned.release r, port := { s.dev.port with dataLines := v, stream := .closed } } }))

/-- R168. `HostSideOk` is stated to hold at reset and to be kept by `Obligations.InvariantsAtReset` and
`Obligations.HostSideStays`. -/
def Obligations.StrayStreamAccesses : Prop :=
  (∀ s : State, s.dev.resetInput = false →
      ((∀ r k, s.dev.port.stream ≠ .inbound r k) → ∀ v : Byte, exec (.streamWrite v) s =
        .next { s with dev := { s.dev with port := { s.dev.port with streamFault := true } } }) ∧
      ((∀ r k, s.dev.port.stream ≠ .outbound r k) → exec .streamRead s =
        .next { s with dev := { s.dev with port := { s.dev.port with streamFault := true, dataLines := 0 } } })) ∧
    ∀ (c : Instr) (s t : State), HostSideOk s.dev → exec c s = .next t → s.dev.port.streamFault = true →
      t.dev.port.streamFault = true ∨ (s.dev.port.stream = .closed ∧ t.dev.port.stream ≠ .closed) ∨
        t.dev.port = Port.reset s.dev.port.dataLines

/-- R54. -/
def Obligations.StreamAborting : Prop :=
  ∀ (s : State) (tag : Byte), PortReady s.dev →
    (s.dev.port.stream = .closed → exec (.streamAbort tag) s = .next (s.answered s.dev tag 0x27 .ok [0, 0, 0])) ∧
    (∀ r k, s.dev.port.stream = .inbound r k → exec (.streamAbort tag) s =
      .next (s.answered { s.dev with store := s.dev.store.release r, port := { s.dev.port with stream := .closed } } tag 0x27
        .ok ([1] ++ u16 k))) ∧
    ∀ r k, s.dev.port.stream = .outbound r k →
      let x := s.dev.store.record r
      let unpinned := s.dev.store.setRecord r { x with readPin := false }
      exec (.streamAbort tag) s =
        .next (s.answered { s.dev with
            store := if x.link = .unlinked then unpinned.release r else unpinned
            port := { s.dev.port with stream := .closed } } tag 0x27 .ok ([2] ++ u16 k))

/-- R170 bit by bit and whole: a read of Control is the value of a function of the part, so it changes nothing. The bits
of the port status byte (R169, section 8.8) are stated with it. -/
def Obligations.PortLevels : Prop :=
  ∀ d : Device, d.resetInput = false →
    let set (lo hi : Nat) : Prop :=
      ∃ k, lo ≤ k ∧ k ≤ hi ∧ d.notices.flags.getLsbD k = true ∧ d.notices.enable.getLsbD k = true
    (d.readFrame.getLsbD 0 = true ↔ d.port.requests.length < 4) ∧
    (d.readFrame.getLsbD 1 = true ↔ d.port.replies ≠ []) ∧
    (d.readFrame.getLsbD 2 = true ↔ d.port.frame ≠ none) ∧
    (d.readFrame.getLsbD 3 = true ↔ d.port.postRefused = true) ∧
    (d.readFrame.getLsbD 4 = true ↔ ∃ r k, d.port.stream = .inbound r k) ∧
    (d.readFrame.getLsbD 5 = true ↔ ∃ r k, d.port.stream = .outbound r k) ∧
    (d.readFrame.getLsbD 6 = true ↔ d.port.streamFault = true) ∧
    (d.readFrame.getLsbD 7 = true ↔
      set 1 22 ∨ (d.port.replies ≠ [] ∧ d.notices.enable.getLsbD 0 = true)) ∧
    (d.readControl.getLsbD 0 = true ↔ d.port.replies ≠ [] ∧ d.notices.enable.getLsbD 0 = true) ∧
    (d.readControl.getLsbD 1 = true ↔ set 1 6) ∧ (d.readControl.getLsbD 2 = true ↔ set 7 12) ∧
    (d.readControl.getLsbD 3 = true ↔ set 13 16) ∧ (d.readControl.getLsbD 4 = true ↔ set 17 20) ∧
    (d.readControl.getLsbD 5 = true ↔ set 21 21) ∧ (d.readControl.getLsbD 6 = true ↔ set 22 22) ∧
    (d.readControl.getLsbD 7 = true ↔
      ∃ k, 1 ≤ k ∧ k ≤ 22 ∧ d.notices.flags.getLsbD k = true ∧ d.notices.enable.getLsbD k = false) ∧
    (d.lineAsserted = true ↔ ∃ j, j < 7 ∧ d.readControl.getLsbD j = true)

/-! ## The image store (chapter 1) -/

/-- R10 to R12 and R23. A stream is open on an image when it is inbound on a record of the image, or outbound on a
LINKED one. -/
def Obligations.CreatingAndSealing : Prop :=
  (∀ (s : State) (tag image profile cyls heads : Byte) (label : List Byte), PortReady s.dev → label.length = 16 →
    let c := Instr.imageCreate tag image profile cyls heads label
    (8 ≤ image.toNat ∨ 16 ≤ profile.toNat → exec c s = .next (s.refused tag 0x10 .noSuch)) ∧
    ∀ (i : ImageNo) (p : ProfileNo), image.toNat = i.val → profile.toNat = p.val →
      exec c s = .next (
        if (s.dev.image i).state ≠ .vacant then s.refused tag 0x10 .wrongState
        else if cyls.toNat < 1 ∨ 84 < cyls.toNat ∨ heads.toNat < 1 ∨ 2 < heads.toNat then s.refused tag 0x10 .badValue
        else if (s.dev.profile p).defined = false then s.refused tag 0x10 .noSuch
        else s.answered
          (s.dev.setImage i
            { state := .building, label := label, cylinders := cyls.toNat, heads := heads.toNat,
              rate := (s.dev.profile p).rate, layout := (s.dev.profile p).layout,
              directory := List.replicate (cyls.toNat * heads.toNat) none, pins := 0, bindings := 0, captureOwner := none,
              checksum := 0, checksumValid := false, presentTracks := 0, pagesHeld := 0 })
          tag 0x10 .ok [])) ∧
  (∀ (s : State) (tag image : Byte), PortReady s.dev →
    (8 ≤ image.toNat → exec (.imageSeal tag image) s = .next (s.refused tag 0x11 .noSuch) ∧
      exec (.imageUnseal tag image) s = .next (s.refused tag 0x12 .noSuch)) ∧
    ∀ i : ImageNo, image.toNat = i.val →
      let im := s.dev.image i
      let sum := ((List.range im.directory.length).map fun k =>
        (match im.directory.getD k none with
          | some r => (s.dev.store.record r).track.sum
          | none => (defaultTrack im.layout ⟨k / im.heads, k % im.heads⟩).sum)).sum % 2 ^ 32
      (s.dev.streamOn i = true ↔ ∃ r k, (s.dev.store.record r).image = i ∧ (s.dev.port.stream = .inbound r k ∨
        (s.dev.port.stream = .outbound r k ∧ (s.dev.store.record r).link = .linked))) ∧
      exec (.imageSeal tag image) s = .next (
        if im.state ≠ .building then s.refused tag 0x11 .wrongState
        else if im.captureOwner ≠ none then s.refused tag 0x11 .busy
        else if s.dev.streamOn i = true then s.refused tag 0x11 .busy
        else s.answered (s.dev.setImage i { im with state := .sealed, checksum := sum, checksumValid := true })
          tag 0x11 .ok (u32 sum)) ∧
      exec (.imageUnseal tag image) s = .next (
        if im.state ≠ .sealed then s.refused tag 0x12 .wrongState
        else if im.bindings ≠ 0 then s.refused tag 0x12 .lotsBound
        else if im.pins ≠ 0 then s.refused tag 0x12 .wrongState
        else s.answered (s.dev.setImage i { im with state := .building, checksumValid := false }) tag 0x12 .ok []))

/-- R13 to R15, with R6's disposal; the widths of the counts are the model's reading (log 16, DEDUCED). -/
def Obligations.RetiringAndVacating : Prop :=
  (∀ (s : State) (tag image : Byte), PortReady s.dev →
    (8 ≤ image.toNat → exec (.imageRetire tag image) s = .next (s.refused tag 0x13 .noSuch) ∧
      exec (.imageDiscard tag image) s = .next (s.refused tag 0x14 .noSuch)) ∧
    ∀ i : ImageNo, image.toNat = i.val →
      let im := s.dev.image i
      let vacated := { s.dev with store := s.dev.store.vacate i }
      let released := (im.directory.filterMap id).filter fun r => !(s.dev.store.record r).readPin
      let counts := u8 released.length ++ u16 (released.map fun r => (s.dev.store.record r).track.pages.length).sum
      exec (.imageRetire tag image) s = .next (
        if im.state ≠ .sealed then s.refused tag 0x13 .wrongState
        else if im.bindings ≠ 0 then s.refused tag 0x13 .lotsBound
        else if im.pins = 0 then
          s.answered { vacated with notices := { s.dev.notices with flags := s.dev.notices.flags ||| 0x200000#24 } }
            tag 0x13 .ok ([0] ++ counts)
        else s.answered (s.dev.setImage i { im with state := .retiring }) tag 0x13 .ok ([3] ++ u8 im.pins ++ [0, 0, 0])) ∧
      exec (.imageDiscard tag image) s = .next (
        if im.state ≠ .building then s.refused tag 0x14 .wrongState
        else if im.captureOwner ≠ none then s.refused tag 0x14 .busy
        else if s.dev.streamOn i = true then s.refused tag 0x14 .busy
        else s.answered vacated tag 0x14 .ok counts)) ∧
  (∀ (d : Device) (i : ImageNo), DirectoriesOk d → PagesOk d.store →
    let st := d.store.vacate i
    let named (r : RecNo) : Prop := some r ∈ (d.image i).directory
    (∀ j, st.image j = if j = i then Image.vacant else d.image j) ∧
    (∀ r, named r → (d.store.record r).readPin = false → st.record r = TrackRecord.free) ∧
    (∀ r, named r → (d.store.record r).readPin = true → st.record r = { d.store.record r with link := .unlinked }) ∧
    (∀ r, ¬ named r → st.record r = d.store.record r) ∧
    st.freePages.Pairwise (· < ·) ∧
    (∀ p, p ∈ st.freePages ↔ p ∈ d.store.freePages ∨
      ∃ r, named r ∧ (d.store.record r).readPin = false ∧ p ∈ (d.store.record r).track.pages) ∧
    st.memory = d.store.memory)

/-- R5. That the pool is in ascending order is part of `PagesOk`, which `Obligations.PagesStayAccounted` keeps. -/
def Obligations.ClaimGrantRelease : Prop :=
  ∀ st : Store,
    (∀ p, st.claim p = none ↔ st.freePages.length < p ∨ ∀ r, (st.record r).state ≠ .free) ∧
    (∀ p r, st.claim p = some r ↔
      p ≤ st.freePages.length ∧ (st.record r).state = .free ∧ ∀ r', r' < r → (st.record r').state ≠ .free) ∧
    (∀ (r : RecNo) (state : RecState) (i : ImageNo) (key : Key) (t : Track) (p : Nat),
      let g := st.grant r state i key t p
      g.freePages = st.freePages.drop p ∧ g.memory = st.memory ∧
      (∀ r', g.record r' =
        if r' = r then ⟨state, .linked, false, i, key, { t with pages := st.freePages.take p }⟩ else st.record r') ∧
      ∀ j, g.image j = if j = i then { st.image i with pagesHeld := (st.image i).pagesHeld + p } else st.image j) ∧
    ∀ r : RecNo,
      let x := st.record r
      let g := st.release r
      (∀ p, p ∈ g.freePages ↔ p ∈ st.freePages ∨ p ∈ x.track.pages) ∧ g.memory = st.memory ∧
      (∀ r', g.record r' = if r' = r then TrackRecord.free else st.record r') ∧
      (∀ j, g.image j = if j = x.image ∧ x.link = .linked then
        { st.image j with pagesHeld := (st.image j).pagesHeld - x.track.pages.length } else st.image j) ∧
      (PagesOk st → PagesOk g)

/-- R7 and R8, with R6's disposal of the record an entry named before. -/
def Obligations.InstallAndRemove : Prop :=
  ∀ st : Store,
    (∀ r : RecNo,
      let x := st.record r
      let im := st.image x.image
      let g := st.install r
      im.entryAt x.key < im.directory.length →
      (∀ o, im.entry x.key = some o → o ≠ r ∧ (st.record o).image = x.image ∧ (st.record o).link = .linked) →
      g.record r = { x with state := .present, link := .linked } ∧ g.memory = st.memory ∧
      (∀ j, j ≠ x.image → g.image j = st.image j) ∧
      (∀ o, o ≠ r → im.entry x.key ≠ some o → g.record o = st.record o) ∧
      (im.entry x.key = none → g.freePages = st.freePages ∧
        g.image x.image = { im with directory := im.directory.set (im.entryAt x.key) (some r)
                                    presentTracks := im.presentTracks + 1 }) ∧
      ∀ o, im.entry x.key = some o →
        g.image x.image = { im with directory := im.directory.set (im.entryAt x.key) (some r)
                                    pagesHeld := im.pagesHeld - (st.record o).track.pages.length } ∧
        ((st.record o).readPin = true → g.record o = { st.record o with link := .unlinked } ∧
          g.freePages = st.freePages) ∧
        ((st.record o).readPin = false → g.record o = TrackRecord.free ∧
          ∀ p, p ∈ g.freePages ↔ p ∈ st.freePages ∨ p ∈ (st.record o).track.pages)) ∧
    ∀ (i : ImageNo) (key : Key),
      let im := st.image i
      let g := st.remove i key
      (im.entry key = none → g = st) ∧
      ∀ o, im.entry key = some o → (st.record o).image = i → (st.record o).link = .linked →
        g.memory = st.memory ∧ (∀ j, j ≠ i → g.image j = st.image j) ∧ (∀ o', o' ≠ o → g.record o' = st.record o') ∧
        g.image i = { im with directory := im.directory.set (im.entryAt key) none
                              presentTracks := im.presentTracks - 1
                              pagesHeld := im.pagesHeld - (st.record o).track.pages.length } ∧
        ((st.record o).readPin = true → g.record o = { st.record o with link := .unlinked } ∧
          g.freePages = st.freePages) ∧
        ((st.record o).readPin = false → g.record o = TrackRecord.free ∧
          ∀ p, p ∈ g.freePages ↔ p ∈ st.freePages ∨ p ∈ (st.record o).track.pages)

/-! ## Building, amending and reading images (chapters 1 and 3) -/

/-- R24, R25, R65, R77, R92, R120 and R157 field by field; widths and order where no table gives them are the model's
choice (logs 14 and 18). -/
def Obligations.Queries : Prop :=
  (∀ (s : State) (tag n : Byte), PortReady s.dev →
    (8 ≤ n.toNat → exec (.imageQuery tag n) s = .next (s.refused tag 0x15 .noSuch)) ∧
    (16 ≤ n.toNat → exec (.profileQuery tag n) s = .next (s.refused tag 0x31 .noSuch)) ∧
    (∀ i : ImageNo, n.toNat = i.val →
      let im := s.dev.image i
      let lay := im.layout
      exec (.imageQuery tag n) s = .next (s.answered s.dev tag 0x15 .ok (
        u8 im.state.pos ++ im.label ++ u8 im.cylinders ++ u8 im.heads ++ u16 im.rate ++
        (u8 lay.sectors ++ u8 lay.size.val ++ u8 lay.firstSector ++ u8 lay.gap3 ++ [lay.fill] ++ u8 lay.interleave ++
          u8 lay.cylSkew ++ u8 lay.headSkew) ++
        u8 im.pins ++ u8 im.bindings ++ u8 im.presentTracks ++ u16 im.pagesHeld ++
        u32 (if im.checksumValid then im.checksum else 0) ++ uFlag im.checksumValid ++
        (match im.captureOwner with
          | some c => u8 c.val
          | none => [0xFF])))) ∧
    (∀ p : ProfileNo, n.toNat = p.val →
      let x := s.dev.profile p
      let lay := x.layout
      exec (.profileQuery tag n) s = .next (s.answered s.dev tag 0x31 .ok (
        uFlag x.defined ++ u16 x.rate ++
        (u8 lay.sectors ++ u8 lay.size.val ++ u8 lay.firstSector ++ u8 lay.gap3 ++ [lay.fill] ++ u8 lay.interleave ++
          u8 lay.cylSkew ++ u8 lay.headSkew)))) ∧
    let count (q : TrackRecord → Bool) := (List.finRange 512).countP fun r => q (s.dev.store.record r)
    exec (.storeStatus tag) s = .next (s.answered s.dev tag 0x73 .ok (
      u16 s.dev.store.freePages.length ++ u16 (count fun x => x.state == .free) ++ u8 (count fun x => x.state == .loading) ++
      u8 (count fun x => x.link == .unlinked) ++ (List.finRange 8).flatMap fun i => u8 (s.dev.image i).state.pos))) ∧
  (∀ (s : State) (tag n : Byte), PortReady s.dev →
    (8 ≤ n.toNat → exec (.lotQuery tag n) s = .next (s.refused tag 0x47 .noSuch)) ∧
    (6 ≤ n.toNat → exec (.channelQuery tag n) s = .next (s.refused tag 0x59 .noSuch)) ∧
    (∀ l : LotNo, n.toNat = l.val →
      let x := s.dev.lot l
      exec (.lotQuery tag n) s = .next (s.answered s.dev tag 0x47 .ok (
        u8 x.state.pos ++ u8 x.image.val ++ u16 x.target ++ u16 x.good ++ u16 x.rejects ++
        (u16 x.tally.writeProtected ++ u16 x.tally.mediaLost ++ u16 x.tally.trackFailed ++ u16 x.tally.timeLimit ++
          u16 x.tally.overfull ++ u16 x.tally.aborted ++ u16 x.tally.driveFault) ++
        u8 x.inFlight ++ u16 x.mark ++ u8 x.digits ++ u8 x.encoding.pos ++ u32 x.first ++ u32 x.last ++ u32 x.next ++
        u8 x.reissue.length ++ x.reissue.flatMap u32 ++ u32 x.void ++ uFlag x.reissueEnable ++
        (match x.patch with
          | some q => u8 q.cyl ++ u8 q.head ++ u8 q.sector ++ u16 q.offset
          | none => List.replicate 5 0xFF) ++
        u8 x.verify.pos ++ u8 x.retryLimit ++ u8 x.budget))) ∧
    (∀ c : Chan, n.toNat = c.val →
      let ch := s.dev.chan c
      let vfault (f : Option VerifyFault) : List Byte :=
        match f with
        | some v => u8 v.kind.pos ++ u8 v.key.cyl ++ u8 v.key.head ++ u8 v.attempt ++ u8? v.slot ++ u8? v.logical
        | none => List.replicate 6 0xFF
      exec (.channelQuery tag n) s = .next (s.answered s.dev tag 0x59 .ok (
        u8 ch.state.pos ++ u8 ch.work.pos ++
        (match ch.fault with
          | some f => u8 f.reason.pos ++ u32 f.detail
          | none => List.replicate 5 0xFF) ++
        uFlag ch.faultPending ++ u8 ch.ejectBin.pos ++ uFlag ch.hold ++
        (match ch.lot with
          | some l => u8 l.val
          | none => [0xFF]) ++
        uFlag ch.master ++ u8 ch.stepInterval ++ u8 ch.settle ++ u32 ch.period ++ u8 ch.headCyl ++ uFlag ch.calibrated ++
        uFlag ch.lines.index ++ uFlag ch.lines.trackZero ++ uFlag ch.media ++ uFlag ch.lines.writeProtect ++
        (match ch.last with
          | some o =>
            (match o.outcome with
              | .good => [0, 0xFF]
              | .reject r => 1 :: u8 r.pos) ++
            u8? (o.faultReason.map FaultReason.pos) ++ u8 o.lot.val ++ u32? o.serial ++ uKey o.failedKey ++
            vfault o.verifyFault ++ u8 o.written ++ u16 o.rewrites
          | none => List.replicate 19 0xFF) ++
        match ch.ctx with
          | some x =>
            u8 x.lot.val ++ u8 x.image.val ++ u32? x.serial ++ u8 x.digits ++ u8 x.encoding.pos ++
            (match x.patch with
              | some q => u8 q.cyl ++ u8 q.head ++ u8 q.sector ++ u16 q.offset
              | none => List.replicate 5 0xFF) ++
            u8 x.verify.pos ++ u8 x.retryLimit ++ u8 x.budget ++ uKey x.key ++ u8? (x.phase.map CopyPhase.pos) ++
            u8 x.attempt ++ u8 x.failures ++ u8? x.counter ++ u8 x.written ++ u16 x.rewrites ++ vfault x.lastFault ++
            (match x.plan with
              | some p => u8 p.gEff ++ u16 p.expected
              | none => [0xFF, 0xFF, 0xFF])
          | none => List.replicate 34 0xFF))) ∧
    let x := s.dev.capture
    exec (.captureQuery tag) s = .next (s.answered s.dev tag 0x62 .ok (
      u8 x.state.pos ++ u8? (x.channel.map Fin.val) ++ u8? (x.image.map Fin.val) ++ u8 x.firstCyl ++ u8 x.lastCyl ++
      u8 x.headCount ++ uKey x.key ++ u8? (x.phase.map CapturePhase.pos) ++ u8 x.scans ++ u8 x.reads ++ u8 x.captured ++
      u8 x.absent ++ u8 x.failed.length ++
      (x.failed.flatMap fun e => u8 e.1.cyl ++ u8 e.1.head ++ u8 e.2.pos) ++
      u8 x.overflow ++ u8? (x.endReason.map EndReason.pos))))

/-- R59 and R60, after the read checks of R47; the present flag is 1 for a PRESENT record (log 15, DEDUCED). -/
def Obligations.LookupsReport : Prop :=
  ∀ (s : State) (tag image cyl head : Byte), PortReady s.dev →
    (8 ≤ image.toNat →
      (∀ f m : Byte, exec (.trackQuery tag image cyl head f m) s = .next (s.refused tag 0x24 .noSuch)) ∧
      ∀ (j : Byte) (o : Half) (l : Byte), exec (.sectorPeek tag image cyl head j o l) s =
        .next (s.refused tag 0x25 .noSuch)) ∧
    ∀ i : ImageNo, image.toNat = i.val →
      let im := s.dev.image i
      let key : Key := ⟨cyl.toNat, head.toNat⟩
      let entry := im.directory.getD (key.cyl * im.heads + key.head) none
      let t := match entry with
        | some r => (s.dev.store.record r).track
        | none => defaultTrack im.layout key
      let outside := im.cylinders ≤ key.cyl ∨ im.heads ≤ key.head
      (∀ f m : Byte, exec (.trackQuery tag image cyl head f m) s = .next (
        if im.state = .vacant then s.refused tag 0x24 .wrongState
        else if outside then s.refused tag 0x24 .badValue
        else if 39 < f.toNat ∨ 32 < m.toNat then s.refused tag 0x24 .badValue
        else s.answered s.dev tag 0x24 .ok (
          uFlag entry.isSome ++
          (match entry with
            | some r => u16 r.val
            | none => [0xFF, 0xFF]) ++
          uFlag (s.dev.store.records.toList.any fun x => x.state == .loading && x.image == i && x.key == key) ++
          u8 t.gap3 ++ u8 t.interleave ++ u8 t.skew ++ u8 t.n ++ u16 t.dataLen ++ u8 t.pages.length ++ u16 t.sum ++
          u8 (min m.toNat (t.n - f.toNat)) ++ ((t.sectors.drop f.toNat).take m.toNat).flatMap uSector))) ∧
      ∀ (j : Byte) (o : Half) (l : Byte), exec (.sectorPeek tag image cyl head j o l) s = .next (
        if im.state = .vacant then s.refused tag 0x25 .wrongState
        else if outside then s.refused tag 0x25 .badValue
        else if l.toNat < 1 ∨ 64 < l.toNat then s.refused tag 0x25 .badValue
        else match t.sectors[j.toNat]? with
          | none => s.refused tag 0x25 .badValue
          | some e =>
            if 128 * 2 ^ e.size.val < o.toNat + l.toNat then s.refused tag 0x25 .badValue
            else s.answered s.dev tag 0x25 .ok (u8 l.toNat ++
              match e.store with
                | .fill v => List.replicate l.toNat v
                | .data => (List.range l.toNat).map fun k =>
                    dataRead s.dev.store.memory t.pages (dataOffset t.sectors j.toNat + o.toNat + k)))

/-- R47 to R50. The frame carries one sector entry for each sector of a count of 1 to 40, and none for another count. -/
def Obligations.TrackLoading : Prop :=
  ∀ (s : State) (tag : Byte) (ps : LoadParams), PortReady s.dev →
    ps.entries.length = (if 1 ≤ ps.n.toNat ∧ ps.n.toNat ≤ 40 then ps.n.toNat else 0) →
    (8 ≤ ps.image.toNat → exec (.trackLoad tag ps) s = .next (s.refused tag 0x20 .noSuch)) ∧
    ∀ i : ImageNo, ps.image.toNat = i.val →
      let im := s.dev.image i
      let key : Key := ⟨ps.cyl.toNat, ps.head.toNat⟩
      let es := ps.entries.map fun e => SectorEntry.mk e.idCyl e.idHead e.idSec (Fin.ofNat 4 e.size.toNat)
        (if e.flags.getLsbD 0 then .deleted else .normal) (if e.flags.getLsbD 1 then .fill e.fill else .data)
      let len := (es.map fun e => if e.store = .data then 128 * 2 ^ e.size.val else 0).sum
      let sum := (es.map fun e => match e.store with
        | .data => 0
        | .fill v => 128 * 2 ^ e.size.val * v.toNat).sum % 65536
      let p := (len + 2047) / 2048
      let t (sum : Nat) : Track := ⟨ps.gap3.toNat, ps.interleave.toNat, ps.skew.toNat % ps.n.toNat, es, len, [], sum⟩
      exec (.trackLoad tag ps) s = .next (
        if im.state ≠ .building then s.refused tag 0x20 .wrongState
        else if im.captureOwner ≠ none then s.refused tag 0x20 .busy
        else if im.cylinders ≤ key.cyl ∨ im.heads ≤ key.head then s.refused tag 0x20 .badValue
        else if ps.n.toNat < 1 ∨ 40 < ps.n.toNat ∨ ps.gap3.toNat < 8 ∨ ps.interleave.toNat < 1 ∨ 16 < ps.interleave.toNat ∨
          39 < ps.skew.toNat ∨ (∃ e ∈ ps.entries, 3 < e.size.toNat ∨ 3 < e.flags.toNat) then s.refused tag 0x20 .badValue
        else if fitsAtLoad im.rate es.length (totalSize es) = false then s.refused tag 0x20 .overfull
        else match s.dev.store.claim p with
          | none => s.refused tag 0x20 .noSpace
          | some r =>
            if len = 0 then
              s.answered { s.dev with store := (s.dev.store.grant r .present i key (t sum) 0).install r } tag 0x20 .ok
                (u16 r.val ++ [0, 0, 0])
            else if s.dev.port.stream ≠ .closed then s.refused tag 0x20 .busy
            else
              s.answered { s.dev with
                  store := s.dev.store.grant r .loading i key (t 0) p
                  port := { s.dev.port with stream := .inbound r len, streamFault := false } } tag 0x20 .ok
                (u16 r.val ++ u16 len ++ u8 p))

/-- R55. -/
def Obligations.TrackFilling : Prop :=
  ∀ (s : State) (tag : Byte) (ps : FillParams), PortReady s.dev →
    (8 ≤ ps.image.toNat → exec (.trackFill tag ps) s = .next (s.refused tag 0x21 .noSuch)) ∧
    ∀ i : ImageNo, ps.image.toNat = i.val →
      let im := s.dev.image i
      let key : Key := ⟨ps.cyl.toNat, ps.head.toNat⟩
      let n := ps.n.toNat
      let size := Fin.ofNat 4 ps.size.toNat
      let sum := n * (128 * 2 ^ size.val) * ps.fill.toNat % 65536
      let t : Track := ⟨ps.gap3.toNat, ps.interleave.toNat, ps.skew.toNat % n,
        (List.range n).map fun k => ⟨ps.cyl, ps.head, ps.firstSector + BitVec.ofNat 8 k, size, .normal, .fill ps.fill⟩,
        0, [], sum⟩
      exec (.trackFill tag ps) s = .next (
        if im.state ≠ .building then s.refused tag 0x21 .wrongState
        else if im.captureOwner ≠ none then s.refused tag 0x21 .busy
        else if im.cylinders ≤ key.cyl ∨ im.heads ≤ key.head then s.refused tag 0x21 .badValue
        else if n < 1 ∨ 40 < n ∨ ps.gap3.toNat < 8 ∨ ps.interleave.toNat < 1 ∨ 16 < ps.interleave.toNat ∨
          39 < ps.skew.toNat ∨ 3 < ps.size.toNat then s.refused tag 0x21 .badValue
        else if fitsAtLoad im.rate n (n * (128 * 2 ^ size.val)) = false then s.refused tag 0x21 .overfull
        else match s.dev.store.claim 0 with
          | none => s.refused tag 0x21 .noSpace
          | some r => s.answered { s.dev with store := (s.dev.store.grant r .present i key t 0).install r } tag 0x21 .ok
              (u16 r.val ++ u16 sum))

/-- R56 and R61. What removal does is stated by `Obligations.InstallAndRemove`. -/
def Obligations.RemovingAndReading : Prop :=
  ∀ (s : State) (tag image cyl head : Byte), PortReady s.dev →
    (8 ≤ image.toNat → exec (.trackRemove tag image cyl head) s = .next (s.refused tag 0x22 .noSuch) ∧
      exec (.trackRead tag image cyl head) s = .next (s.refused tag 0x23 .noSuch)) ∧
    ∀ i : ImageNo, image.toNat = i.val →
      let im := s.dev.image i
      let key : Key := ⟨cyl.toNat, head.toNat⟩
      let entry := im.directory.getD (key.cyl * im.heads + key.head) none
      let outside := im.cylinders ≤ key.cyl ∨ im.heads ≤ key.head
      exec (.trackRemove tag image cyl head) s = .next (
        if im.state ≠ .building then s.refused tag 0x22 .wrongState
        else if im.captureOwner ≠ none then s.refused tag 0x22 .busy
        else if outside then s.refused tag 0x22 .badValue
        else match entry with
          | none => s.answered s.dev tag 0x22 .ok [1, 0]
          | some r => s.answered { s.dev with store := s.dev.store.remove i key } tag 0x22 .ok
              ([0] ++ u8 (if (s.dev.store.record r).readPin then 0 else (s.dev.store.record r).track.pages.length))) ∧
      exec (.trackRead tag image cyl head) s = .next (
        if im.state = .vacant then s.refused tag 0x23 .wrongState
        else if outside then s.refused tag 0x23 .badValue
        else match entry with
          | none => s.answered s.dev tag 0x23 .ok [0, 0, 0]
          | some r =>
            let x := s.dev.store.record r
            if x.track.dataLen = 0 then s.answered s.dev tag 0x23 .ok [1, 0, 0]
            else if s.dev.port.stream ≠ .closed then s.refused tag 0x23 .busy
            else s.answered { s.dev with
                store := s.dev.store.setRecord r { x with readPin := true }
                port := { s.dev.port with stream := .outbound r x.track.dataLen, streamFault := false } } tag 0x23 .ok
              ([1] ++ u16 r.val ++ u16 x.track.dataLen))

/-- R57 and R58, with the frame over every byte of image memory. `PagesOk` is stated to be kept by every command. -/
def Obligations.SectorAmending : Prop :=
  ∀ (s : State) (tag image cyl head sector : Byte) (offset : Half) (length : Byte) (data : List Byte),
    PortReady s.dev → data.length ≤ 248 →
    let c := Instr.sectorAmend tag image cyl head sector offset length data
    (8 ≤ image.toNat → exec c s = .next (s.refused tag 0x26 .noSuch)) ∧
    ∀ i : ImageNo, image.toNat = i.val →
      let im := s.dev.image i
      let key : Key := ⟨cyl.toNat, head.toNat⟩
      let entry := im.directory.getD (key.cyl * im.heads + key.head) none
      (im.state ≠ .building → exec c s = .next (s.refused tag 0x26 .wrongState)) ∧
      (im.state = .building → im.captureOwner ≠ none → exec c s = .next (s.refused tag 0x26 .busy)) ∧
      (im.state = .building → im.captureOwner = none → im.cylinders ≤ key.cyl ∨ im.heads ≤ key.head →
        exec c s = .next (s.refused tag 0x26 .badValue)) ∧
      (im.state = .building → im.captureOwner = none → key.cyl < im.cylinders → key.head < im.heads →
        (data.length < length.toNat → exec c s = .next (s.refused tag 0x26 .badLength)) ∧
        (length.toNat ≤ data.length → length.toNat < 1 ∨ 64 < length.toNat →
          exec c s = .next (s.refused tag 0x26 .badValue)) ∧
        (length.toNat ≤ data.length → 1 ≤ length.toNat → length.toNat ≤ 64 →
          (entry = none → exec c s = .next (s.refused tag 0x26
            (if sector.toNat < im.layout.sectors then .fillSector else .badValue))) ∧
          ∀ r, entry = some r →
            let x := s.dev.store.record r
            (x.track.n ≤ sector.toNat → exec c s = .next (s.refused tag 0x26 .badValue)) ∧
            ∀ e, x.track.sectors[sector.toNat]? = some e →
              (e.store ≠ .data → exec c s = .next (s.refused tag 0x26 .fillSector)) ∧
              (e.store = .data → 128 * 2 ^ e.size.val < offset.toNat + length.toNat →
                exec c s = .next (s.refused tag 0x26 .badValue)) ∧
              (e.store = .data → offset.toNat + length.toNat ≤ 128 * 2 ^ e.size.val → x.readPin = true →
                exec c s = .next (s.refused tag 0x26 .busy)) ∧
              (e.store = .data → offset.toNat + length.toNat ≤ 128 * 2 ^ e.size.val → x.readPin = false →
                PagesOk s.dev.store → Memory.wf s.dev.store.memory →
                let a := dataOffset x.track.sectors sector.toNat + offset.toNat
                let new := data.take length.toNat
                let old := (List.range length.toNat).map fun k => dataRead s.dev.store.memory x.track.pages (a + k)
                let sum := (x.track.sum + 65536 - byteSum old % 65536 + byteSum new) % 65536
                ∃ m : List Host.Cell,
                  (∀ k, k < length.toNat → ∀ b, dataAddress x.track.pages (a + k) = some b →
                    new[k]? = some (memRead m b)) ∧
                  (∀ b, (∀ k, k < length.toNat → dataAddress x.track.pages (a + k) ≠ some b) →
                    memRead m b = memRead s.dev.store.memory b) ∧
                  exec c s = .next (s.answered { s.dev with
                    store := { s.dev.store.setRecord r { x with track := { x.track with sum := sum } } with memory := m } }
                    tag 0x26 .ok (u16 x.track.sum ++ u16 sum)))))

/-- R64. -/
def Obligations.ProfileSetting : Prop :=
  ∀ (s : State) (tag : Byte) (ps : ProfileParams), PortReady s.dev →
    (16 ≤ ps.profile.toNat → exec (.profileSet tag ps) s = .next (s.refused tag 0x30 .noSuch)) ∧
    ∀ p : ProfileNo, ps.profile.toNat = p.val →
      let n := ps.sectors.toNat
      let size := Fin.ofNat 4 ps.size.toNat
      exec (.profileSet tag ps) s = .next (
        if 40 < n then s.refused tag 0x30 .badValue
        else if n = 0 then s.answered (s.dev.setProfile p ⟨false, 0, ⟨0, 0, 0, 0, 0, 0, 0, 0⟩⟩) tag 0x30 .ok []
        else if (ps.rate.toNat ≠ 250 ∧ ps.rate.toNat ≠ 500) ∨ 3 < ps.size.toNat ∨ ps.gap3.toNat < 8 ∨
          ps.interleave.toNat < 1 ∨ 16 < ps.interleave.toNat ∨ 39 < ps.cylSkew.toNat ∨ 39 < ps.headSkew.toNat then
          s.refused tag 0x30 .badValue
        else if fitsAtLoad ps.rate.toNat n (n * (128 * 2 ^ size.val)) = false then s.refused tag 0x30 .badValue
        else s.answered (s.dev.setProfile p ⟨true, ps.rate.toNat, ⟨n, size, ps.firstSector.toNat, ps.gap3.toNat, ps.fill,
          ps.interleave.toNat, ps.cylSkew.toNat, ps.headSkew.toNat⟩⟩) tag 0x30 .ok [])

/-! ## Lots and serial numbers (chapter 4) -/

/-- R68 to R70. -/
def Obligations.LotCreating : Prop :=
  ∀ (s : State) (tag : Byte) (ps : LotParams), PortReady s.dev →
    let c := Instr.lotCreate tag ps
    (8 ≤ ps.lot.toNat → exec c s = .next (s.refused tag 0x40 .noSuch)) ∧
    ∀ l : LotNo, ps.lot.toNat = l.val →
      ((s.dev.lot l).state ≠ .vacant → exec c s = .next (s.refused tag 0x40 .wrongState)) ∧
      ((s.dev.lot l).state = .vacant →
        (8 ≤ ps.image.toNat → exec c s = .next (s.refused tag 0x40 .noSuch)) ∧
        ∀ i : ImageNo, ps.image.toNat = i.val →
          let im := s.dev.image i
          let n := ps.digits.toNat
          let retry := match ps.tail with
            | .none => 3
            | .retry r | .retryBudget r _ => r.toNat
          let budget := match ps.tail with
            | .none | .retry _ => 16
            | .retryBudget _ b => b.toNat
          let w := if n = 0 then 0 else if ps.encoding.toNat = 0 then n else (n + 1) / 2
          let ranges := 1 ≤ ps.target.toNat ∧ ps.mark.toNat ≤ ps.target.toNat ∧ ps.verify.toNat ≤ 2 ∧ retry ≤ 7 ∧
            6 ≤ budget ∧ budget ≤ 64
          let serials := n = 0 ∨ (4 ≤ n ∧ n ≤ 8 ∧ ps.encoding.toNat ≤ 1 ∧ ps.first.toNat ≤ ps.last.toNat ∧
            ps.last.toNat < 10 ^ n ∧ ps.reissue.toNat ≤ 1)
          let site := n = 0 ∨ (ps.patchCyl.toNat < im.cylinders ∧ ps.patchHead.toNat < im.heads ∧
            ∃ r e, im.directory.getD (ps.patchCyl.toNat * im.heads + ps.patchHead.toNat) none = some r ∧
              (s.dev.store.record r).track.sectors[ps.patchSector.toNat]? = some e ∧ e.store = .data ∧
              ps.patchOffset.toNat + w ≤ 128 * 2 ^ e.size.val)
          (im.state = .vacant → exec c s = .next (s.refused tag 0x40 .noSuch)) ∧
          (im.state ≠ .vacant → im.state ≠ .sealed → exec c s = .next (s.refused tag 0x40 .wrongState)) ∧
          (im.state = .sealed → ¬ ranges → exec c s = .next (s.refused tag 0x40 .badValue)) ∧
          (im.state = .sealed → ranges → ¬ serials → exec c s = .next (s.refused tag 0x40 .badValue)) ∧
          (im.state = .sealed → ranges → serials → ¬ site → exec c s = .next (s.refused tag 0x40 .patchSite)) ∧
          (im.state = .sealed → ranges → serials → site → exec c s = .next (s.answered
            ((s.dev.setLot l
              { state := .ready, image := i, target := ps.target.toNat, good := 0, rejects := 0,
                tally := ⟨0, 0, 0, 0, 0, 0, 0⟩, inFlight := 0, mark := ps.mark.toNat, digits := n,
                encoding := if n ≠ 0 ∧ ps.encoding.toNat = 1 then .bcd else .ascii,
                first := if n = 0 then 0 else ps.first.toNat, last := if n = 0 then 0 else ps.last.toNat,
                next := if n = 0 then 0 else ps.first.toNat, reissue := [],
                reissueEnable := decide (n ≠ 0 ∧ ps.reissue.toNat = 1), void := 0,
                patch := if n = 0 then none
                  else some ⟨ps.patchCyl.toNat, ps.patchHead.toNat, ps.patchSector.toNat, ps.patchOffset.toNat⟩,
                verify := if ps.verify.toNat = 0 then .none else if ps.verify.toNat = 1 then .crc else .full,
                retryLimit := retry, budget := budget }).setImage i { im with bindings := im.bindings + 1 })
            tag 0x40 .ok (u8 w ++ u32 (if n = 0 then 0 else ps.last.toNat - ps.first.toNat + 1)))))

/-- R71 to R73 and R76. What the signal does is stated by `Obligations.AdmissionOpenSignal`. The reply of LOT RESUME
carries the state of R73's table, even where the signal then moves the lot on (log 17, DEDUCED). -/
def Obligations.StartHoldResumeAndMark : Prop :=
  (∀ (s : State) (tag lot : Byte) (mark : Half), PortReady s.dev →
    (8 ≤ lot.toNat → exec (.lotStart tag lot) s = .next (s.refused tag 0x41 .noSuch) ∧
      exec (.lotHold tag lot) s = .next (s.refused tag 0x42 .noSuch) ∧
      exec (.lotMark tag lot mark) s = .next (s.refused tag 0x46 .noSuch)) ∧
    ∀ l : LotNo, lot.toNat = l.val →
      let x := s.dev.lot l
      exec (.lotStart tag lot) s = .next (
        if x.state = .ready then s.answered ((s.dev.setLot l { x with state := .running }).signalOpen l) tag 0x41 .started []
        else s.refused tag 0x41 .wrongState) ∧
      exec (.lotHold tag lot) s = .next (
        if x.state = .running ∨ x.state = .exhausted then
          s.answered (s.dev.setLot l { x with state := .held }) tag 0x42 .ok (u8 x.inFlight)
        else s.refused tag 0x42 .wrongState) ∧
      exec (.lotMark tag lot mark) s = .next (
        if x.state = .vacant ∨ x.state = .closed then s.refused tag 0x46 .wrongState
        else if mark = 0 ∨ (x.good < mark.toNat ∧ mark.toNat ≤ x.target) then
          s.answered (s.dev.setLot l { x with mark := mark.toNat }) tag 0x46 .ok (u16 mark.toNat)
        else s.refused tag 0x46 .badValue)) ∧
  (∀ (s : State) (tag lot : Byte), PortReady s.dev →
    (8 ≤ lot.toNat → exec (.lotResume tag lot) s = .next (s.refused tag 0x43 .noSuch)) ∧
    ∀ l : LotNo, lot.toNat = l.val →
      let x := s.dev.lot l
      let entering (st : LotState) := s.dev.setLot l { x with state := st }
      exec (.lotResume tag lot) s = .next (
        if x.state ≠ .held then s.refused tag 0x43 .wrongState
        else if x.good = x.target then s.answered ((entering .filled).notify (13 + l.val)) tag 0x43 .ok [4]
        else if 0 < x.digits ∧ x.good + x.inFlight < x.target ∧ x.reissue = [] ∧ x.last < x.next then
          s.answered ((entering .exhausted).notify (13 + l.val)) tag 0x43 .ok [5]
        else if x.good + x.inFlight < x.target then s.answered ((entering .running).signalOpen l) tag 0x43 .ok [2]
        else s.answered (entering .running) tag 0x43 .ok [2]))

/-- R74 and R75. -/
def Obligations.ClosingAndDeleting : Prop :=
  ∀ (s : State) (tag lot : Byte), PortReady s.dev →
    (8 ≤ lot.toNat → exec (.lotClose tag lot) s = .next (s.refused tag 0x44 .noSuch) ∧
      exec (.lotDelete tag lot) s = .next (s.refused tag 0x45 .noSuch)) ∧
    ∀ l : LotNo, lot.toNat = l.val →
      let x := s.dev.lot l
      let im := s.dev.image x.image
      let unbound := s.dev.setImage x.image { im with bindings := im.bindings - 1 }
      exec (.lotClose tag lot) s = .next (
        if x.state = .vacant ∨ x.state = .closing ∨ x.state = .closed then s.refused tag 0x44 .wrongState
        else if x.inFlight = 0 then
          s.answered ((unbound.setLot l { x with state := .closed }).notify (13 + l.val)) tag 0x44 .ok [7, 0]
        else s.answered (unbound.setLot l { x with state := .closing }) tag 0x44 .ok ([6] ++ u8 x.inFlight)) ∧
      exec (.lotDelete tag lot) s = .next (
        if x.state ≠ .closed then s.refused tag 0x45 .wrongState
        else s.answered
          { s.dev.setLot l Lot.vacant with
            channels := s.dev.channels.map fun ch => if ch.lot = some l then { ch with lot := none } else ch }
          tag 0x45 .ok (u8 ((List.finRange 6).countP fun c => (s.dev.chan c).lot == some l)))

/-- R78 and R79, case by case. R78 gives NOT_RUNNING for READY and HELD; that a VACANT lot answers it too is the model's
reading (log 27, DEDUCED). -/
def Obligations.AdmissionTests : Prop :=
  ∀ x : Lot,
    (x.state ≠ .running → x.admission = (x, match x.state with
      | .filled => .filled
      | .exhausted => .exhausted
      | .closing | .closed => .closed
      | _ => .notRunning)) ∧
    (x.state = .running →
      (x.target ≤ x.good + x.inFlight → x.admission = (x, .full)) ∧
      (x.good + x.inFlight < x.target →
        (x.digits = 0 → x.admission = ({ x with inFlight := x.inFlight + 1 }, .granted none)) ∧
        (0 < x.digits →
          (∀ y ys, x.reissue = y :: ys →
            x.admission = ({ x with reissue := ys, inFlight := x.inFlight + 1 }, .granted (some y))) ∧
          (x.reissue = [] → x.next ≤ x.last →
            x.admission = ({ x with next := x.next + 1, inFlight := x.inFlight + 1 }, .granted (some x.next))) ∧
          (x.reissue = [] → x.last < x.next → x.admission = ({ x with state := .exhausted }, .exhausted))))) ∧
    (x.good + x.inFlight ≤ x.target → x.admission.1.good + x.admission.1.inFlight ≤ x.admission.1.target)

/-- R84 to R86, with R67's return, R82's signal and R89's notice. -/
def Obligations.CopyEndCounts : Prop :=
  ∀ (x : Lot) (serial : Option Nat),
    let bump (n : Nat) : Nat := if n < 65535 then n + 1 else n
    (∀ o, let y := x.afterEnd o serial
      y.inFlight = x.inFlight - 1 ∧
      y = { x with state := y.state, inFlight := y.inFlight, good := y.good, rejects := y.rejects, tally := y.tally,
                   reissue := y.reissue, void := y.void } ∧
      (y.state = if x.state = .running ∧ y.good = x.target then .filled
        else if x.state = .exhausted ∧ x.reissue.length < y.reissue.length then .running
        else if x.state = .closing ∧ y.inFlight = 0 then .closed else x.state) ∧
      (x.noticeAtEnd o serial = true ↔ (x.state = .running ∧ y.state = .filled) ∨ (x.state = .closing ∧ y.state = .closed) ∨
        (o = .good ∧ x.mark ≠ 0 ∧ y.good = x.mark)) ∧
      (x.signalAtEnd o serial = true ↔ (x.state = .exhausted ∧ y.state = .running) ∨
        (x.state = .running ∧ o ≠ .good ∧ x.good + x.inFlight = x.target))) ∧
    (∀ y, y = x.afterEnd .good serial →
      y.good = x.good + 1 ∧ y.rejects = x.rejects ∧ y.tally = x.tally ∧ y.reissue = x.reissue ∧ y.void = x.void) ∧
    ∀ r : RejectReason,
      let y := x.afterEnd (.reject r) serial
      y.good = x.good ∧ y.rejects = bump x.rejects ∧
      (r = .trackFailed → y.tally =
        { x.tally with trackFailed := bump x.tally.trackFailed }) ∧
      (r = .aborted → y.tally = { x.tally with aborted := bump x.tally.aborted }) ∧
      (r = .mediaLost → y.tally = { x.tally with mediaLost := bump x.tally.mediaLost }) ∧
      (r = .timeLimit → y.tally = { x.tally with timeLimit := bump x.tally.timeLimit }) ∧
      (r = .overfull → y.tally = { x.tally with overfull := bump x.tally.overfull }) ∧
      (r = .driveFault → y.tally =
        { x.tally with driveFault := bump x.tally.driveFault }) ∧
      (serial = none → y.reissue = x.reissue ∧ y.void = x.void) ∧
      ∀ n, serial = some n →
        (x.reissueEnable = true → x.reissue.length < 16 → y.void = x.void ∧ y.reissue.Perm (n :: x.reissue) ∧
          (x.reissue.Pairwise (· < ·) → n ∉ x.reissue → y.reissue.Pairwise (· < ·))) ∧
        (x.reissueEnable = false ∨ 16 ≤ x.reissue.length → y.void = x.void + 1 ∧ y.reissue = x.reissue)

/-- R82, with R81's one at a time, and R96. The order is free (log 9): the statement holds for every value of
`Config.arrivalSlot` and of the counter. -/
def Obligations.AdmissionOpenSignal : Prop :=
  (∀ (d : Device) (l : LotNo),
    (∃ order : List Chan, order.Perm ((List.finRange 6).filter fun c => (d.chan c).lot == some l) ∧
      d.signalOpen l = order.foldl Device.answerSignal { d with freeCount := d.freeCount + 1 }) ∧
    ∀ c : Chan,
      ((d.chan c).state = .idle → d.answerSignal c = d.evalFeed c) ∧
      ((d.chan c).state = .loaded → d.answerSignal c = d.admissionPoint c) ∧
      ((d.chan c).state ≠ .idle → (d.chan c).state ≠ .loaded → d.answerSignal c = d)) ∧
  (∀ (d : Device) (c : Chan),
    let ch := d.chan c
    (∀ l, ch.state = .idle → ch.hold = false → ch.lot = some l → (d.lot l).state = .running →
      (d.lot l).good + (d.lot l).inFlight < (d.lot l).target →
      d.evalFeed c = d.setChan c { ch with state := .feeding, out := { ch.out with feed := true }
                                           timers := { ch.timers with feed := some 4000 } }) ∧
    (ch.state ≠ .idle ∨ ch.hold = true ∨ ch.lot = none ∨
      (∃ l, ch.lot = some l ∧ ((d.lot l).state ≠ .running ∨ (d.lot l).target ≤ (d.lot l).good + (d.lot l).inFlight)) →
      d.evalFeed c = d))

/-- R98 and R99, with R80's grant and R87's PROTECTED reject. -/
def Obligations.AdmissionPoint : Prop :=
  ∀ (d : Device) (c : Chan),
    let ch := d.chan c
    let bump (n : Nat) : Nat := if n < 65535 then n + 1 else n
    (ch.state ≠ .loaded ∨ ch.hold = true ∨ ch.master = true ∨ ch.lot = none → d.admissionPoint c = d) ∧
    ∀ l, ch.state = .loaded → ch.hold = false → ch.master = false → ch.lot = some l →
      let x := d.lot l
      (ch.lines.writeProtect = true → d.admissionPoint c =
        ((d.setLot l (if x.state = .vacant then x else
            { x with rejects := bump x.rejects
                     tally := { x.tally with writeProtected := bump x.tally.writeProtected } })).setChan c
          { ch with state := .ejecting, ejectBin := .reject, out := { ch.out with bin := .reject, eject := true }
                    timers := { ch.timers with eject := some 3000 }
                    last := some { outcome := .reject .writeProtected, faultReason := none, lot := l, serial := none
                                   failedKey := none, verifyFault := none, written := 0, rewrites := 0 } }).notify
          (1 + c.val)) ∧
      (ch.lines.writeProtect = false →
        (∀ serial, x.admission.2 = .granted serial → d.admissionPoint c =
          ((d.setLot l x.admission.1).setImage x.image
              { d.image x.image with pins := (d.image x.image).pins + 1 }).setChan c
            { ch with state := .spinup, work := .copy, out := { ch.out with motor := true }
                      timers := { ch.timers with spinUp := some 500 }, measure := .none, motion := .none
                      ctx := some { lot := l, image := x.image, serial := serial, digits := x.digits
                                    encoding := x.encoding, patch := x.patch, verify := x.verify
                                    retryLimit := x.retryLimit, budget := x.budget, key := none, plan := none
                                    phase := none, attempt := 0, failures := 0, counter := none, written := 0
                                    rewrites := 0, lastFault := none, reader := ⟨0, false, none, 0⟩ } }) ∧
        (x.state = .running → x.admission.2 = .exhausted →
          d.admissionPoint c = (d.setLot l x.admission.1).notify (13 + l.val)) ∧
        (x.state ≠ .running ∨ x.admission.2 = .full → d.admissionPoint c = d))

/-! ## Drive channels (chapter 5) -/

/-- R95. What the admission point and the feed condition do is stated by `Obligations.AdmissionPoint` and
`Obligations.AdmissionOpenSignal`. The reply's state is the one after all effects (log 17, DEDUCED). -/
def Obligations.EnablingAndDisabling : Prop :=
  ∀ (s : State) (tag channel : Byte), PortReady s.dev →
    (6 ≤ channel.toNat → exec (.channelEnable tag channel) s = .next (s.refused tag 0x50 .noSuch) ∧
      exec (.channelDisable tag channel) s = .next (s.refused tag 0x51 .noSuch)) ∧
    ∀ c : Chan, channel.toNat = c.val →
      let ch := s.dev.chan c
      let e := if ch.media = true then (s.dev.setChan c { ch with state := .loaded }).admissionPoint c
        else (s.dev.setChan c { ch with state := .idle }).evalFeed c
      exec (.channelEnable tag channel) s = .next (
        if ch.state ≠ .offline then s.refused tag 0x50 .wrongState
        else s.answered e tag 0x50 .ok (u8 (e.chan c).state.pos)) ∧
      exec (.channelDisable tag channel) s = .next (
        if ch.state ≠ .idle ∧ ch.state ≠ .loaded ∧ ch.state ≠ .starved ∧ ch.state ≠ .fault then
          s.refused tag 0x51 .wrongState
        else s.answered (s.dev.setChan c { ch with
            state := .offline, fault := none, faultPending := false
            out := { motor := false, stepPulses := ch.out.stepPulses, directionIn := false, head := 0, writeGate := false
                     writeData := [], feed := false, eject := false, bin := .good } }) tag 0x51 .ok [])

/-- R112 and R114. The replies' state is the one after all effects (log 17, DEDUCED). -/
def Obligations.AssigningHoldingReleasing : Prop :=
  ∀ (s : State) (tag channel lot : Byte), PortReady s.dev →
    (6 ≤ channel.toNat → exec (.channelAssign tag channel lot) s = .next (s.refused tag 0x52 .noSuch) ∧
      exec (.channelHold tag channel) s = .next (s.refused tag 0x53 .noSuch) ∧
      exec (.channelRelease tag channel) s = .next (s.refused tag 0x54 .noSuch)) ∧
    ∀ c : Chan, channel.toNat = c.val →
      let ch := s.dev.chan c
      let working := ch.state = .spinup ∨ ch.state = .calibrating ∨ ch.state = .copying ∨ ch.state = .held ∨
        ch.state = .capturing
      (8 ≤ lot.toNat → lot ≠ 0xFF → exec (.channelAssign tag channel lot) s = .next (s.refused tag 0x52 .noSuch)) ∧
      (lot = 0xFF → exec (.channelAssign tag channel lot) s = .next (
        if working then s.refused tag 0x52 .wrongState
        else s.answered ((s.dev.setChan c { ch with lot := none }).answerSignal c) tag 0x52 .ok [])) ∧
      (∀ l : LotNo, lot.toNat = l.val → exec (.channelAssign tag channel lot) s = .next (
        if working then s.refused tag 0x52 .wrongState
        else if ch.master = true then s.refused tag 0x52 .mediaPresent
        else if (s.dev.lot l).state = .vacant then s.refused tag 0x52 .noSuch
        else s.answered ((s.dev.setChan c { ch with lot := some l }).answerSignal c) tag 0x52 .ok [])) ∧
      exec (.channelHold tag channel) s = .next (
        s.answered (s.dev.setChan c { ch with hold := true }) tag 0x53 .ok (u8 ch.state.pos)) ∧
      let released := if ch.state = .held then (s.dev.setChan c { ch with hold := false, state := .copying }).beginNext c
        else (s.dev.setChan c { ch with hold := false }).answerSignal c
      exec (.channelRelease tag channel) s = .next (
        s.answered released tag 0x54 .ok (u8 (released.chan c).state.pos))

/-- R113, R116 and R117, and the CLEAR of R97, R107 and R111. What a copy end does is stated by
`Obligations.CopyEnding`. That a CLEAR replies the state in STARVED and JAMMED too is the model's reading (logs 17 and
19, DEDUCED). -/
def Obligations.AbortEjectClearAndTiming : Prop :=
  (∀ (s : State) (tag channel step settle : Byte), PortReady s.dev →
    (6 ≤ channel.toNat → exec (.channelAbort tag channel) s = .next (s.refused tag 0x55 .noSuch) ∧
      exec (.channelEject tag channel) s = .next (s.refused tag 0x56 .noSuch) ∧
      exec (.channelTiming tag channel step settle) s = .next (s.refused tag 0x58 .noSuch)) ∧
    ∀ c : Chan, channel.toNat = c.val →
      let ch := s.dev.chan c
      let copying := ch.work = .copy ∧ (ch.state = .spinup ∨ ch.state = .calibrating ∨ ch.state = .copying ∨ ch.state = .held)
      (¬ copying → exec (.channelAbort tag channel) s = .next (s.refused tag 0x55 .wrongState)) ∧
      (copying → ∀ x, ch.ctx = some x → exec (.channelAbort tag channel) s = .next (s.answered
        (s.dev.copyEnd c (.reject .aborted) (if x.phase = none then none else x.key)) tag 0x55 .ok [10])) ∧
      exec (.channelEject tag channel) s = .next (
        if ch.state ≠ .loaded then s.refused tag 0x56 .wrongState
        else s.answered (s.dev.setChan c { ch with
            state := .ejecting, ejectBin := .reject, out := { ch.out with bin := .reject, eject := true }
            timers := { ch.timers with eject := some 3000 } }) tag 0x56 .ok [10]) ∧
      exec (.channelTiming tag channel step settle) s = .next (
        if step.toNat < 2 ∨ 8 < step.toNat ∨ settle.toNat < 10 ∨ 30 < settle.toNat then s.refused tag 0x58 .badValue
        else if ch.state ≠ .offline ∧ ch.state ≠ .idle ∧ ch.state ≠ .loaded then s.refused tag 0x58 .wrongState
        else s.answered (s.dev.setChan c { ch with stepInterval := step.toNat, settle := settle.toNat }) tag 0x58 .ok [])) ∧
  (∀ (s : State) (tag channel : Byte), PortReady s.dev →
    (6 ≤ channel.toNat → exec (.channelClear tag channel) s = .next (s.refused tag 0x57 .noSuch)) ∧
    ∀ c : Chan, channel.toNat = c.val →
      let ch := s.dev.chan c
      let starved := (s.dev.setChan c { ch with state := .idle }).evalFeed c
      let faulted := if ch.media = true then (s.dev.setChan c { ch with fault := none, state := .loaded }).admissionPoint c
        else (s.dev.setChan c { ch with fault := none, state := .idle }).evalFeed c
      (ch.state = .starved → exec (.channelClear tag channel) s = .next (
        s.answered starved tag 0x57 .ok (u8 (starved.chan c).state.pos))) ∧
      (ch.state = .jammed → exec (.channelClear tag channel) s = .next (
        s.answered (s.dev.setChan c { ch with state := .ejecting, out := { ch.out with bin := ch.ejectBin, eject := true }
                                              timers := { ch.timers with eject := some 3000 } }) tag 0x57 .ok [10])) ∧
      (ch.state = .fault → exec (.channelClear tag channel) s = .next (
        s.answered faulted tag 0x57 .ok (u8 (faulted.chan c).state.pos))) ∧
      (ch.state ≠ .starved → ch.state ≠ .jammed → ch.state ≠ .fault →
        exec (.channelClear tag channel) s = .next (s.refused tag 0x57 .wrongState)))

/-- R96, R97, R100, R106 and R111. An expiry whose timer is stopped changes nothing but the lines (log 5, DEDUCED). -/
def Obligations.InsertionsAndTimeouts : Prop :=
  (∀ (s : State) (c : Chan) (l : Lines),
    let ch := { s.dev.chan c with lines := l }
    (ch.media = true → exec (.insertion c l) s = .next { s with dev := s.dev.setChan c ch }) ∧
    (ch.media = false →
      (ch.state = .idle ∨ ch.state = .starved → exec (.insertion c l) s =
        .next { s with dev := (s.dev.setChan c { ch with media := true, state := .loaded }).admissionPoint c }) ∧
      (ch.state = .feeding → exec (.insertion c l) s =
        .next { s with dev := (s.dev.setChan c { ch with
          media := true, state := .loaded, out := { ch.out with feed := false }
          timers := { ch.timers with feed := none } }).admissionPoint c }) ∧
      (ch.state ≠ .idle → ch.state ≠ .starved → ch.state ≠ .feeding → exec (.insertion c l) s =
        .next { s with dev := s.dev.setChan c { ch with media := true } }))) ∧
  (∀ (s : State) (c : Chan) (l : Lines),
    let ch := { s.dev.chan c with lines := l }
    let idle := { s with dev := s.dev.setChan c ch }
    exec (.feedTimeout c l) s = .next (if ch.timers.feed = none then idle else
      { s with dev := (s.dev.setChan c { ch with state := .starved, out := { ch.out with feed := false }
                                                 timers := { ch.timers with feed := none } }).notify (7 + c.val) }) ∧
    exec (.ejectTimeout c l) s = .next (if ch.timers.eject = none then idle else
      { s with dev := (s.dev.setChan c { ch with state := .jammed, out := { ch.out with eject := false }
                                                 timers := { ch.timers with eject := none } }).notify (7 + c.val) }) ∧
    exec (.spinUpWait c l) s = .next (if ch.timers.spinUp = none then idle else
      { s with dev := s.dev.setChan c { ch with timers := { ch.timers with spinUp := none, index := some 400 }
                                                measure := .waiting } }))

/-- R109, with R106 and R107's completion of an eject and R115. The lines are those the command carries (log 4). -/
def Obligations.Removals : Prop :=
  ∀ (s : State) (c : Chan) (l : Lines),
    let ch := { s.dev.chan c with lines := l }
    let gone := { ch with media := false, master := false }
    let d := s.dev.setChan c gone
    let out := { gone with out := { ch.out with eject := false, bin := .good }, timers := { ch.timers with eject := none } }
    let working := ch.state = .spinup ∨ ch.state = .calibrating ∨ ch.state = .copying ∨ ch.state = .held ∨
      ch.state = .capturing
    (ch.media = false → exec (.removal c l) s = .next { s with dev := s.dev.setChan c ch }) ∧
    (ch.media = true →
      (working → ch.work = .copy → ∀ x, ch.ctx = some x → exec (.removal c l) s =
        .next { s with dev := d.copyEnd c (.reject .mediaLost) (if x.phase = none then none else x.key) }) ∧
      (working → ch.work = .capture → exec (.removal c l) s = .next { s with dev := d.captureEnd c .mediaLost }) ∧
      (ch.state = .loaded → exec (.removal c l) s =
        .next { s with dev := (d.setChan c { gone with state := .idle }).evalFeed c }) ∧
      (ch.state = .ejecting ∨ ch.state = .jammed →
        (ch.faultPending = true → exec (.removal c l) s =
          .next { s with dev := (d.setChan c { out with state := .fault, faultPending := false }).notify (7 + c.val) }) ∧
        (ch.faultPending = false → exec (.removal c l) s =
          .next { s with dev := (d.setChan c { out with state := .idle }).evalFeed c })) ∧
      (ch.state = .offline ∨ ch.state = .idle ∨ ch.state = .feeding ∨ ch.state = .starved ∨ ch.state = .fault →
        exec (.removal c l) s = .next { s with dev := d }))

/-- R100 and R101, with R102's entry to CALIBRATING. The settle timer runs for the channel's settle time, the step timer
for its step interval. The time of a pulse is the command's (log 6, DESIGN CHOICE). -/
def Obligations.Measuring : Prop :=
  ∀ (s : State) (c : Chan) (l : Lines) (t : Nat),
    let ch := { s.dev.chan c with lines := l }
    let at400 := { ch with timers := { ch.timers with index := some 400 } }
    (ch.timers.index = none → exec (.indexPulse c l t) s = .next { s with dev := s.dev.setChan c ch }) ∧
    (ch.timers.index.isSome = true →
      (ch.state = .calibrating ∨ ch.state = .held → exec (.indexPulse c l t) s =
        .next { s with dev := s.dev.setChan c at400 }) ∧
      (ch.state = .spinup →
        (ch.measure = .waiting → exec (.indexPulse c l t) s =
          .next { s with dev := s.dev.setChan c { at400 with measure := .first t } }) ∧
        (∀ t1, ch.measure = .first t1 → exec (.indexPulse c l t) s =
          .next { s with dev := s.dev.setChan c { at400 with measure := .second t1 } }) ∧
        ∀ t1, ch.measure = .second t1 →
          let p := (t - t1) / 2
          (196000 ≤ p → p ≤ 204000 →
            let entered := { at400 with state := .calibrating, period := p, measure := .none
                                        out := { ch.out with head := 0, directionIn := false } }
            (l.trackZero = true → exec (.indexPulse c l t) s = .next { s with dev := s.dev.setChan c { entered with
              headCyl := 0, calibrated := true, motion := .calSettle
              timers := { at400.timers with step := none, settle := some ch.settle } } }) ∧
            (l.trackZero = false → exec (.indexPulse c l t) s = .next { s with dev := s.dev.setChan c { entered with
              headCyl := ch.headCyl - 1, motion := .calOut 1
              out := { entered.out with stepPulses := ch.out.stepPulses + 1 }
              timers := { at400.timers with step := some ch.stepInterval } } })) ∧
          (p < 196000 ∨ 204000 < p → exec (.indexPulse c l t) s =
            .next { s with dev := (s.dev.setChan c at400).driveFault c (.speed p) })))

/-- R110, with R93's records and R101's and R102's detection. NO_TRACK0 at any other moment changes nothing but the
lines (log 8, DEDUCED). -/
def Obligations.DriveFaults : Prop :=
  (∀ (d : Device) (c : Chan) (f : FaultRecord),
      let ch := d.chan c
      (ch.work = .copy → ∀ x, ch.ctx = some x → d.driveFault c f =
        (d.setChan c { ch with fault := some f, faultPending := true }).copyEnd c (.reject .driveFault)
          (if x.phase = none then none else x.key)) ∧
      (ch.work = .capture → d.driveFault c f = (d.setChan c { ch with fault := some f }).captureEnd c .driveFault)) ∧
    ∀ (s : State) (c : Chan) (l : Lines),
      let ch := { s.dev.chan c with lines := l }
      let d := s.dev.setChan c ch
      exec (.indexTimeout c l) s = .next { s with dev :=
        if ch.timers.index = none then d else d.driveFault c (.noIndex ch.state) } ∧
      (ch.timers.step.isSome = true → l.trackZero = false → ∀ k back,
        90 ≤ k → ch.motion = .calOut k ∨ ch.motion = .recalOut k back →
          exec (.noTrack0 c l) s = .next { s with dev := d.driveFault c (.noTrack0 90) } ∧
          exec (.stepInterval c l) s = .next { s with dev := d.driveFault c (.noTrack0 90) }) ∧
      (ch.timers.step = none ∨ l.trackZero = true ∨
          (∀ k back, 90 ≤ k → ch.motion ≠ .calOut k ∧ ch.motion ≠ .recalOut k back) →
        exec (.noTrack0 c l) s = .next { s with dev := d })

/-- R102 to R104: the step expiries, and the settle expiry that hands a positioned head to the engines. The step line is
a count of pulses (log 23, DESIGN CHOICE). -/
def Obligations.HeadMovement : Prop :=
  (∀ (s : State) (c : Chan) (l : Lines),
    let ch := { s.dev.chan c with lines := l }
    let after (x : Channel) : Host.Outcome State Fault Refusal := .next { s with dev := s.dev.setChan c x }
    let settling (x : Channel) (m : Motion) : Channel :=
      { x with motion := m, timers := { x.timers with step := none, settle := some x.settle } }
    let pulsed (x : Channel) (inward : Bool) (m : Motion) : Channel :=
      { x with headCyl := if inward = true then x.headCyl + 1 else x.headCyl - 1, motion := m
               out := { x.out with directionIn := inward, stepPulses := x.out.stepPulses + 1 }
               timers := { x.timers with step := some x.stepInterval } }
    (ch.timers.step = none → exec (.stepInterval c l) s = after ch) ∧
    (ch.timers.step.isSome = true →
      (∀ k, ch.motion = .calOut k →
        (l.trackZero = true → exec (.stepInterval c l) s =
          after (settling { ch with headCyl := 0, calibrated := true } .calSettle)) ∧
        (l.trackZero = false → k < 90 → exec (.stepInterval c l) s = after (pulsed ch false (.calOut (k + 1))))) ∧
      (∀ k back, ch.motion = .recalOut k back →
        (l.trackZero = true → exec (.stepInterval c l) s =
          after (if back = 0 then settling { ch with headCyl := 0 } .recalSettle
            else pulsed { ch with headCyl := 0 } true (.recalIn back))) ∧
        (l.trackZero = false → k < 90 → exec (.stepInterval c l) s =
          after (pulsed ch false (.recalOut (k + 1) back)))) ∧
      (∀ target, ch.motion = .seek target → exec (.stepInterval c l) s =
        after (if ch.headCyl = target then settling ch .seekSettle
          else pulsed ch (decide (ch.headCyl < target)) (.seek target))) ∧
      (∀ back, ch.motion = .recalIn back → exec (.stepInterval c l) s =
        after (if back ≤ ch.headCyl then settling ch .recalSettle else pulsed ch true (.recalIn back))))) ∧
  (∀ (s : State) (c : Chan) (l : Lines),
    let ch := { s.dev.chan c with lines := l }
    let still := { ch with timers := { ch.timers with settle := none }, motion := .none }
    let after (d : Device) : Host.Outcome State Fault Refusal := .next { s with dev := d }
    (ch.timers.settle = none → exec (.settle c l) s = after (s.dev.setChan c ch)) ∧
    (ch.timers.settle.isSome = true →
      (ch.motion = .calSettle →
        (ch.work = .copy → exec (.settle c l) s =
          after ((s.dev.setChan c { still with state := .copying }).beginTrack c ⟨0, 0⟩)) ∧
        (ch.work = .capture → exec (.settle c l) s =
          after ((s.dev.setChan c { still with state := .capturing }).beginKey c ⟨s.dev.capture.firstCyl, 0⟩))) ∧
      (ch.motion = .seekSettle ∨ ch.motion = .recalSettle →
        (ch.work = .copy → ∀ x, ch.ctx = some x →
          (∀ k, x.phase = some .seek → x.key = some k → exec (.settle c l) s = after (s.dev.setChan c { still with
            ctx := some { x with phase := some .indexWait }, out := { ch.out with head := k.head } })) ∧
          (x.phase = some .recal → exec (.settle c l) s = after (s.dev.setChan c { still with
            ctx := some { x with phase := some .indexWait } }))) ∧
        (ch.work = .capture → ∀ k, s.dev.capture.phase = some .seek → s.dev.capture.key = some k →
          exec (.settle c l) s = after ({ s.dev.setChan c { still with out := { ch.out with head := k.head } } with
            capture := { s.dev.capture with phase := some .indexWait } })))))

/-! ## The copy operation (chapter 6) -/

/-- R122 to R124, and R134 to R136. -/
def Obligations.Tracks : Prop :=
  (∀ (d : Device) (c : Chan) (key : Key) (x : CopyContext), (d.chan c).ctx = some x →
    let ch := d.chan c
    let im := d.image x.image
    let t := match im.directory.getD (key.cyl * im.heads + key.head) none with
      | some r => (d.store.record r).track
      | none => defaultTrack im.layout key
    let begun := { x with key := some key, attempt := 1, failures := 0, counter := none }
    (effectiveGap im.rate ch.period t = none → d.beginTrack c key =
      (d.setChan c { ch with ctx := some begun }).copyEnd c (.reject .overfull) (some key)) ∧
    ∀ g, effectiveGap im.rate ch.period t = some g → ∀ patch : Option Patch,
      (∀ n site, x.serial = some n → x.patch = some site → site.cyl = key.cyl → site.head = key.head →
        patch = some ⟨site.sector, site.offset, renderSerial x.encoding x.digits n⟩) →
      (x.serial = none ∨ x.patch = none ∨ (∀ site, x.patch = some site → site.cyl ≠ key.cyl ∨ site.head ≠ key.head) →
        patch = none) →
      let plan : Plan :=
        { gEff := g, slots := slotMap t.n t.interleave t.skew, track := t, patch := patch
          expected := match patch with
            | none => t.sum
            | some p => (t.sum + 65536 - byteSum (sectorBytes d.store.memory t p.sector p.offset p.bytes.length) % 65536 +
                byteSum p.bytes) % 65536 }
      (ch.headCyl = key.cyl → d.beginTrack c key = d.setChan c { ch with
        ctx := some { begun with plan := some plan, phase := some .indexWait }, out := { ch.out with head := key.head } }) ∧
      (ch.headCyl ≠ key.cyl → d.beginTrack c key = d.setChan c { ch with
        ctx := some { begun with plan := some plan, phase := some .seek }, motion := .seek key.cyl
        headCyl := if ch.headCyl < key.cyl then ch.headCyl + 1 else ch.headCyl - 1
        out := { ch.out with directionIn := decide (ch.headCyl < key.cyl), stepPulses := ch.out.stepPulses + 1 }
        timers := { ch.timers with step := some ch.stepInterval } })) ∧
  (∀ (d : Device) (c : Chan) (x : CopyContext) (k : Key), (d.chan c).ctx = some x → x.key = some k →
    let ch := d.chan c
    let im := d.image x.image
    let done := { x with written := x.written + 1, plan := none, counter := none }
    let following (k' : Key) : Prop := (k.head + 1 < im.heads ∧ k' = ⟨k.cyl, k.head + 1⟩) ∨
      (im.heads ≤ k.head + 1 ∧ k.cyl + 1 < im.cylinders ∧ k' = ⟨k.cyl + 1, 0⟩)
    (im.heads ≤ k.head + 1 → im.cylinders ≤ k.cyl + 1 →
      d.trackDone c = (d.setChan c { ch with ctx := some done }).copyEnd c .good none) ∧
    ∀ k', following k' →
      (ch.hold = false → d.trackDone c = (d.setChan c { ch with ctx := some done }).beginTrack c k') ∧
      (ch.hold = true → d.trackDone c = d.setChan c { ch with state := .held, ctx := some { done with phase := none } }) ∧
      d.beginNext c = d.beginTrack c k')

/-- R125 to R127, R132 and R133. What a track done does is stated by `Obligations.Tracks`, a verify revolution's end by
`Obligations.VerifyEnds`. The write data line is a list of symbols (log 22, DESIGN CHOICE). -/
def Obligations.WriteRevolutions : Prop :=
  ∀ (s : State) (c : Chan) (l : Lines) (t : Nat) (x : CopyContext),
    (s.dev.chan c).state = .copying → (s.dev.chan c).timers.index.isSome = true → (s.dev.chan c).ctx = some x →
    let ch := { s.dev.chan c with lines := l, timers := { (s.dev.chan c).timers with index := some 400 } }
    let shut := { ch with out := { ch.out with writeGate := false, writeData := [] } }
    let after (e : Device) : Prop := exec (.indexPulse c l t) s = .next { s with dev := e }
    let writing (p : Plan) (y : CopyContext) : Channel := { ch with
      ctx := some { y with phase := some .write }
      out := { ch.out with writeGate := true, writeData := leadIn ++ p.slots.flatMap fun j =>
        match p.track.sectors[j]? with
        | none => []
        | some e => slotRun e (writtenField s.dev.store.memory p.track p.patch j) p.gEff } }
    (x.phase = some .seek → after (s.dev.setChan c ch)) ∧
    (∀ p, x.phase = some .indexWait → x.plan = some p → x.attempt = 1 →
      after (s.dev.setChan c (writing p { x with counter := some 0 }))) ∧
    ∀ n, x.counter = some n →
      let y := { x with counter := some (n + 1) }
      let late := (s.dev.setChan c { ch with ctx := some y }).copyEnd c (.reject .timeLimit) x.key
      (∀ p, x.phase = some .indexWait → x.plan = some p → 1 < x.attempt →
        (x.budget ≤ n + 1 → after late) ∧
        (n + 1 < x.budget → after (s.dev.setChan c (writing p { y with rewrites := x.rewrites + 1 })))) ∧
      (x.phase = some .recal →
        (x.budget ≤ n + 1 → after late) ∧ (n + 1 < x.budget → after (s.dev.setChan c { ch with ctx := some y }))) ∧
      (x.phase = some .write →
        (x.verify = .none → after ((s.dev.setChan c { shut with ctx := some y }).trackDone c)) ∧
        (x.verify ≠ .none → x.budget ≤ n + 1 →
          after ((s.dev.setChan c { shut with ctx := some y }).copyEnd c (.reject .timeLimit) x.key)) ∧
        (x.verify ≠ .none → n + 1 < x.budget → after (s.dev.setChan c { shut with
          ctx := some { y with phase := some .verify, reader := ⟨0, false, none, 0⟩ } })))

/-- R133 at the pulse that reaches the budget (log 7, DEDUCED). -/
def Obligations.RevolutionBudgetRow : Prop :=
  ∀ (s : State) (c : Chan) (l : Lines),
    (∀ x n, (s.dev.chan c).state = .copying → (s.dev.chan c).timers.index.isSome = true → (s.dev.chan c).ctx = some x →
      x.counter = some n → x.budget ≤ n + 1 →
      let ch := { s.dev.chan c with lines := l, timers := { (s.dev.chan c).timers with index := some 400 } }
      let shut := { ch with out := { ch.out with writeGate := false, writeData := [] } }
      let y := { x with counter := some (n + 1) }
      exec (.revolutionBudget c l) s = exec (.indexPulse c l 0) s ∧
      (x.phase = some .recal ∨ (x.phase = some .indexWait ∧ 1 < x.attempt) → exec (.revolutionBudget c l) s =
        .next { s with dev := (s.dev.setChan c { ch with ctx := some y }).copyEnd c (.reject .timeLimit) x.key }) ∧
      (x.phase = some .write → x.verify ≠ .none → exec (.revolutionBudget c l) s =
        .next { s with dev := (s.dev.setChan c { shut with ctx := some y }).copyEnd c (.reject .timeLimit) x.key }) ∧
      (x.phase = some .write → x.verify = .none → exec (.revolutionBudget c l) s =
        .next { s with dev := (s.dev.setChan c { shut with ctx := some y }).trackDone c }) ∧
      (∀ p, x.phase = some .verify → x.plan = some p → x.reader.verdict x.verify p = none →
        exec (.revolutionBudget c l) s =
          .next { s with dev := (s.dev.setChan c { ch with ctx := some y }).trackDone c })) ∧
    ((s.dev.chan c).state ≠ .copying ∨ (s.dev.chan c).timers.index = none ∨
      (∀ x, (s.dev.chan c).ctx = some x → x.counter = none ∨ ∃ n, x.counter = some n ∧ n + 1 < x.budget) →
      exec (.revolutionBudget c l) s =
        .next { s with dev := s.dev.setChan c { s.dev.chan c with lines := l } })

/-- R128 and R129, with R130's first fault. A data block of fewer than S + 2 bytes counts as a CRC failure (log 20,
DESIGN CHOICE). A block that had no data block comes before what is wrong with the ID block that shows it (log 21,
DEDUCED). -/
def Obligations.VerifyBlocks : Prop :=
  ∀ (s : State) (c : Chan),
    let ch := s.dev.chan c
    let first (f : Option (VerifyKind × Nat)) (g : Option (VerifyKind × Nat)) := if f = none then g else f
    (∀ x p, ch.state = .copying → ch.ctx = some x → x.phase = some .verify → x.plan = some p →
      let r := x.reader
      let read (r' : VerifyReader) : Host.Outcome State Fault Refusal :=
        .next { s with dev := s.dev.setChan c { ch with ctx := some { x with reader := r' } } }
      let entry (k : Nat) : Option SectorEntry := p.slots[k]?.bind fun j => p.track.sectors[j]?
      (∀ a b n z hi lo : Byte,
        let missing := if 0 < r.found ∧ r.dataSeen = false then some (VerifyKind.sectorMissing, r.found - 1) else none
        let judged :=
          if crc [0xA1, 0xA1, 0xA1, 0xFE, a, b, n, z, hi, lo] ≠ 0 then some (VerifyKind.idCrc, r.found)
          else if (entry r.found).map (fun e => (e.idCyl, e.idHead, e.idSec, BitVec.ofNat 8 e.size.val)) = some (a, b, n, z)
            then none else some (.idMismatch, r.found)
        exec (.idBlock c a b n z hi lo) s =
          read ⟨r.found + 1, false, first (first r.fault missing) judged, r.readSum⟩) ∧
      (∀ (mark : Mark) (raw : List Byte), r.found = 0 ∨ r.dataSeen = true → exec (.dataBlock c mark raw) s = .next s) ∧
      ∀ (mark : Mark) (raw : List Byte), 0 < r.found → r.dataSeen = false →
        (r.fault ≠ none ∨ entry (r.found - 1) = none →
          exec (.dataBlock c mark raw) s = read { r with dataSeen := true }) ∧
        ∀ e, r.fault = none → entry (r.found - 1) = some e →
          let size := 128 * 2 ^ e.size.val
          let bad (kind : VerifyKind) : Host.Outcome State Fault Refusal :=
            read { r with dataSeen := true, fault := some (kind, r.found - 1) }
          let whole := size + 2 ≤ raw.length ∧
            crc ([0xA1, 0xA1, 0xA1, if mark = .normal then 0xFB else 0xF8] ++ raw.take (size + 2)) = 0
          exec (.dataBlock c mark raw) s =
            if mark ≠ e.mark then bad .idMismatch
            else if ¬ whole then bad .dataCrc
            else if x.verify = .full ∧ raw.take size ≠
                writtenField s.dev.store.memory p.track p.patch (p.slots.getD (r.found - 1) 0) then bad .dataMismatch
            else if x.verify = .crc then
              read { r with dataSeen := true, readSum := (r.readSum + byteSum (raw.take size)) % 65536 }
            else read { r with dataSeen := true }) ∧
    (ch.state ≠ .copying → ch.state ≠ .capturing → (∀ a b n z hi lo, exec (.idBlock c a b n z hi lo) s = .next s) ∧
      ∀ mark raw, exec (.dataBlock c mark raw) s = .next s) ∧
    ∀ x, ch.state = .copying → ch.ctx = some x → x.phase ≠ some .verify →
      (∀ a b n z hi lo, exec (.idBlock c a b n z hi lo) s = .next s) ∧ ∀ mark raw, exec (.dataBlock c mark raw) s = .next s

/-- R130 and R131, with R133's order and R104's start of a recalibration. A missing last data block comes before too few
ID blocks (log 21, DEDUCED). -/
def Obligations.VerifyEnds : Prop :=
  ∀ (s : State) (c : Chan) (l : Lines) (t n : Nat) (x : CopyContext) (p : Plan) (k : Key),
    (s.dev.chan c).state = .copying → (s.dev.chan c).timers.index.isSome = true → (s.dev.chan c).ctx = some x →
    x.phase = some .verify → x.plan = some p → x.counter = some n → x.key = some k →
    let ch := { s.dev.chan c with lines := l, timers := { (s.dev.chan c).timers with index := some 400 } }
    let after (e : Device) : Prop := exec (.indexPulse c l t) s = .next { s with dev := e }
    let r := x.reader
    let verdict : Option (VerifyKind × Option Nat) :=
      match r.fault with
      | some f => some (f.1, some f.2)
      | none =>
        if 0 < r.found ∧ r.dataSeen = false then some (.sectorMissing, some (r.found - 1))
        else if r.found < p.track.n then some (.sectorMissing, some r.found)
        else if x.verify = .crc ∧ r.readSum ≠ p.expected then some (.sumMismatch, none) else none
    (verdict = none → after ((s.dev.setChan c { ch with ctx := some { x with counter := some (n + 1) } }).trackDone c)) ∧
    ∀ kind slot, verdict = some (kind, slot) →
      let failed := { x with counter := some (n + 1), failures := x.failures + 1
                             lastFault := some { kind := kind, key := k, attempt := x.attempt, slot := slot
                                                 logical := slot.bind fun q => p.slots[q]? } }
      let again := { failed with attempt := x.failures + 2 }
      (x.retryLimit < x.failures + 1 →
        after ((s.dev.setChan c { ch with ctx := some failed }).copyEnd c (.reject .trackFailed) (some k))) ∧
      (x.failures + 1 ≤ x.retryLimit →
        (x.budget ≤ n + 1 →
          after ((s.dev.setChan c { ch with ctx := some again }).copyEnd c (.reject .timeLimit) (some k))) ∧
        (n + 1 < x.budget →
          ((x.failures + 1) % 2 = 1 →
            after (s.dev.setChan c { ch with ctx := some { again with phase := some .indexWait } })) ∧
          ((x.failures + 1) % 2 = 0 →
            let recal := { ch with ctx := some { again with phase := some .recal }
                                   out := { ch.out with directionIn := false } }
            (l.trackZero = false → after (s.dev.setChan c { recal with
              headCyl := ch.headCyl - 1, motion := .recalOut 1 ch.headCyl
              out := { recal.out with stepPulses := ch.out.stepPulses + 1 }
              timers := { ch.timers with step := some ch.stepInterval } })) ∧
            (l.trackZero = true → ch.headCyl ≠ 0 → after (s.dev.setChan c { recal with
              headCyl := 1, motion := .recalIn ch.headCyl
              out := { recal.out with directionIn := true, stepPulses := ch.out.stepPulses + 1 }
              timers := { ch.timers with step := some ch.stepInterval } })) ∧
            (l.trackZero = true → ch.headCyl = 0 → after (s.dev.setChan c { recal with
              motion := .recalSettle, timers := { ch.timers with step := none, settle := some ch.settle } })))))

/-- R130's closing paragraph: a track that is read back intact passes. The proof needs that the slot mapping loses no
sector, that a block's own CRC checks good, and that the sums agree. -/
def Obligations.IntactReadPasses : Prop :=
  ∀ (m : List Host.Cell) (t : Track) (g : Nat) (patch : Option Patch) (mode : VerifyMode),
    0 < t.n →
    t.sum = byteSum ((List.range t.n).flatMap fun j => sectorField m t j) % 65536 →
    (∀ q, patch = some q → ∃ e, t.sectors[q.sector]? = some e ∧ e.store = .data ∧
      q.offset + q.bytes.length ≤ sizeBytes e.size) →
    let p := makePlan m t g patch
    let readSlot (r : VerifyReader) (j : Nat) : VerifyReader :=
      match t.sectors[j]? with
      | none => r
      | some e =>
        let field := writtenField m t patch j
        (r.idBlock p (idField e) (crcBytes (crc (markBytes idType ++ idField e)))).dataBlock mode m p e.mark
          (field ++ crcBytes (crc (markBytes (markType e.mark) ++ field)))
    let heard (r : VerifyReader) (x : Block) : VerifyReader :=
      match x with
      | .id a b n z hi lo => r.idBlock p [a, b, n, z] [hi, lo]
      | .data mark raw => r.dataBlock mode m p mark raw
    (p.slots.foldl readSlot VerifyReader.start).verdict mode p = none ∧
      ∀ k, ((readTrack 0 (writeStream m p ++ List.replicate k (.byte 0x4E))).foldl heard VerifyReader.start).verdict
        mode p = none

/-- R105 and R139. What the lot accounts is stated by `Obligations.CopyEndCounts`, the signal by
`Obligations.AdmissionOpenSignal`. That the signal comes after the accounts is the model's reading (log 10, DEDUCED). -/
def Obligations.CopyEnding : Prop :=
  ∀ (d : Device) (c : Chan) (o : CopyOutcome) (key : Option Key) (x : CopyContext), (d.chan c).ctx = some x →
    let ch := d.chan c
    let lot := d.lot x.lot
    let im := d.image x.image
    let counted := d.setLot x.lot (lot.afterEnd o x.serial)
    let noticed := if lot.noticeAtEnd o x.serial = true then counted.notify (13 + x.lot.val) else counted
    let unpinned := noticed.setImage x.image { im with pins := im.pins - 1 }
    let freed := if im.state = .retiring ∧ im.pins - 1 = 0 then
      ({ unpinned with store := unpinned.store.vacate x.image }).notify 21 else unpinned
    let ended := { ch with
      out := { ch.out with motor := false, writeGate := false, writeData := [] }
      timers := ⟨none, none, none, none, none, none⟩, measure := .none, motion := .none, work := .none, ctx := none
      last := some { outcome := o, lot := x.lot, serial := x.serial, failedKey := key, verifyFault := x.lastFault
                     written := x.written, rewrites := x.rewrites
                     faultReason := if o = .reject .driveFault then ch.fault.map FaultRecord.reason else none } }
    let closed := (freed.setChan c ended).notify (1 + c.val)
    let signalled (e : Device) : Device := if lot.signalAtEnd o x.serial = true then e.signalOpen x.lot else e
    (o = .reject .mediaLost → d.copyEnd c o key =
      (signalled (closed.setChan c { ended with state := .idle })).evalFeed c) ∧
    (o ≠ .reject .mediaLost → d.copyEnd c o key = signalled (closed.setChan c { ended with
      state := .ejecting, ejectBin := if o = .good then .good else .reject
      out := { ended.out with bin := if o = .good then .good else .reject, eject := true }
      timers := { ended.timers with eject := some 3000 } }))

/-! ## The capture engine (chapter 7) -/

/-- R144, R145, R154 and R156, with R108's table. -/
def Obligations.Captures : Prop :=
  (∀ (s : State) (tag channel image f l k : Byte), PortReady s.dev →
    let c := Instr.captureStart tag channel image f l k
    let x := s.dev.capture
    (6 ≤ channel.toNat ∨ 8 ≤ image.toNat → exec c s = .next (s.refused tag 0x60 .noSuch)) ∧
    (∀ (n : Chan) (i : ImageNo), channel.toNat = n.val → image.toNat = i.val →
      let ch := s.dev.chan n
      let im := s.dev.image i
      exec c s = .next (
        if x.state = .running then s.refused tag 0x60 .busy
        else if im.state ≠ .building then s.refused tag 0x60 .wrongState
        else if s.dev.streamOn i = true then s.refused tag 0x60 .busy
        else if ch.state ≠ .loaded then s.refused tag 0x60 .wrongState
        else if ch.lot ≠ none then s.refused tag 0x60 .wrongState
        else if l.toNat < f.toNat ∨ im.cylinders ≤ l.toNat ∨ k.toNat < 1 ∨ 2 < k.toNat ∨ im.heads < k.toNat then
          s.refused tag 0x60 .badValue
        else s.answered
          { (s.dev.setImage i { im with captureOwner := some n }).setChan n
              { ch with state := .spinup, work := .capture, out := { ch.out with motor := true }
                        timers := { ch.timers with spinUp := some 500 }, measure := .none, motion := .none } with
            capture := { state := .running, channel := some n, image := some i, firstCyl := f.toNat, lastCyl := l.toNat
                         headCount := k.toNat, key := none, phase := some .spinup, scans := 0, reads := 0, captured := 0
                         absent := 0, failed := [], overflow := 0, endReason := none, scanList := [], scanFound := 0
                         reader := ⟨0, false, none⟩, buffer := [] } }
          tag 0x60 .started [])) ∧
    (x.state ≠ .running → exec (.captureAbort tag) s = .next (s.refused tag 0x61 .wrongState)) ∧
    ∀ n : Chan, x.state = .running → x.channel = some n → exec (.captureAbort tag) s = .next (
      s.answered (s.dev.captureEnd n .aborted) tag 0x61 .ok
        ([1] ++ (match x.key with
          | some key => u8 key.cyl ++ u8 key.head
          | none => [0xFF, 0xFF]) ++ u8 x.captured ++ u8 x.absent ++ u8 (x.failed.length + x.overflow)))) ∧
  (∀ (d : Device) (c : Chan) (reason : EndReason) (i : ImageNo), d.capture.image = some i →
    let ch := d.chan c
    let off := { ch with
      out := { ch.out with motor := false, writeGate := false, writeData := [] }
      timers := ⟨none, none, none, none, none, none⟩, measure := .none, motion := .none, work := .none }
    let ended := { d.setImage i { d.image i with captureOwner := none } with
      capture := { d.capture with state := .ended, phase := none, endReason := some reason, scanList := [], scanFound := 0
                                  reader := ⟨0, false, none⟩, buffer := [] } }
    (reason = .complete ∨ reason = .aborted ∨ reason = .noSpace →
      d.captureEnd c reason = (ended.setChan c { off with state := .loaded, master := true }).notify 22) ∧
    (reason = .mediaLost →
      d.captureEnd c reason = ((ended.setChan c { off with state := .idle, master := false }).evalFeed c).notify 22) ∧
    (reason = .driveFault → d.captureEnd c reason =
      ((ended.setChan c { off with state := .fault, master := ch.media }).notify (7 + c.val)).notify 22))

/-- R147 to R149, with R152 and R153 at the pulse that settles a key. -/
def Obligations.CaptureKeys : Prop :=
  (∀ (d : Device) (c : Chan) (key : Key),
      let ch := d.chan c
      let x := { d.capture with key := some key, scans := 0, reads := 0 }
      (ch.headCyl = key.cyl → d.beginKey c key = { d.setChan c { ch with out := { ch.out with head := key.head } } with
        capture := { x with phase := some .indexWait } }) ∧
      (ch.headCyl ≠ key.cyl → d.beginKey c key = { d.setChan c { ch with
          motion := .seek key.cyl, headCyl := if ch.headCyl < key.cyl then ch.headCyl + 1 else ch.headCyl - 1
          out := { ch.out with directionIn := decide (ch.headCyl < key.cyl), stepPulses := ch.out.stepPulses + 1 }
          timers := { ch.timers with step := some ch.stepInterval } } with
        capture := { x with phase := some .seek } }) ∧
      ∀ k, d.capture.key = some k →
        (k.head + 1 < d.capture.headCount → d.keySettled c = d.beginKey c ⟨k.cyl, k.head + 1⟩) ∧
        (d.capture.headCount ≤ k.head + 1 → k.cyl + 1 ≤ d.capture.lastCyl →
          d.keySettled c = d.beginKey c ⟨k.cyl + 1, 0⟩) ∧
        (d.capture.headCount ≤ k.head + 1 → d.capture.lastCyl < k.cyl + 1 →
          d.keySettled c = d.captureEnd c .complete)) ∧
    ∀ (s : State) (c : Chan) (l : Lines) (t : Nat) (k : Key),
      (s.dev.chan c).state = .capturing → (s.dev.chan c).timers.index.isSome = true → s.dev.capture.key = some k →
      let x := s.dev.capture
      let d := s.dev.setChan c
        { s.dev.chan c with lines := l, timers := { (s.dev.chan c).timers with index := some 400 } }
      let after (e : Device) : Prop := exec (.indexPulse c l t) s = .next { s with dev := e }
      let scanning : Device :=
        { d with capture := { x with phase := some .scan, scans := x.scans + 1, scanList := [], scanFound := 0 } }
      let failed (r : FailReason) : Device := Device.keySettled
        { d with capture := if x.failed.length < 16 then { x with failed := x.failed ++ [(k, r)], buffer := [] }
          else { x with overflow := x.overflow + 1, buffer := [] } } c
      let bad : Prop := ∃ e ∈ x.scanList, e.crcGood = false
      let large : Prop := ∃ e ∈ x.scanList, 3 < e.size.toNat
      let rate := match x.image with
        | some i => (s.dev.image i).rate
        | none => 0
      let fits := fitsAtLoad rate x.scanList.length (x.scanList.map fun e => 128 * 2 ^ e.size.toNat).sum
      (x.phase = some .seek → after d) ∧
      (x.phase = some .indexWait → after scanning) ∧
      (x.phase = some .scan →
        (40 < x.scanFound → after (failed .tooMany)) ∧
        (x.scanFound ≤ 40 →
          (bad → x.scans < 4 → after scanning) ∧
          (bad → 4 ≤ x.scans → after (failed .idCrc)) ∧
          (¬ bad →
            (x.scanFound = 0 → after (Device.keySettled { d with capture := { x with absent := x.absent + 1 } } c)) ∧
            (0 < x.scanFound →
              (large → after (failed .badSize)) ∧
              (¬ large → fits = false → after (failed .overfull)) ∧
              (¬ large → fits = true → after { d with capture :=
                { x with phase := some .read, reads := x.reads + 1, reader := ⟨0, false, none⟩, buffer := [] } })))))

/-- R148 and R150, block by block. A data block of fewer than S + 2 bytes counts as a CRC failure (log 20, DESIGN
CHOICE). Where an ID block shows both NO_DATA and ID_CHANGED, the model records NO_DATA (log 29, DESIGN CHOICE). -/
def Obligations.CaptureBlocks : Prop :=
  ∀ (s : State) (c : Chan), (s.dev.chan c).state = .capturing →
    let x := s.dev.capture
    let r := x.reader
    let after (x' : CaptureContext) : Host.Outcome State Fault Refusal := .next { s with dev := { s.dev with capture := x' } }
    let first (f : Option RevolutionFault) (g : Option RevolutionFault) := if f = none then g else f
    (x.phase = some .scan →
      (∀ a b n z hi lo : Byte, exec (.idBlock c a b n z hi lo) s = after { x with
        scanFound := x.scanFound + 1
        scanList := if x.scanList.length < 41 then
            x.scanList ++ [⟨a, b, n, z, decide (crc [0xA1, 0xA1, 0xA1, 0xFE, a, b, n, z, hi, lo] = 0)⟩]
          else x.scanList }) ∧
      ∀ mark raw, exec (.dataBlock c mark raw) s = .next s) ∧
    (x.phase = some .read →
      (∀ a b n z hi lo : Byte,
        let missing := if 0 < r.found ∧ r.dataSeen = false then some RevolutionFault.noData else none
        let judged :=
          if crc [0xA1, 0xA1, 0xA1, 0xFE, a, b, n, z, hi, lo] = 0 ∧
              (x.scanList[r.found]?).map (fun e => (e.cyl, e.head, e.sec, e.size)) = some (a, b, n, z) then none
          else some RevolutionFault.idChanged
        exec (.idBlock c a b n z hi lo) s =
          after { x with reader := ⟨r.found + 1, false, first (first r.fault missing) judged⟩ }) ∧
      ∀ (mark : Mark) (raw : List Byte),
        (r.found = 0 ∨ r.dataSeen = true → exec (.dataBlock c mark raw) s = .next s) ∧
        (0 < r.found → r.dataSeen = false →
          (r.fault ≠ none → exec (.dataBlock c mark raw) s = after { x with reader := { r with dataSeen := true } }) ∧
          ∀ e, r.fault = none → x.scanList[r.found - 1]? = some e → e.size.toNat ≤ 3 →
            let size := 128 * 2 ^ e.size.toNat
            exec (.dataBlock c mark raw) s =
              if size + 2 ≤ raw.length ∧
                  crc ([0xA1, 0xA1, 0xA1, if mark = .normal then 0xFB else 0xF8] ++ raw.take (size + 2)) = 0 then
                after { x with reader := { r with dataSeen := true }, buffer := x.buffer ++ [(mark, raw.take size)] }
              else after { x with reader := { r with dataSeen := true, fault := some .dataCrc } })) ∧
    (x.phase ≠ some .scan → x.phase ≠ some .read →
      (∀ a b n z hi lo, exec (.idBlock c a b n z hi lo) s = .next s) ∧ ∀ mark raw, exec (.dataBlock c mark raw) s = .next s)

/-- R150 to R152. Claims and installation are stated by `Obligations.ClaimGrantRelease` and
`Obligations.InstallAndRemove`. -/
def Obligations.CaptureReads : Prop :=
  (∀ (s : State) (c : Chan) (l : Lines) (t : Nat) (k : Key) (i : ImageNo),
      (s.dev.chan c).state = .capturing → (s.dev.chan c).timers.index.isSome = true → s.dev.capture.phase = some .read →
      s.dev.capture.key = some k → s.dev.capture.image = some i →
      let x := s.dev.capture
      let d := s.dev.setChan c
        { s.dev.chan c with lines := l, timers := { (s.dev.chan c).timers with index := some 400 } }
      let after (e : Device) : Prop := exec (.indexPulse c l t) s = .next { s with dev := e }
      let fault : Option RevolutionFault :=
        match x.reader.fault with
        | some f => some f
        | none =>
          if 0 < x.reader.found ∧ x.reader.dataSeen = false then some .noData
          else if x.reader.found < x.scanList.length then some .idChanged else none
      (∀ f, fault = some f →
        (x.reads < 4 → after { d with
          capture := { x with phase := some .read, reads := x.reads + 1, reader := ⟨0, false, none⟩, buffer := [] } }) ∧
        (4 ≤ x.reads →
          let reason : FailReason := match f with
            | .idChanged => .idChanged
            | .noData => .noData
            | .dataCrc => .dataCrc
          after (Device.keySettled
            { d with capture := if x.failed.length < 16 then { x with failed := x.failed ++ [(k, reason)], buffer := [] }
              else { x with overflow := x.overflow + 1, buffer := [] } } c))) ∧
      (fault = none →
        let es := List.zipWith (fun (e : ScanEntry) (b : Mark × List Byte) =>
          SectorEntry.mk e.cyl e.head e.sec ((sizeOfByte e.size).getD 0) b.1
            (match b.2 with
              | [] => .data
              | v :: vs => if (vs.all fun w => w == v) = true then .fill v else .data)) x.scanList x.buffer
        let len := (es.map fun e => if e.store = .data then 128 * 2 ^ e.size.val else 0).sum
        let rec0 : Track := ⟨(s.dev.image i).layout.gap3, 1, 0, es, len, [], byteSum (x.buffer.flatMap Prod.snd) % 65536⟩
        let stored := (x.buffer.filter fun b => !(decide (∃ v, b.2 ≠ [] ∧ ∀ w ∈ b.2, w = v))).flatMap Prod.snd
        (s.dev.store.claim ((len + 2047) / 2048) = none → after (d.captureEnd c .noSpace)) ∧
        ∀ r, s.dev.store.claim ((len + 2047) / 2048) = some r → after (Device.keySettled
          { d with
            store := ((s.dev.store.grant r .present i k rec0 ((len + 2047) / 2048)).fillPages r stored).install r
            capture := { x with captured := x.captured + 1, buffer := [] } } c))) ∧
    ∀ (st : Store) (r : RecNo) (bytes : List Byte),
      let pages := (st.record r).track.pages
      Memory.wf st.memory → pages.Nodup → bytes.length ≤ 2048 * pages.length →
      (∀ b p, b < bytes.length → pages[b / 2048]? = some p →
        some (memRead (st.fillPages r bytes).memory (2048 * p + b % 2048)) = bytes[b]?) ∧
      (∀ a, (∀ b p, b < bytes.length → pages[b / 2048]? = some p → a ≠ 2048 * p + b % 2048) →
        memRead (st.fillPages r bytes).memory a = memRead st.memory a) ∧
      (st.fillPages r bytes).records = st.records ∧ (st.fillPages r bytes).images = st.images ∧
        (st.fillPages r bytes).freePages = st.freePages

/-! ## Notices, resets and the whole part (chapters 8 and 9) -/

/-- R175 to R177, with R178's line. -/
def Obligations.NoticeRequests : Prop :=
  ∀ (s : State) (tag : Byte) (mask : BitVec 24) (polarity : Byte), PortReady s.dev →
    let v := s.dev.notices
    ∃ word after : BitVec 24,
      (∀ k, word.getLsbD k = if k = 0 then !s.dev.port.replies.isEmpty
        else decide (k < 23) && v.flags.getLsbD k) ∧
      (∀ k, after.getLsbD k = if k = 0 then word.getLsbD k else word.getLsbD k && !mask.getLsbD k) ∧
      exec (.noticeRead tag) s = .next (s.answered s.dev tag 0x70 .ok (
        maskBytes word ++ maskBytes v.enable ++ uFlag v.activeHigh ++ uFlag (decide (word &&& v.enable ≠ 0)))) ∧
      (∃ flags : BitVec 24, (∀ k, flags.getLsbD k = (v.flags.getLsbD k && !mask.getLsbD k)) ∧
        exec (.noticeClear tag mask) s = .next (s.answered { s.dev with notices := { v with flags := flags } } tag 0x71 .ok (
          maskBytes word ++ maskBytes after))) ∧
      exec (.noticeEnable tag mask polarity) s = .next (
        if mask.getLsbD 23 = true ∨ 1 < polarity.toNat then s.refused tag 0x72 .badValue
        else s.answered { s.dev with notices := { v with enable := mask, activeHigh := decide (polarity = 1) } } tag 0x72 .ok
          (uFlag (decide (word &&& mask ≠ 0))))

/-- R26, R63, R118, R158, R172 and R179 field by field, R90 and R171. The step count of 0 and the level at which a RESET
leaves its input are the model's choices (logs 23 and 24, DESIGN CHOICE). What image memory reads as (log 11) and the
RESET input's level after a power-on (log 24) are not stated here. -/
def Obligations.ResetsEndTheWork : Prop :=
  (∃ t u v : State → State,
      (∀ s, exec .powerOn s = .next (t s) ∧ exec .reset s = .next (u s)) ∧
      (∀ s tag, PortReady s.dev → exec (.partReset tag) s = .next (v s)) ∧
      ∀ s, u s = { t s with dev := { (t s).dev with resetInput := true } } ∧ (PortReady s.dev → v s = t s) ∧
        (t s).pending = s.pending) ∧
    (∀ (s : State) (f : Frame), f.code = 0xF0 → f.body ≠ [] → f.long = false →
      (PortReady s.dev → s.dev.port.frame = some f → exec .post s = exec .powerOn s) ∧
      ∀ (r : Reply) (rest : List Reply) (more : List Frame), s.dev.resetInput = false → s.dev.port.working = none →
        s.dev.port.replies = r :: rest → rest.length < 4 → s.dev.port.requests = f :: more →
        exec .nextReply s = exec .powerOn s) ∧
    ∀ s t : State, exec .powerOn s = .next t →
      let x := t.dev.capture
      (x.state = .idle ∧ x.channel = none ∧ x.image = none ∧ x.firstCyl = 0 ∧ x.lastCyl = 0 ∧ x.headCount = 0 ∧
        x.key = none ∧ x.phase = none ∧ x.scans = 0 ∧ x.reads = 0 ∧ x.captured = 0 ∧ x.absent = 0 ∧ x.failed = [] ∧
        x.overflow = 0 ∧ x.endReason = none ∧ x.scanList = [] ∧ x.buffer = []) ∧
      (∀ p, t.dev.profile p =
        if p = 0 then ⟨true, 250, ⟨9, 2, 1, 80, 0xE5, 1, 0, 0⟩⟩
        else if p = 1 then ⟨true, 500, ⟨18, 2, 1, 84, 0xE5, 1, 0, 0⟩⟩
        else ⟨false, 0, ⟨0, 0, 0, 0, 0, 0, 0, 0⟩⟩) ∧
      (∀ i, t.dev.image i = Image.vacant) ∧ (∀ r, t.dev.store.record r = TrackRecord.free) ∧
      t.dev.store.freePages = List.range 2048 ∧
      (∀ l, t.dev.lot l = Lot.vacant) ∧
      (∀ c, let ch := t.dev.chan c
        ch.state = .offline ∧ ch.work = .none ∧ ch.fault = none ∧ ch.faultPending = false ∧ ch.ejectBin = .good ∧
        ch.hold = false ∧ ch.lot = none ∧ ch.master = false ∧ ch.stepInterval = 3 ∧ ch.settle = 15 ∧ ch.period = 0 ∧
        ch.headCyl = 0 ∧ ch.calibrated = false ∧ ch.last = none ∧ ch.ctx = none ∧
        ch.out = ⟨false, 0, false, 0, false, [], false, false, .good⟩ ∧
        ch.timers = ⟨none, none, none, none, none, none⟩ ∧ ch.media = (s.dev.chan c).media) ∧
      t.dev.notices.flags = 0 ∧ t.dev.notices.enable = 0 ∧ t.dev.notices.activeHigh = false ∧
      t.dev.lineAsserted = false ∧ t.dev.lineHigh = true ∧
      t.dev.port.frame = none ∧ t.dev.port.requests = [] ∧ t.dev.port.replies = [] ∧ t.dev.port.readPos = 0 ∧
      t.dev.port.stream = .closed ∧ t.dev.port.postRefused = false ∧ t.dev.port.streamFault = false ∧
      t.dev.port.working = none

/-- R166's sentence on refusals, over every request and every state of a ready port. -/
def Obligations.RefusalsChangeNothing : Prop :=
  ∀ (c : Instr) (tag : Byte) (r : Request) (s : State), c.request? = some (tag, r) → r ≠ .partReset → PortReady s.dev →
    ∃ (d : Device) (completion : Completion) (result : List Byte),
      exec c s = .next (s.answered d tag r.code completion result) ∧ d.port.replies = s.dev.port.replies ∧
      (completion ≠ .ok → completion ≠ .started → d = s.dev ∧ result = [])

/-- R173: a set flag stays set until NOTICE CLEAR names it or a reset clears it. -/
def Obligations.NoticesStaySet : Prop :=
  ∀ (c : Instr) (s t : State), exec c s = .next t →
    ((bayOf c).isSome = true →
      t.dev.port = s.dev.port ∧ t.dev.profiles = s.dev.profiles ∧ t.dev.resetInput = s.dev.resetInput ∧
      t.dev.notices.enable = s.dev.notices.enable ∧ t.dev.notices.activeHigh = s.dev.notices.activeHigh ∧
      ∀ n, (t.dev.chan n).hold = (s.dev.chan n).hold ∧ (t.dev.chan n).lot = (s.dev.chan n).lot ∧
        (t.dev.chan n).stepInterval = (s.dev.chan n).stepInterval ∧ (t.dev.chan n).settle = (s.dev.chan n).settle) ∧
    (((bayOf c).isSome = true ∨
        (∃ tag r, c.request? = some (tag, r) ∧ PortReady s.dev ∧ r ≠ .partReset ∧ ∀ mask, r ≠ .noticeClear mask) ∨
        (c.request? = none ∧ c ≠ .post ∧ c ≠ .nextReply ∧ c ≠ .reset ∧ c ≠ .powerOn)) →
      ∀ k, s.dev.notices.flags.getLsbD k = true → t.dev.notices.flags.getLsbD k = true)

/-! ## Invariants of every step -/

/-- Each invariant holds at `State.reset`. That image memory lists nothing then is the model's choice (log 11). -/
def Obligations.InvariantsAtReset : Prop :=
  InOrder State.reset.dev

/-- No other invariant is needed as a premise. -/
def Obligations.HostSideStays : Prop :=
  ∀ s t : State, step s = .next t →
    (HostSideOk s.dev → HostSideOk t.dev) ∧ (Memory.wf s.dev.store.memory → Memory.wf t.dev.store.memory)

/-- R5's last sentence, strengthened to say which page is where. No other invariant is needed. -/
def Obligations.PagesStayAccounted : Prop :=
  ∀ s t : State, step s = .next t → PagesOk s.dev.store →
    PagesOk t.dev.store ∧ t.dev.store.freePages.length + t.dev.store.heldPages.length = 2048

/-- `BaysOk` is the invariant; the premise is the whole of `InOrder`. -/
def Obligations.BaysStayConsistent : Prop :=
  ∀ s t : State, step s = .next t → InOrder s.dev → BaysOk t.dev

/-- `AccountsOk` is the invariant; the premise is the whole of `InOrder`. -/
def Obligations.AccountsStay : Prop :=
  ∀ s t : State, step s = .next t → InOrder s.dev → AccountsOk t.dev

/-- `SerialsOk` is the invariant; the premise is the whole of `InOrder`. -/
def Obligations.SerialsStayDistinct : Prop :=
  ∀ s t : State, step s = .next t → InOrder s.dev → ∀ l, SerialsOk t.dev l

/-- `DirectoriesOk` is the invariant; the premise is the whole of `InOrder`. -/
def Obligations.DirectoriesStay : Prop :=
  ∀ s t : State, step s = .next t → InOrder s.dev → DirectoriesOk t.dev
end

