-- ==== Sys2Proof/Laws/State.lean ====
section
/-! SUPPORT. What each update of the part leaves in each field, true by unfolding the update once: one lemma per field per update. -/

namespace Sys2Proof.Machine

/-! ### `Device.setChan` -/

@[simp] theorem Device.setChan_port (d : Device) (c : Chan) (x : Channel) : (d.setChan c x).port = d.port := rfl
@[simp] theorem Device.setChan_store (d : Device) (c : Chan) (x : Channel) : (d.setChan c x).store = d.store := rfl
@[simp] theorem Device.setChan_profiles (d : Device) (c : Chan) (x : Channel) : (d.setChan c x).profiles = d.profiles := rfl
@[simp] theorem Device.setChan_lots (d : Device) (c : Chan) (x : Channel) : (d.setChan c x).lots = d.lots := rfl
@[simp] theorem Device.setChan_capture (d : Device) (c : Chan) (x : Channel) : (d.setChan c x).capture = d.capture := rfl
@[simp] theorem Device.setChan_notices (d : Device) (c : Chan) (x : Channel) : (d.setChan c x).notices = d.notices := rfl
@[simp] theorem Device.setChan_resetInput (d : Device) (c : Chan) (x : Channel) : (d.setChan c x).resetInput = d.resetInput := rfl
@[simp] theorem Device.setChan_freeCount (d : Device) (c : Chan) (x : Channel) : (d.setChan c x).freeCount = d.freeCount := rfl
@[simp] theorem Device.setChan_lot (d : Device) (c : Chan) (x : Channel) (l₁ : LotNo) : (d.setChan c x).lot l₁ = d.lot l₁ := rfl
@[simp] theorem Device.setChan_image (d : Device) (c : Chan) (x : Channel) (i₁ : ImageNo) : (d.setChan c x).image i₁ = d.image i₁ := rfl
@[simp] theorem Device.setChan_profile (d : Device) (c : Chan) (x : Channel) (p₁ : ProfileNo) : (d.setChan c x).profile p₁ = d.profile p₁ := rfl

/-! ### `Device.modChan` -/

@[simp] theorem Device.modChan_port (d : Device) (c : Chan) (f : Channel → Channel) : (d.modChan c f).port = d.port := rfl
@[simp] theorem Device.modChan_store (d : Device) (c : Chan) (f : Channel → Channel) : (d.modChan c f).store = d.store := rfl
@[simp] theorem Device.modChan_profiles (d : Device) (c : Chan) (f : Channel → Channel) : (d.modChan c f).profiles = d.profiles := rfl
@[simp] theorem Device.modChan_lots (d : Device) (c : Chan) (f : Channel → Channel) : (d.modChan c f).lots = d.lots := rfl
@[simp] theorem Device.modChan_capture (d : Device) (c : Chan) (f : Channel → Channel) : (d.modChan c f).capture = d.capture := rfl
@[simp] theorem Device.modChan_notices (d : Device) (c : Chan) (f : Channel → Channel) : (d.modChan c f).notices = d.notices := rfl
@[simp] theorem Device.modChan_resetInput (d : Device) (c : Chan) (f : Channel → Channel) : (d.modChan c f).resetInput = d.resetInput := rfl
@[simp] theorem Device.modChan_freeCount (d : Device) (c : Chan) (f : Channel → Channel) : (d.modChan c f).freeCount = d.freeCount := rfl
@[simp] theorem Device.modChan_lot (d : Device) (c : Chan) (f : Channel → Channel) (l₁ : LotNo) : (d.modChan c f).lot l₁ = d.lot l₁ := rfl
@[simp] theorem Device.modChan_image (d : Device) (c : Chan) (f : Channel → Channel) (i₁ : ImageNo) : (d.modChan c f).image i₁ = d.image i₁ := rfl
@[simp] theorem Device.modChan_profile (d : Device) (c : Chan) (f : Channel → Channel) (p₁ : ProfileNo) : (d.modChan c f).profile p₁ = d.profile p₁ := rfl

/-! ### `Device.setLot` -/

@[simp] theorem Device.setLot_port (d : Device) (l : LotNo) (x : Lot) : (d.setLot l x).port = d.port := rfl
@[simp] theorem Device.setLot_store (d : Device) (l : LotNo) (x : Lot) : (d.setLot l x).store = d.store := rfl
@[simp] theorem Device.setLot_profiles (d : Device) (l : LotNo) (x : Lot) : (d.setLot l x).profiles = d.profiles := rfl
@[simp] theorem Device.setLot_channels (d : Device) (l : LotNo) (x : Lot) : (d.setLot l x).channels = d.channels := rfl
@[simp] theorem Device.setLot_capture (d : Device) (l : LotNo) (x : Lot) : (d.setLot l x).capture = d.capture := rfl
@[simp] theorem Device.setLot_notices (d : Device) (l : LotNo) (x : Lot) : (d.setLot l x).notices = d.notices := rfl
@[simp] theorem Device.setLot_resetInput (d : Device) (l : LotNo) (x : Lot) : (d.setLot l x).resetInput = d.resetInput := rfl
@[simp] theorem Device.setLot_freeCount (d : Device) (l : LotNo) (x : Lot) : (d.setLot l x).freeCount = d.freeCount := rfl
@[simp] theorem Device.setLot_chan (d : Device) (l : LotNo) (x : Lot) (c₁ : Chan) : (d.setLot l x).chan c₁ = d.chan c₁ := rfl
@[simp] theorem Device.setLot_image (d : Device) (l : LotNo) (x : Lot) (i₁ : ImageNo) : (d.setLot l x).image i₁ = d.image i₁ := rfl
@[simp] theorem Device.setLot_profile (d : Device) (l : LotNo) (x : Lot) (p₁ : ProfileNo) : (d.setLot l x).profile p₁ = d.profile p₁ := rfl

/-! ### `Device.setProfile` -/

@[simp] theorem Device.setProfile_port (d : Device) (p : ProfileNo) (x : Profile) : (d.setProfile p x).port = d.port := rfl
@[simp] theorem Device.setProfile_store (d : Device) (p : ProfileNo) (x : Profile) : (d.setProfile p x).store = d.store := rfl
@[simp] theorem Device.setProfile_lots (d : Device) (p : ProfileNo) (x : Profile) : (d.setProfile p x).lots = d.lots := rfl
@[simp] theorem Device.setProfile_channels (d : Device) (p : ProfileNo) (x : Profile) : (d.setProfile p x).channels = d.channels := rfl
@[simp] theorem Device.setProfile_capture (d : Device) (p : ProfileNo) (x : Profile) : (d.setProfile p x).capture = d.capture := rfl
@[simp] theorem Device.setProfile_notices (d : Device) (p : ProfileNo) (x : Profile) : (d.setProfile p x).notices = d.notices := rfl
@[simp] theorem Device.setProfile_resetInput (d : Device) (p : ProfileNo) (x : Profile) : (d.setProfile p x).resetInput = d.resetInput := rfl
@[simp] theorem Device.setProfile_freeCount (d : Device) (p : ProfileNo) (x : Profile) : (d.setProfile p x).freeCount = d.freeCount := rfl
@[simp] theorem Device.setProfile_chan (d : Device) (p : ProfileNo) (x : Profile) (c₁ : Chan) : (d.setProfile p x).chan c₁ = d.chan c₁ := rfl
@[simp] theorem Device.setProfile_lot (d : Device) (p : ProfileNo) (x : Profile) (l₁ : LotNo) : (d.setProfile p x).lot l₁ = d.lot l₁ := rfl
@[simp] theorem Device.setProfile_image (d : Device) (p : ProfileNo) (x : Profile) (i₁ : ImageNo) : (d.setProfile p x).image i₁ = d.image i₁ := rfl

/-! ### `Device.setImage` -/

@[simp] theorem Device.setImage_port (d : Device) (i : ImageNo) (x : Image) : (d.setImage i x).port = d.port := rfl
@[simp] theorem Device.setImage_profiles (d : Device) (i : ImageNo) (x : Image) : (d.setImage i x).profiles = d.profiles := rfl
@[simp] theorem Device.setImage_lots (d : Device) (i : ImageNo) (x : Image) : (d.setImage i x).lots = d.lots := rfl
@[simp] theorem Device.setImage_channels (d : Device) (i : ImageNo) (x : Image) : (d.setImage i x).channels = d.channels := rfl
@[simp] theorem Device.setImage_capture (d : Device) (i : ImageNo) (x : Image) : (d.setImage i x).capture = d.capture := rfl
@[simp] theorem Device.setImage_notices (d : Device) (i : ImageNo) (x : Image) : (d.setImage i x).notices = d.notices := rfl
@[simp] theorem Device.setImage_resetInput (d : Device) (i : ImageNo) (x : Image) : (d.setImage i x).resetInput = d.resetInput := rfl
@[simp] theorem Device.setImage_freeCount (d : Device) (i : ImageNo) (x : Image) : (d.setImage i x).freeCount = d.freeCount := rfl
@[simp] theorem Device.setImage_chan (d : Device) (i : ImageNo) (x : Image) (c₁ : Chan) : (d.setImage i x).chan c₁ = d.chan c₁ := rfl
@[simp] theorem Device.setImage_lot (d : Device) (i : ImageNo) (x : Image) (l₁ : LotNo) : (d.setImage i x).lot l₁ = d.lot l₁ := rfl
@[simp] theorem Device.setImage_profile (d : Device) (i : ImageNo) (x : Image) (p₁ : ProfileNo) : (d.setImage i x).profile p₁ = d.profile p₁ := rfl

/-! ### `Device.notify` -/

@[simp] theorem Device.notify_port (d : Device) (k : Nat) : (d.notify k).port = d.port := rfl
@[simp] theorem Device.notify_store (d : Device) (k : Nat) : (d.notify k).store = d.store := rfl
@[simp] theorem Device.notify_profiles (d : Device) (k : Nat) : (d.notify k).profiles = d.profiles := rfl
@[simp] theorem Device.notify_lots (d : Device) (k : Nat) : (d.notify k).lots = d.lots := rfl
@[simp] theorem Device.notify_channels (d : Device) (k : Nat) : (d.notify k).channels = d.channels := rfl
@[simp] theorem Device.notify_capture (d : Device) (k : Nat) : (d.notify k).capture = d.capture := rfl
@[simp] theorem Device.notify_resetInput (d : Device) (k : Nat) : (d.notify k).resetInput = d.resetInput := rfl
@[simp] theorem Device.notify_freeCount (d : Device) (k : Nat) : (d.notify k).freeCount = d.freeCount := rfl
@[simp] theorem Device.notify_chan (d : Device) (k : Nat) (c₁ : Chan) : (d.notify k).chan c₁ = d.chan c₁ := rfl
@[simp] theorem Device.notify_lot (d : Device) (k : Nat) (l₁ : LotNo) : (d.notify k).lot l₁ = d.lot l₁ := rfl
@[simp] theorem Device.notify_image (d : Device) (k : Nat) (i₁ : ImageNo) : (d.notify k).image i₁ = d.image i₁ := rfl
@[simp] theorem Device.notify_profile (d : Device) (k : Nat) (p₁ : ProfileNo) : (d.notify k).profile p₁ = d.profile p₁ := rfl

/-! ### `Device.setCapture` -/

@[simp] theorem Device.setCapture_port (d : Device) (x : CaptureContext) : (d.setCapture x).port = d.port := rfl
@[simp] theorem Device.setCapture_store (d : Device) (x : CaptureContext) : (d.setCapture x).store = d.store := rfl
@[simp] theorem Device.setCapture_profiles (d : Device) (x : CaptureContext) : (d.setCapture x).profiles = d.profiles := rfl
@[simp] theorem Device.setCapture_lots (d : Device) (x : CaptureContext) : (d.setCapture x).lots = d.lots := rfl
@[simp] theorem Device.setCapture_channels (d : Device) (x : CaptureContext) : (d.setCapture x).channels = d.channels := rfl
@[simp] theorem Device.setCapture_notices (d : Device) (x : CaptureContext) : (d.setCapture x).notices = d.notices := rfl
@[simp] theorem Device.setCapture_resetInput (d : Device) (x : CaptureContext) : (d.setCapture x).resetInput = d.resetInput := rfl
@[simp] theorem Device.setCapture_freeCount (d : Device) (x : CaptureContext) : (d.setCapture x).freeCount = d.freeCount := rfl
@[simp] theorem Device.setCapture_chan (d : Device) (x : CaptureContext) (c₁ : Chan) : (d.setCapture x).chan c₁ = d.chan c₁ := rfl
@[simp] theorem Device.setCapture_lot (d : Device) (x : CaptureContext) (l₁ : LotNo) : (d.setCapture x).lot l₁ = d.lot l₁ := rfl
@[simp] theorem Device.setCapture_image (d : Device) (x : CaptureContext) (i₁ : ImageNo) : (d.setCapture x).image i₁ = d.image i₁ := rfl
@[simp] theorem Device.setCapture_profile (d : Device) (x : CaptureContext) (p₁ : ProfileNo) : (d.setCapture x).profile p₁ = d.profile p₁ := rfl

/-! ### `Device.setCtx` -/

@[simp] theorem Device.setCtx_port (d : Device) (c : Chan) (x : CopyContext) : (d.setCtx c x).port = d.port := rfl
@[simp] theorem Device.setCtx_store (d : Device) (c : Chan) (x : CopyContext) : (d.setCtx c x).store = d.store := rfl
@[simp] theorem Device.setCtx_profiles (d : Device) (c : Chan) (x : CopyContext) : (d.setCtx c x).profiles = d.profiles := rfl
@[simp] theorem Device.setCtx_lots (d : Device) (c : Chan) (x : CopyContext) : (d.setCtx c x).lots = d.lots := rfl
@[simp] theorem Device.setCtx_capture (d : Device) (c : Chan) (x : CopyContext) : (d.setCtx c x).capture = d.capture := rfl
@[simp] theorem Device.setCtx_notices (d : Device) (c : Chan) (x : CopyContext) : (d.setCtx c x).notices = d.notices := rfl
@[simp] theorem Device.setCtx_resetInput (d : Device) (c : Chan) (x : CopyContext) : (d.setCtx c x).resetInput = d.resetInput := rfl
@[simp] theorem Device.setCtx_freeCount (d : Device) (c : Chan) (x : CopyContext) : (d.setCtx c x).freeCount = d.freeCount := rfl
@[simp] theorem Device.setCtx_lot (d : Device) (c : Chan) (x : CopyContext) (l₁ : LotNo) : (d.setCtx c x).lot l₁ = d.lot l₁ := rfl
@[simp] theorem Device.setCtx_image (d : Device) (c : Chan) (x : CopyContext) (i₁ : ImageNo) : (d.setCtx c x).image i₁ = d.image i₁ := rfl
@[simp] theorem Device.setCtx_profile (d : Device) (c : Chan) (x : CopyContext) (p₁ : ProfileNo) : (d.setCtx c x).profile p₁ = d.profile p₁ := rfl

/-! ### `Device.sample` -/

@[simp] theorem Device.sample_port (d : Device) (c : Chan) (l : Lines) : (d.sample c l).port = d.port := rfl
@[simp] theorem Device.sample_store (d : Device) (c : Chan) (l : Lines) : (d.sample c l).store = d.store := rfl
@[simp] theorem Device.sample_profiles (d : Device) (c : Chan) (l : Lines) : (d.sample c l).profiles = d.profiles := rfl
@[simp] theorem Device.sample_lots (d : Device) (c : Chan) (l : Lines) : (d.sample c l).lots = d.lots := rfl
@[simp] theorem Device.sample_capture (d : Device) (c : Chan) (l : Lines) : (d.sample c l).capture = d.capture := rfl
@[simp] theorem Device.sample_notices (d : Device) (c : Chan) (l : Lines) : (d.sample c l).notices = d.notices := rfl
@[simp] theorem Device.sample_resetInput (d : Device) (c : Chan) (l : Lines) : (d.sample c l).resetInput = d.resetInput := rfl
@[simp] theorem Device.sample_freeCount (d : Device) (c : Chan) (l : Lines) : (d.sample c l).freeCount = d.freeCount := rfl
@[simp] theorem Device.sample_lot (d : Device) (c : Chan) (l : Lines) (l₁ : LotNo) : (d.sample c l).lot l₁ = d.lot l₁ := rfl
@[simp] theorem Device.sample_image (d : Device) (c : Chan) (l : Lines) (i₁ : ImageNo) : (d.sample c l).image i₁ = d.image i₁ := rfl
@[simp] theorem Device.sample_profile (d : Device) (c : Chan) (l : Lines) (p₁ : ProfileNo) : (d.sample c l).profile p₁ = d.profile p₁ := rfl

/-! ### `Device.pin` -/

@[simp] theorem Device.pin_port (d : Device) (i : ImageNo) : (d.pin i).port = d.port := rfl
@[simp] theorem Device.pin_profiles (d : Device) (i : ImageNo) : (d.pin i).profiles = d.profiles := rfl
@[simp] theorem Device.pin_lots (d : Device) (i : ImageNo) : (d.pin i).lots = d.lots := rfl
@[simp] theorem Device.pin_channels (d : Device) (i : ImageNo) : (d.pin i).channels = d.channels := rfl
@[simp] theorem Device.pin_capture (d : Device) (i : ImageNo) : (d.pin i).capture = d.capture := rfl
@[simp] theorem Device.pin_notices (d : Device) (i : ImageNo) : (d.pin i).notices = d.notices := rfl
@[simp] theorem Device.pin_resetInput (d : Device) (i : ImageNo) : (d.pin i).resetInput = d.resetInput := rfl
@[simp] theorem Device.pin_freeCount (d : Device) (i : ImageNo) : (d.pin i).freeCount = d.freeCount := rfl
@[simp] theorem Device.pin_chan (d : Device) (i : ImageNo) (c₁ : Chan) : (d.pin i).chan c₁ = d.chan c₁ := rfl
@[simp] theorem Device.pin_lot (d : Device) (i : ImageNo) (l₁ : LotNo) : (d.pin i).lot l₁ = d.lot l₁ := rfl
@[simp] theorem Device.pin_profile (d : Device) (i : ImageNo) (p₁ : ProfileNo) : (d.pin i).profile p₁ = d.profile p₁ := rfl

/-! ### `Device.bind` -/

@[simp] theorem Device.bind_port (d : Device) (i : ImageNo) : (d.bind i).port = d.port := rfl
@[simp] theorem Device.bind_profiles (d : Device) (i : ImageNo) : (d.bind i).profiles = d.profiles := rfl
@[simp] theorem Device.bind_lots (d : Device) (i : ImageNo) : (d.bind i).lots = d.lots := rfl
@[simp] theorem Device.bind_channels (d : Device) (i : ImageNo) : (d.bind i).channels = d.channels := rfl
@[simp] theorem Device.bind_capture (d : Device) (i : ImageNo) : (d.bind i).capture = d.capture := rfl
@[simp] theorem Device.bind_notices (d : Device) (i : ImageNo) : (d.bind i).notices = d.notices := rfl
@[simp] theorem Device.bind_resetInput (d : Device) (i : ImageNo) : (d.bind i).resetInput = d.resetInput := rfl
@[simp] theorem Device.bind_freeCount (d : Device) (i : ImageNo) : (d.bind i).freeCount = d.freeCount := rfl
@[simp] theorem Device.bind_chan (d : Device) (i : ImageNo) (c₁ : Chan) : (d.bind i).chan c₁ = d.chan c₁ := rfl
@[simp] theorem Device.bind_lot (d : Device) (i : ImageNo) (l₁ : LotNo) : (d.bind i).lot l₁ = d.lot l₁ := rfl
@[simp] theorem Device.bind_profile (d : Device) (i : ImageNo) (p₁ : ProfileNo) : (d.bind i).profile p₁ = d.profile p₁ := rfl

/-! ### `Device.unbind` -/

@[simp] theorem Device.unbind_port (d : Device) (i : ImageNo) : (d.unbind i).port = d.port := rfl
@[simp] theorem Device.unbind_profiles (d : Device) (i : ImageNo) : (d.unbind i).profiles = d.profiles := rfl
@[simp] theorem Device.unbind_lots (d : Device) (i : ImageNo) : (d.unbind i).lots = d.lots := rfl
@[simp] theorem Device.unbind_channels (d : Device) (i : ImageNo) : (d.unbind i).channels = d.channels := rfl
@[simp] theorem Device.unbind_capture (d : Device) (i : ImageNo) : (d.unbind i).capture = d.capture := rfl
@[simp] theorem Device.unbind_notices (d : Device) (i : ImageNo) : (d.unbind i).notices = d.notices := rfl
@[simp] theorem Device.unbind_resetInput (d : Device) (i : ImageNo) : (d.unbind i).resetInput = d.resetInput := rfl
@[simp] theorem Device.unbind_freeCount (d : Device) (i : ImageNo) : (d.unbind i).freeCount = d.freeCount := rfl
@[simp] theorem Device.unbind_chan (d : Device) (i : ImageNo) (c₁ : Chan) : (d.unbind i).chan c₁ = d.chan c₁ := rfl
@[simp] theorem Device.unbind_lot (d : Device) (i : ImageNo) (l₁ : LotNo) : (d.unbind i).lot l₁ = d.lot l₁ := rfl
@[simp] theorem Device.unbind_profile (d : Device) (i : ImageNo) (p₁ : ProfileNo) : (d.unbind i).profile p₁ = d.profile p₁ := rfl

/-! ### `Device.clearNotices` -/

@[simp] theorem Device.clearNotices_port (d : Device) (m : BitVec 24) : (d.clearNotices m).port = d.port := rfl
@[simp] theorem Device.clearNotices_store (d : Device) (m : BitVec 24) : (d.clearNotices m).store = d.store := rfl
@[simp] theorem Device.clearNotices_profiles (d : Device) (m : BitVec 24) : (d.clearNotices m).profiles = d.profiles := rfl
@[simp] theorem Device.clearNotices_lots (d : Device) (m : BitVec 24) : (d.clearNotices m).lots = d.lots := rfl
@[simp] theorem Device.clearNotices_channels (d : Device) (m : BitVec 24) : (d.clearNotices m).channels = d.channels := rfl
@[simp] theorem Device.clearNotices_capture (d : Device) (m : BitVec 24) : (d.clearNotices m).capture = d.capture := rfl
@[simp] theorem Device.clearNotices_resetInput (d : Device) (m : BitVec 24) : (d.clearNotices m).resetInput = d.resetInput := rfl
@[simp] theorem Device.clearNotices_freeCount (d : Device) (m : BitVec 24) : (d.clearNotices m).freeCount = d.freeCount := rfl
@[simp] theorem Device.clearNotices_chan (d : Device) (m : BitVec 24) (c₁ : Chan) : (d.clearNotices m).chan c₁ = d.chan c₁ := rfl
@[simp] theorem Device.clearNotices_lot (d : Device) (m : BitVec 24) (l₁ : LotNo) : (d.clearNotices m).lot l₁ = d.lot l₁ := rfl
@[simp] theorem Device.clearNotices_image (d : Device) (m : BitVec 24) (i₁ : ImageNo) : (d.clearNotices m).image i₁ = d.image i₁ := rfl
@[simp] theorem Device.clearNotices_profile (d : Device) (m : BitVec 24) (p₁ : ProfileNo) : (d.clearNotices m).profile p₁ = d.profile p₁ := rfl

/-! ### `Device.enableNotices` -/

@[simp] theorem Device.enableNotices_port (d : Device) (m : BitVec 24) (h : Bool) : (d.enableNotices m h).port = d.port := rfl
@[simp] theorem Device.enableNotices_store (d : Device) (m : BitVec 24) (h : Bool) : (d.enableNotices m h).store = d.store := rfl
@[simp] theorem Device.enableNotices_profiles (d : Device) (m : BitVec 24) (h : Bool) : (d.enableNotices m h).profiles = d.profiles := rfl
@[simp] theorem Device.enableNotices_lots (d : Device) (m : BitVec 24) (h : Bool) : (d.enableNotices m h).lots = d.lots := rfl
@[simp] theorem Device.enableNotices_channels (d : Device) (m : BitVec 24) (h : Bool) : (d.enableNotices m h).channels = d.channels := rfl
@[simp] theorem Device.enableNotices_capture (d : Device) (m : BitVec 24) (h : Bool) : (d.enableNotices m h).capture = d.capture := rfl
@[simp] theorem Device.enableNotices_resetInput (d : Device) (m : BitVec 24) (h : Bool) : (d.enableNotices m h).resetInput = d.resetInput := rfl
@[simp] theorem Device.enableNotices_freeCount (d : Device) (m : BitVec 24) (h : Bool) : (d.enableNotices m h).freeCount = d.freeCount := rfl
@[simp] theorem Device.enableNotices_chan (d : Device) (m : BitVec 24) (h : Bool) (c₁ : Chan) : (d.enableNotices m h).chan c₁ = d.chan c₁ := rfl
@[simp] theorem Device.enableNotices_lot (d : Device) (m : BitVec 24) (h : Bool) (l₁ : LotNo) : (d.enableNotices m h).lot l₁ = d.lot l₁ := rfl
@[simp] theorem Device.enableNotices_image (d : Device) (m : BitVec 24) (h : Bool) (i₁ : ImageNo) : (d.enableNotices m h).image i₁ = d.image i₁ := rfl
@[simp] theorem Device.enableNotices_profile (d : Device) (m : BitVec 24) (h : Bool) (p₁ : ProfileNo) : (d.enableNotices m h).profile p₁ = d.profile p₁ := rfl

/-! ### `Device.openStream` -/

@[simp] theorem Device.openStream_store (d : Device) (x : Stream) : (d.openStream x).store = d.store := rfl
@[simp] theorem Device.openStream_profiles (d : Device) (x : Stream) : (d.openStream x).profiles = d.profiles := rfl
@[simp] theorem Device.openStream_lots (d : Device) (x : Stream) : (d.openStream x).lots = d.lots := rfl
@[simp] theorem Device.openStream_channels (d : Device) (x : Stream) : (d.openStream x).channels = d.channels := rfl
@[simp] theorem Device.openStream_capture (d : Device) (x : Stream) : (d.openStream x).capture = d.capture := rfl
@[simp] theorem Device.openStream_notices (d : Device) (x : Stream) : (d.openStream x).notices = d.notices := rfl
@[simp] theorem Device.openStream_resetInput (d : Device) (x : Stream) : (d.openStream x).resetInput = d.resetInput := rfl
@[simp] theorem Device.openStream_freeCount (d : Device) (x : Stream) : (d.openStream x).freeCount = d.freeCount := rfl
@[simp] theorem Device.openStream_chan (d : Device) (x : Stream) (c₁ : Chan) : (d.openStream x).chan c₁ = d.chan c₁ := rfl
@[simp] theorem Device.openStream_lot (d : Device) (x : Stream) (l₁ : LotNo) : (d.openStream x).lot l₁ = d.lot l₁ := rfl
@[simp] theorem Device.openStream_image (d : Device) (x : Stream) (i₁ : ImageNo) : (d.openStream x).image i₁ = d.image i₁ := rfl
@[simp] theorem Device.openStream_profile (d : Device) (x : Stream) (p₁ : ProfileNo) : (d.openStream x).profile p₁ = d.profile p₁ := rfl
@[simp] theorem Device.openStream_port_frame (d : Device) (x : Stream) : (d.openStream x).port.frame = d.port.frame := rfl
@[simp] theorem Device.openStream_port_requests (d : Device) (x : Stream) : (d.openStream x).port.requests = d.port.requests := rfl
@[simp] theorem Device.openStream_port_replies (d : Device) (x : Stream) : (d.openStream x).port.replies = d.port.replies := rfl
@[simp] theorem Device.openStream_port_readPos (d : Device) (x : Stream) : (d.openStream x).port.readPos = d.port.readPos := rfl
@[simp] theorem Device.openStream_port_stream (d : Device) (x : Stream) : (d.openStream x).port.stream = x := rfl
@[simp] theorem Device.openStream_port_postRefused (d : Device) (x : Stream) : (d.openStream x).port.postRefused = d.port.postRefused := rfl
@[simp] theorem Device.openStream_port_streamFault (d : Device) (x : Stream) : (d.openStream x).port.streamFault = false := rfl
@[simp] theorem Device.openStream_port_working (d : Device) (x : Stream) : (d.openStream x).port.working = d.port.working := rfl
@[simp] theorem Device.openStream_port_dataLines (d : Device) (x : Stream) : (d.openStream x).port.dataLines = d.port.dataLines := rfl

/-! ### `Device.closeStream` -/

@[simp] theorem Device.closeStream_store (d : Device) : (d.closeStream).store = d.store := rfl
@[simp] theorem Device.closeStream_profiles (d : Device) : (d.closeStream).profiles = d.profiles := rfl
@[simp] theorem Device.closeStream_lots (d : Device) : (d.closeStream).lots = d.lots := rfl
@[simp] theorem Device.closeStream_channels (d : Device) : (d.closeStream).channels = d.channels := rfl
@[simp] theorem Device.closeStream_capture (d : Device) : (d.closeStream).capture = d.capture := rfl
@[simp] theorem Device.closeStream_notices (d : Device) : (d.closeStream).notices = d.notices := rfl
@[simp] theorem Device.closeStream_resetInput (d : Device) : (d.closeStream).resetInput = d.resetInput := rfl
@[simp] theorem Device.closeStream_freeCount (d : Device) : (d.closeStream).freeCount = d.freeCount := rfl
@[simp] theorem Device.closeStream_chan (d : Device) (c₁ : Chan) : (d.closeStream).chan c₁ = d.chan c₁ := rfl
@[simp] theorem Device.closeStream_lot (d : Device) (l₁ : LotNo) : (d.closeStream).lot l₁ = d.lot l₁ := rfl
@[simp] theorem Device.closeStream_image (d : Device) (i₁ : ImageNo) : (d.closeStream).image i₁ = d.image i₁ := rfl
@[simp] theorem Device.closeStream_profile (d : Device) (p₁ : ProfileNo) : (d.closeStream).profile p₁ = d.profile p₁ := rfl
@[simp] theorem Device.closeStream_port_frame (d : Device) : (d.closeStream).port.frame = d.port.frame := rfl
@[simp] theorem Device.closeStream_port_requests (d : Device) : (d.closeStream).port.requests = d.port.requests := rfl
@[simp] theorem Device.closeStream_port_replies (d : Device) : (d.closeStream).port.replies = d.port.replies := rfl
@[simp] theorem Device.closeStream_port_readPos (d : Device) : (d.closeStream).port.readPos = d.port.readPos := rfl
@[simp] theorem Device.closeStream_port_stream (d : Device) : (d.closeStream).port.stream = .closed := rfl
@[simp] theorem Device.closeStream_port_postRefused (d : Device) : (d.closeStream).port.postRefused = d.port.postRefused := rfl
@[simp] theorem Device.closeStream_port_streamFault (d : Device) : (d.closeStream).port.streamFault = d.port.streamFault := rfl
@[simp] theorem Device.closeStream_port_working (d : Device) : (d.closeStream).port.working = d.port.working := rfl
@[simp] theorem Device.closeStream_port_dataLines (d : Device) : (d.closeStream).port.dataLines = d.port.dataLines := rfl

/-! ### `Device.returns` -/

@[simp] theorem Device.returns_store (d : Device) (b : Byte) : (d.returns b).store = d.store := rfl
@[simp] theorem Device.returns_profiles (d : Device) (b : Byte) : (d.returns b).profiles = d.profiles := rfl
@[simp] theorem Device.returns_lots (d : Device) (b : Byte) : (d.returns b).lots = d.lots := rfl
@[simp] theorem Device.returns_channels (d : Device) (b : Byte) : (d.returns b).channels = d.channels := rfl
@[simp] theorem Device.returns_capture (d : Device) (b : Byte) : (d.returns b).capture = d.capture := rfl
@[simp] theorem Device.returns_notices (d : Device) (b : Byte) : (d.returns b).notices = d.notices := rfl
@[simp] theorem Device.returns_resetInput (d : Device) (b : Byte) : (d.returns b).resetInput = d.resetInput := rfl
@[simp] theorem Device.returns_freeCount (d : Device) (b : Byte) : (d.returns b).freeCount = d.freeCount := rfl
@[simp] theorem Device.returns_chan (d : Device) (b : Byte) (c₁ : Chan) : (d.returns b).chan c₁ = d.chan c₁ := rfl
@[simp] theorem Device.returns_lot (d : Device) (b : Byte) (l₁ : LotNo) : (d.returns b).lot l₁ = d.lot l₁ := rfl
@[simp] theorem Device.returns_image (d : Device) (b : Byte) (i₁ : ImageNo) : (d.returns b).image i₁ = d.image i₁ := rfl
@[simp] theorem Device.returns_profile (d : Device) (b : Byte) (p₁ : ProfileNo) : (d.returns b).profile p₁ = d.profile p₁ := rfl
@[simp] theorem Device.returns_port_frame (d : Device) (b : Byte) : (d.returns b).port.frame = d.port.frame := rfl
@[simp] theorem Device.returns_port_requests (d : Device) (b : Byte) : (d.returns b).port.requests = d.port.requests := rfl
@[simp] theorem Device.returns_port_replies (d : Device) (b : Byte) : (d.returns b).port.replies = d.port.replies := rfl
@[simp] theorem Device.returns_port_readPos (d : Device) (b : Byte) : (d.returns b).port.readPos = d.port.readPos := rfl
@[simp] theorem Device.returns_port_stream (d : Device) (b : Byte) : (d.returns b).port.stream = d.port.stream := rfl
@[simp] theorem Device.returns_port_postRefused (d : Device) (b : Byte) : (d.returns b).port.postRefused = d.port.postRefused := rfl
@[simp] theorem Device.returns_port_streamFault (d : Device) (b : Byte) : (d.returns b).port.streamFault = d.port.streamFault := rfl
@[simp] theorem Device.returns_port_working (d : Device) (b : Byte) : (d.returns b).port.working = d.port.working := rfl
@[simp] theorem Device.returns_port_dataLines (d : Device) (b : Byte) : (d.returns b).port.dataLines = b := rfl

/-! ### `Device.stray` -/

@[simp] theorem Device.stray_store (d : Device) : (d.stray).store = d.store := rfl
@[simp] theorem Device.stray_profiles (d : Device) : (d.stray).profiles = d.profiles := rfl
@[simp] theorem Device.stray_lots (d : Device) : (d.stray).lots = d.lots := rfl
@[simp] theorem Device.stray_channels (d : Device) : (d.stray).channels = d.channels := rfl
@[simp] theorem Device.stray_capture (d : Device) : (d.stray).capture = d.capture := rfl
@[simp] theorem Device.stray_notices (d : Device) : (d.stray).notices = d.notices := rfl
@[simp] theorem Device.stray_resetInput (d : Device) : (d.stray).resetInput = d.resetInput := rfl
@[simp] theorem Device.stray_freeCount (d : Device) : (d.stray).freeCount = d.freeCount := rfl
@[simp] theorem Device.stray_chan (d : Device) (c₁ : Chan) : (d.stray).chan c₁ = d.chan c₁ := rfl
@[simp] theorem Device.stray_lot (d : Device) (l₁ : LotNo) : (d.stray).lot l₁ = d.lot l₁ := rfl
@[simp] theorem Device.stray_image (d : Device) (i₁ : ImageNo) : (d.stray).image i₁ = d.image i₁ := rfl
@[simp] theorem Device.stray_profile (d : Device) (p₁ : ProfileNo) : (d.stray).profile p₁ = d.profile p₁ := rfl
@[simp] theorem Device.stray_port_frame (d : Device) : (d.stray).port.frame = d.port.frame := rfl
@[simp] theorem Device.stray_port_requests (d : Device) : (d.stray).port.requests = d.port.requests := rfl
@[simp] theorem Device.stray_port_replies (d : Device) : (d.stray).port.replies = d.port.replies := rfl
@[simp] theorem Device.stray_port_readPos (d : Device) : (d.stray).port.readPos = d.port.readPos := rfl
@[simp] theorem Device.stray_port_stream (d : Device) : (d.stray).port.stream = d.port.stream := rfl
@[simp] theorem Device.stray_port_postRefused (d : Device) : (d.stray).port.postRefused = d.port.postRefused := rfl
@[simp] theorem Device.stray_port_streamFault (d : Device) : (d.stray).port.streamFault = true := rfl
@[simp] theorem Device.stray_port_working (d : Device) : (d.stray).port.working = d.port.working := rfl
@[simp] theorem Device.stray_port_dataLines (d : Device) : (d.stray).port.dataLines = d.port.dataLines := rfl

/-! ### `Device.openFrame` -/

@[simp] theorem Device.openFrame_store (d : Device) (b : Byte) : (d.openFrame b).store = d.store := rfl
@[simp] theorem Device.openFrame_profiles (d : Device) (b : Byte) : (d.openFrame b).profiles = d.profiles := rfl
@[simp] theorem Device.openFrame_lots (d : Device) (b : Byte) : (d.openFrame b).lots = d.lots := rfl
@[simp] theorem Device.openFrame_channels (d : Device) (b : Byte) : (d.openFrame b).channels = d.channels := rfl
@[simp] theorem Device.openFrame_capture (d : Device) (b : Byte) : (d.openFrame b).capture = d.capture := rfl
@[simp] theorem Device.openFrame_notices (d : Device) (b : Byte) : (d.openFrame b).notices = d.notices := rfl
@[simp] theorem Device.openFrame_resetInput (d : Device) (b : Byte) : (d.openFrame b).resetInput = d.resetInput := rfl
@[simp] theorem Device.openFrame_freeCount (d : Device) (b : Byte) : (d.openFrame b).freeCount = d.freeCount := rfl
@[simp] theorem Device.openFrame_chan (d : Device) (b : Byte) (c₁ : Chan) : (d.openFrame b).chan c₁ = d.chan c₁ := rfl
@[simp] theorem Device.openFrame_lot (d : Device) (b : Byte) (l₁ : LotNo) : (d.openFrame b).lot l₁ = d.lot l₁ := rfl
@[simp] theorem Device.openFrame_image (d : Device) (b : Byte) (i₁ : ImageNo) : (d.openFrame b).image i₁ = d.image i₁ := rfl
@[simp] theorem Device.openFrame_profile (d : Device) (b : Byte) (p₁ : ProfileNo) : (d.openFrame b).profile p₁ = d.profile p₁ := rfl
@[simp] theorem Device.openFrame_port_frame (d : Device) (b : Byte) : (d.openFrame b).port.frame = some ⟨b, [], false⟩ := rfl
@[simp] theorem Device.openFrame_port_requests (d : Device) (b : Byte) : (d.openFrame b).port.requests = d.port.requests := rfl
@[simp] theorem Device.openFrame_port_replies (d : Device) (b : Byte) : (d.openFrame b).port.replies = d.port.replies := rfl
@[simp] theorem Device.openFrame_port_readPos (d : Device) (b : Byte) : (d.openFrame b).port.readPos = d.port.readPos := rfl
@[simp] theorem Device.openFrame_port_stream (d : Device) (b : Byte) : (d.openFrame b).port.stream = d.port.stream := rfl
@[simp] theorem Device.openFrame_port_postRefused (d : Device) (b : Byte) : (d.openFrame b).port.postRefused = d.port.postRefused := rfl
@[simp] theorem Device.openFrame_port_streamFault (d : Device) (b : Byte) : (d.openFrame b).port.streamFault = d.port.streamFault := rfl
@[simp] theorem Device.openFrame_port_working (d : Device) (b : Byte) : (d.openFrame b).port.working = d.port.working := rfl
@[simp] theorem Device.openFrame_port_dataLines (d : Device) (b : Byte) : (d.openFrame b).port.dataLines = d.port.dataLines := rfl

/-! ### `Device.writeBody` -/

@[simp] theorem Device.writeBody_store (d : Device) (b : Byte) : (d.writeBody b).store = d.store := rfl
@[simp] theorem Device.writeBody_profiles (d : Device) (b : Byte) : (d.writeBody b).profiles = d.profiles := rfl
@[simp] theorem Device.writeBody_lots (d : Device) (b : Byte) : (d.writeBody b).lots = d.lots := rfl
@[simp] theorem Device.writeBody_channels (d : Device) (b : Byte) : (d.writeBody b).channels = d.channels := rfl
@[simp] theorem Device.writeBody_capture (d : Device) (b : Byte) : (d.writeBody b).capture = d.capture := rfl
@[simp] theorem Device.writeBody_notices (d : Device) (b : Byte) : (d.writeBody b).notices = d.notices := rfl
@[simp] theorem Device.writeBody_resetInput (d : Device) (b : Byte) : (d.writeBody b).resetInput = d.resetInput := rfl
@[simp] theorem Device.writeBody_freeCount (d : Device) (b : Byte) : (d.writeBody b).freeCount = d.freeCount := rfl
@[simp] theorem Device.writeBody_chan (d : Device) (b : Byte) (c₁ : Chan) : (d.writeBody b).chan c₁ = d.chan c₁ := rfl
@[simp] theorem Device.writeBody_lot (d : Device) (b : Byte) (l₁ : LotNo) : (d.writeBody b).lot l₁ = d.lot l₁ := rfl
@[simp] theorem Device.writeBody_image (d : Device) (b : Byte) (i₁ : ImageNo) : (d.writeBody b).image i₁ = d.image i₁ := rfl
@[simp] theorem Device.writeBody_profile (d : Device) (b : Byte) (p₁ : ProfileNo) : (d.writeBody b).profile p₁ = d.profile p₁ := rfl
@[simp] theorem Device.writeBody_port_frame (d : Device) (b : Byte) : (d.writeBody b).port.frame = d.port.frame.map fun f => f.append b := rfl
@[simp] theorem Device.writeBody_port_requests (d : Device) (b : Byte) : (d.writeBody b).port.requests = d.port.requests := rfl
@[simp] theorem Device.writeBody_port_replies (d : Device) (b : Byte) : (d.writeBody b).port.replies = d.port.replies := rfl
@[simp] theorem Device.writeBody_port_readPos (d : Device) (b : Byte) : (d.writeBody b).port.readPos = d.port.readPos := rfl
@[simp] theorem Device.writeBody_port_stream (d : Device) (b : Byte) : (d.writeBody b).port.stream = d.port.stream := rfl
@[simp] theorem Device.writeBody_port_postRefused (d : Device) (b : Byte) : (d.writeBody b).port.postRefused = d.port.postRefused := rfl
@[simp] theorem Device.writeBody_port_streamFault (d : Device) (b : Byte) : (d.writeBody b).port.streamFault = d.port.streamFault := rfl
@[simp] theorem Device.writeBody_port_working (d : Device) (b : Byte) : (d.writeBody b).port.working = d.port.working := rfl
@[simp] theorem Device.writeBody_port_dataLines (d : Device) (b : Byte) : (d.writeBody b).port.dataLines = d.port.dataLines := rfl

/-! ### `Device.cancelFrame` -/

@[simp] theorem Device.cancelFrame_store (d : Device) : (d.cancelFrame).store = d.store := rfl
@[simp] theorem Device.cancelFrame_profiles (d : Device) : (d.cancelFrame).profiles = d.profiles := rfl
@[simp] theorem Device.cancelFrame_lots (d : Device) : (d.cancelFrame).lots = d.lots := rfl
@[simp] theorem Device.cancelFrame_channels (d : Device) : (d.cancelFrame).channels = d.channels := rfl
@[simp] theorem Device.cancelFrame_capture (d : Device) : (d.cancelFrame).capture = d.capture := rfl
@[simp] theorem Device.cancelFrame_notices (d : Device) : (d.cancelFrame).notices = d.notices := rfl
@[simp] theorem Device.cancelFrame_resetInput (d : Device) : (d.cancelFrame).resetInput = d.resetInput := rfl
@[simp] theorem Device.cancelFrame_freeCount (d : Device) : (d.cancelFrame).freeCount = d.freeCount := rfl
@[simp] theorem Device.cancelFrame_chan (d : Device) (c₁ : Chan) : (d.cancelFrame).chan c₁ = d.chan c₁ := rfl
@[simp] theorem Device.cancelFrame_lot (d : Device) (l₁ : LotNo) : (d.cancelFrame).lot l₁ = d.lot l₁ := rfl
@[simp] theorem Device.cancelFrame_image (d : Device) (i₁ : ImageNo) : (d.cancelFrame).image i₁ = d.image i₁ := rfl
@[simp] theorem Device.cancelFrame_profile (d : Device) (p₁ : ProfileNo) : (d.cancelFrame).profile p₁ = d.profile p₁ := rfl
@[simp] theorem Device.cancelFrame_port_frame (d : Device) : (d.cancelFrame).port.frame = none := rfl
@[simp] theorem Device.cancelFrame_port_requests (d : Device) : (d.cancelFrame).port.requests = d.port.requests := rfl
@[simp] theorem Device.cancelFrame_port_replies (d : Device) : (d.cancelFrame).port.replies = d.port.replies := rfl
@[simp] theorem Device.cancelFrame_port_readPos (d : Device) : (d.cancelFrame).port.readPos = d.port.readPos := rfl
@[simp] theorem Device.cancelFrame_port_stream (d : Device) : (d.cancelFrame).port.stream = d.port.stream := rfl
@[simp] theorem Device.cancelFrame_port_postRefused (d : Device) : (d.cancelFrame).port.postRefused = d.port.postRefused := rfl
@[simp] theorem Device.cancelFrame_port_streamFault (d : Device) : (d.cancelFrame).port.streamFault = d.port.streamFault := rfl
@[simp] theorem Device.cancelFrame_port_working (d : Device) : (d.cancelFrame).port.working = d.port.working := rfl
@[simp] theorem Device.cancelFrame_port_dataLines (d : Device) : (d.cancelFrame).port.dataLines = d.port.dataLines := rfl

/-! ### `Device.answered` -/

@[simp] theorem Device.answered_store (d : Device) (t k : Byte) (x : Completion) (bs : List Byte) : (d.answered t k x bs).store = d.store := rfl
@[simp] theorem Device.answered_profiles (d : Device) (t k : Byte) (x : Completion) (bs : List Byte) : (d.answered t k x bs).profiles = d.profiles := rfl
@[simp] theorem Device.answered_lots (d : Device) (t k : Byte) (x : Completion) (bs : List Byte) : (d.answered t k x bs).lots = d.lots := rfl
@[simp] theorem Device.answered_channels (d : Device) (t k : Byte) (x : Completion) (bs : List Byte) : (d.answered t k x bs).channels = d.channels := rfl
@[simp] theorem Device.answered_capture (d : Device) (t k : Byte) (x : Completion) (bs : List Byte) : (d.answered t k x bs).capture = d.capture := rfl
@[simp] theorem Device.answered_notices (d : Device) (t k : Byte) (x : Completion) (bs : List Byte) : (d.answered t k x bs).notices = d.notices := rfl
@[simp] theorem Device.answered_resetInput (d : Device) (t k : Byte) (x : Completion) (bs : List Byte) : (d.answered t k x bs).resetInput = d.resetInput := rfl
@[simp] theorem Device.answered_freeCount (d : Device) (t k : Byte) (x : Completion) (bs : List Byte) : (d.answered t k x bs).freeCount = d.freeCount := rfl
@[simp] theorem Device.answered_chan (d : Device) (t k : Byte) (x : Completion) (bs : List Byte) (c₁ : Chan) : (d.answered t k x bs).chan c₁ = d.chan c₁ := rfl
@[simp] theorem Device.answered_lot (d : Device) (t k : Byte) (x : Completion) (bs : List Byte) (l₁ : LotNo) : (d.answered t k x bs).lot l₁ = d.lot l₁ := rfl
@[simp] theorem Device.answered_image (d : Device) (t k : Byte) (x : Completion) (bs : List Byte) (i₁ : ImageNo) : (d.answered t k x bs).image i₁ = d.image i₁ := rfl
@[simp] theorem Device.answered_profile (d : Device) (t k : Byte) (x : Completion) (bs : List Byte) (p₁ : ProfileNo) : (d.answered t k x bs).profile p₁ = d.profile p₁ := rfl
@[simp] theorem Device.answered_port_frame (d : Device) (t k : Byte) (x : Completion) (bs : List Byte) : (d.answered t k x bs).port.frame = none := rfl
@[simp] theorem Device.answered_port_requests (d : Device) (t k : Byte) (x : Completion) (bs : List Byte) : (d.answered t k x bs).port.requests = d.port.requests := rfl
@[simp] theorem Device.answered_port_replies (d : Device) (t k : Byte) (x : Completion) (bs : List Byte) : (d.answered t k x bs).port.replies = d.port.replies ++ [⟨t, k, x, bs⟩] := rfl
@[simp] theorem Device.answered_port_readPos (d : Device) (t k : Byte) (x : Completion) (bs : List Byte) : (d.answered t k x bs).port.readPos = d.port.readPos := rfl
@[simp] theorem Device.answered_port_stream (d : Device) (t k : Byte) (x : Completion) (bs : List Byte) : (d.answered t k x bs).port.stream = d.port.stream := rfl
@[simp] theorem Device.answered_port_postRefused (d : Device) (t k : Byte) (x : Completion) (bs : List Byte) : (d.answered t k x bs).port.postRefused = false := rfl
@[simp] theorem Device.answered_port_streamFault (d : Device) (t k : Byte) (x : Completion) (bs : List Byte) : (d.answered t k x bs).port.streamFault = d.port.streamFault := rfl
@[simp] theorem Device.answered_port_working (d : Device) (t k : Byte) (x : Completion) (bs : List Byte) : (d.answered t k x bs).port.working = d.port.working := rfl
@[simp] theorem Device.answered_port_dataLines (d : Device) (t k : Byte) (x : Completion) (bs : List Byte) : (d.answered t k x bs).port.dataLines = d.port.dataLines := rfl

/-! ### `Device.placeReply` -/

@[simp] theorem Device.placeReply_store (d : Device) (f : Frame) (x : Option Response) : (d.placeReply f x).store = d.store := rfl
@[simp] theorem Device.placeReply_profiles (d : Device) (f : Frame) (x : Option Response) : (d.placeReply f x).profiles = d.profiles := rfl
@[simp] theorem Device.placeReply_lots (d : Device) (f : Frame) (x : Option Response) : (d.placeReply f x).lots = d.lots := rfl
@[simp] theorem Device.placeReply_channels (d : Device) (f : Frame) (x : Option Response) : (d.placeReply f x).channels = d.channels := rfl
@[simp] theorem Device.placeReply_capture (d : Device) (f : Frame) (x : Option Response) : (d.placeReply f x).capture = d.capture := rfl
@[simp] theorem Device.placeReply_notices (d : Device) (f : Frame) (x : Option Response) : (d.placeReply f x).notices = d.notices := rfl
@[simp] theorem Device.placeReply_resetInput (d : Device) (f : Frame) (x : Option Response) : (d.placeReply f x).resetInput = d.resetInput := rfl
@[simp] theorem Device.placeReply_freeCount (d : Device) (f : Frame) (x : Option Response) : (d.placeReply f x).freeCount = d.freeCount := rfl
@[simp] theorem Device.placeReply_chan (d : Device) (f : Frame) (x : Option Response) (c₁ : Chan) : (d.placeReply f x).chan c₁ = d.chan c₁ := rfl
@[simp] theorem Device.placeReply_lot (d : Device) (f : Frame) (x : Option Response) (l₁ : LotNo) : (d.placeReply f x).lot l₁ = d.lot l₁ := rfl
@[simp] theorem Device.placeReply_image (d : Device) (f : Frame) (x : Option Response) (i₁ : ImageNo) : (d.placeReply f x).image i₁ = d.image i₁ := rfl
@[simp] theorem Device.placeReply_profile (d : Device) (f : Frame) (x : Option Response) (p₁ : ProfileNo) : (d.placeReply f x).profile p₁ = d.profile p₁ := rfl

/-! ### `Device.beginEject` -/

@[simp] theorem Device.beginEject_port (d : Device) (c : Chan) (b : Bin) : (d.beginEject c b).port = d.port := rfl
@[simp] theorem Device.beginEject_store (d : Device) (c : Chan) (b : Bin) : (d.beginEject c b).store = d.store := rfl
@[simp] theorem Device.beginEject_profiles (d : Device) (c : Chan) (b : Bin) : (d.beginEject c b).profiles = d.profiles := rfl
@[simp] theorem Device.beginEject_lots (d : Device) (c : Chan) (b : Bin) : (d.beginEject c b).lots = d.lots := rfl
@[simp] theorem Device.beginEject_capture (d : Device) (c : Chan) (b : Bin) : (d.beginEject c b).capture = d.capture := rfl
@[simp] theorem Device.beginEject_notices (d : Device) (c : Chan) (b : Bin) : (d.beginEject c b).notices = d.notices := rfl
@[simp] theorem Device.beginEject_resetInput (d : Device) (c : Chan) (b : Bin) : (d.beginEject c b).resetInput = d.resetInput := rfl
@[simp] theorem Device.beginEject_freeCount (d : Device) (c : Chan) (b : Bin) : (d.beginEject c b).freeCount = d.freeCount := rfl
@[simp] theorem Device.beginEject_lot (d : Device) (c : Chan) (b : Bin) (l₁ : LotNo) : (d.beginEject c b).lot l₁ = d.lot l₁ := rfl
@[simp] theorem Device.beginEject_image (d : Device) (c : Chan) (b : Bin) (i₁ : ImageNo) : (d.beginEject c b).image i₁ = d.image i₁ := rfl
@[simp] theorem Device.beginEject_profile (d : Device) (c : Chan) (b : Bin) (p₁ : ProfileNo) : (d.beginEject c b).profile p₁ = d.profile p₁ := rfl

/-! ### `Device.unassign` -/

@[simp] theorem Device.unassign_port (d : Device) (l : LotNo) : (d.unassign l).port = d.port := rfl
@[simp] theorem Device.unassign_store (d : Device) (l : LotNo) : (d.unassign l).store = d.store := rfl
@[simp] theorem Device.unassign_profiles (d : Device) (l : LotNo) : (d.unassign l).profiles = d.profiles := rfl
@[simp] theorem Device.unassign_lots (d : Device) (l : LotNo) : (d.unassign l).lots = d.lots := rfl
@[simp] theorem Device.unassign_capture (d : Device) (l : LotNo) : (d.unassign l).capture = d.capture := rfl
@[simp] theorem Device.unassign_notices (d : Device) (l : LotNo) : (d.unassign l).notices = d.notices := rfl
@[simp] theorem Device.unassign_resetInput (d : Device) (l : LotNo) : (d.unassign l).resetInput = d.resetInput := rfl
@[simp] theorem Device.unassign_freeCount (d : Device) (l : LotNo) : (d.unassign l).freeCount = d.freeCount := rfl
@[simp] theorem Device.unassign_lot (d : Device) (l : LotNo) (l₁ : LotNo) : (d.unassign l).lot l₁ = d.lot l₁ := rfl
@[simp] theorem Device.unassign_image (d : Device) (l : LotNo) (i₁ : ImageNo) : (d.unassign l).image i₁ = d.image i₁ := rfl
@[simp] theorem Device.unassign_profile (d : Device) (l : LotNo) (p₁ : ProfileNo) : (d.unassign l).profile p₁ = d.profile p₁ := rfl

/-! ### `Store.setImage` -/

@[simp] theorem Store.setImage_records (st : Store) (i : ImageNo) (x : Image) : (st.setImage i x).records = st.records := rfl
@[simp] theorem Store.setImage_freePages (st : Store) (i : ImageNo) (x : Image) : (st.setImage i x).freePages = st.freePages := rfl
@[simp] theorem Store.setImage_memory (st : Store) (i : ImageNo) (x : Image) : (st.setImage i x).memory = st.memory := rfl
@[simp] theorem Store.setImage_record (st : Store) (i : ImageNo) (x : Image) (r₁ : RecNo) : (st.setImage i x).record r₁ = st.record r₁ := rfl

/-! ### `Store.setRecord` -/

@[simp] theorem Store.setRecord_images (st : Store) (r : RecNo) (x : TrackRecord) : (st.setRecord r x).images = st.images := rfl
@[simp] theorem Store.setRecord_freePages (st : Store) (r : RecNo) (x : TrackRecord) : (st.setRecord r x).freePages = st.freePages := rfl
@[simp] theorem Store.setRecord_memory (st : Store) (r : RecNo) (x : TrackRecord) : (st.setRecord r x).memory = st.memory := rfl
@[simp] theorem Store.setRecord_image (st : Store) (r : RecNo) (x : TrackRecord) (i₁ : ImageNo) : (st.setRecord r x).image i₁ = st.image i₁ := rfl

/-! ### `Store.dropPages` -/

@[simp] theorem Store.dropPages_records (st : Store) (i : ImageNo) (k : Nat) : (st.dropPages i k).records = st.records := rfl
@[simp] theorem Store.dropPages_freePages (st : Store) (i : ImageNo) (k : Nat) : (st.dropPages i k).freePages = st.freePages := rfl
@[simp] theorem Store.dropPages_memory (st : Store) (i : ImageNo) (k : Nat) : (st.dropPages i k).memory = st.memory := rfl
@[simp] theorem Store.dropPages_record (st : Store) (i : ImageNo) (k : Nat) (r₁ : RecNo) : (st.dropPages i k).record r₁ = st.record r₁ := rfl

/-! ### Reading a slot after it was set -/

theorem get_set {α : Type} {n : Nat} (v : Vector α n) (i j : Fin n) (x : α) :
    (v.set i.val x i.isLt).get j = if i = j then x else v.get j := by
  simp only [Vector.get_eq_getElem, Vector.getElem_set, Fin.ext_iff]

theorem Device.setChan_chan (d : Device) (c c₁ : Chan) (x : Channel) :
    (d.setChan c x).chan c₁ = if c = c₁ then x else d.chan c₁ := get_set _ _ _ _

@[simp] theorem Device.setChan_chan_self (d : Device) (c : Chan) (x : Channel) : (d.setChan c x).chan c = x := by
  simp [Device.setChan_chan]

@[simp] theorem Device.setChan_chan_ne (d : Device) {c c₁ : Chan} (x : Channel) (h : c ≠ c₁) :
    (d.setChan c x).chan c₁ = d.chan c₁ := by simp [Device.setChan_chan, h]

theorem Device.modChan_chan (d : Device) (c c₁ : Chan) (f : Channel → Channel) :
    (d.modChan c f).chan c₁ = if c = c₁ then f (d.chan c) else d.chan c₁ := get_set _ _ _ _

@[simp] theorem Device.modChan_chan_self (d : Device) (c : Chan) (f : Channel → Channel) :
    (d.modChan c f).chan c = f (d.chan c) := by simp [Device.modChan_chan]

@[simp] theorem Device.modChan_chan_ne (d : Device) {c c₁ : Chan} (f : Channel → Channel) (h : c ≠ c₁) :
    (d.modChan c f).chan c₁ = d.chan c₁ := by simp [Device.modChan_chan, h]

theorem Device.setLot_lot (d : Device) (l l₁ : LotNo) (x : Lot) :
    (d.setLot l x).lot l₁ = if l = l₁ then x else d.lot l₁ := get_set _ _ _ _

@[simp] theorem Device.setLot_lot_self (d : Device) (l : LotNo) (x : Lot) : (d.setLot l x).lot l = x := by
  simp [Device.setLot_lot]

@[simp] theorem Device.setLot_lot_ne (d : Device) {l l₁ : LotNo} (x : Lot) (h : l ≠ l₁) :
    (d.setLot l x).lot l₁ = d.lot l₁ := by simp [Device.setLot_lot, h]

theorem Device.setProfile_profile (d : Device) (p p₁ : ProfileNo) (x : Profile) :
    (d.setProfile p x).profile p₁ = if p = p₁ then x else d.profile p₁ := get_set _ _ _ _

theorem Store.setImage_image (st : Store) (i i₁ : ImageNo) (x : Image) :
    (st.setImage i x).image i₁ = if i = i₁ then x else st.image i₁ := get_set _ _ _ _

@[simp] theorem Store.setImage_image_self (st : Store) (i : ImageNo) (x : Image) : (st.setImage i x).image i = x := by
  simp [Store.setImage_image]

@[simp] theorem Store.setImage_image_ne (st : Store) {i i₁ : ImageNo} (x : Image) (h : i ≠ i₁) :
    (st.setImage i x).image i₁ = st.image i₁ := by simp [Store.setImage_image, h]

theorem Store.setRecord_record (st : Store) (r r₁ : RecNo) (x : TrackRecord) :
    (st.setRecord r x).record r₁ = if r = r₁ then x else st.record r₁ := get_set _ _ _ _

@[simp] theorem Store.setRecord_record_self (st : Store) (r : RecNo) (x : TrackRecord) :
    (st.setRecord r x).record r = x := by simp [Store.setRecord_record]

@[simp] theorem Store.setRecord_record_ne (st : Store) {r r₁ : RecNo} (x : TrackRecord) (h : r ≠ r₁) :
    (st.setRecord r x).record r₁ = st.record r₁ := by simp [Store.setRecord_record, h]

theorem Device.setImage_image (d : Device) (i i₁ : ImageNo) (x : Image) :
    (d.setImage i x).image i₁ = if i = i₁ then x else d.image i₁ := Store.setImage_image _ _ _ _

@[simp] theorem Device.setImage_image_self (d : Device) (i : ImageNo) (x : Image) : (d.setImage i x).image i = x := by
  simp [Device.setImage_image]

@[simp] theorem Device.setImage_image_ne (d : Device) {i i₁ : ImageNo} (x : Image) (h : i ≠ i₁) :
    (d.setImage i x).image i₁ = d.image i₁ := by simp [Device.setImage_image, h]

@[simp] theorem Device.unassign_chan (d : Device) (l : LotNo) (c : Chan) :
    (d.unassign l).chan c = (d.chan c).withoutLot l := by
  simp only [Device.unassign, Device.chan, Vector.get_eq_getElem, Vector.getElem_map]

@[simp] theorem Device.afterReset_chan (d : Device) (c : Chan) :
    d.afterReset.chan c = Channel.reset (d.chan c).media (d.chan c).lines := by
  simp only [Device.afterReset, Device.chan, Vector.get_eq_getElem, Vector.getElem_map]

/-! ### The later of two updates of one slot stands -/

@[simp] theorem Device.setChan_setChan (d : Device) (c : Chan) (x y : Channel) :
    (d.setChan c x).setChan c y = d.setChan c y := by simp [Device.setChan]

@[simp] theorem Device.setLot_setLot (d : Device) (l : LotNo) (x y : Lot) : (d.setLot l x).setLot l y = d.setLot l y := by
  simp [Device.setLot]

@[simp] theorem Store.setRecord_setRecord (st : Store) (r : RecNo) (x y : TrackRecord) :
    (st.setRecord r x).setRecord r y = st.setRecord r y := by simp [Store.setRecord]

@[simp] theorem Store.setImage_setImage (st : Store) (i : ImageNo) (x y : Image) :
    (st.setImage i x).setImage i y = st.setImage i y := by simp [Store.setImage]

@[simp] theorem onDevice_eq (s : State) (f : Device → Device) : onDevice s f = .next { s with dev := f s.dev } := rfl

end Sys2Proof.Machine
end

