-- ==== Sys2Proof/Laws/Memory.lean ====
section
/-! SUPPORT. The laws of the image memory: a byte written is the byte read, every other byte stays, and every operation keeps the
canonical form. -/

namespace Sys2Proof.Machine

/-- A read after a write, at the address written and at every other. -/
theorem memRead_memWrite (m : List Host.Cell) (hm : Memory.wf m) (a b : Nat) (v : Byte) :
    memRead (memWrite m a v) b = if b = a then v else memRead m b := by
  induction m with
  | nil =>
    by_cases hv : v = unlistedByte <;> by_cases hb : b = a <;> simp [memWrite, memRead, hv, hb]
  | cons x xs ih =>
    obtain ⟨k, w⟩ := x
    have hk : ∀ y ∈ xs, k < y.1 := fun y hy => (List.pairwise_cons.1 hm.1).1 y hy
    have hxs : Memory.wf xs := ⟨(List.pairwise_cons.1 hm.1).2, fun y hy => hm.2 y (List.mem_cons_of_mem _ hy)⟩
    have low : ∀ c, c ≤ k → memRead xs c = unlistedByte := by
      intro c hc
      have : ∀ (l : List Host.Cell), (∀ y ∈ l, k < y.1) → memRead l c = unlistedByte := by
        intro l
        induction l with
        | nil => intro _; rfl
        | cons y ys ihy =>
          intro h
          obtain ⟨p, q⟩ := y
          have hp : k < p := h (p, q) (by simp)
          have hne : c ≠ p := by omega
          simp only [memRead, if_neg hne]
          exact ihy fun z hz => h z (List.mem_cons_of_mem _ hz)
      exact this xs hk
    simp only [memWrite]
    by_cases h1 : a < k
    · by_cases hv : v = unlistedByte
      · by_cases hb : b = a
        · subst hb
          have hne : b ≠ k := by omega
          simp [h1, hv, memRead, hne, low b (by omega)]
        · simp [h1, hv, hb]
      · by_cases hb : b = a <;> simp [h1, hv, hb, memRead]
    · by_cases h2 : a = k
      · subst h2
        by_cases hv : v = unlistedByte
        · by_cases hb : b = a
          · subst hb; simp [hv, low b (le_refl _)]
          · simp [hv, memRead, hb]
        · by_cases hb : b = a <;> simp [hv, memRead, hb]
      · by_cases hb : b = k
        · have : b ≠ a := by omega
          simp [h1, h2, memRead, hb]
          omega
        · simp [h1, h2, memRead, hb, ih hxs]

/-- A write keeps the canonical form. -/
theorem memWrite_wf (m : List Host.Cell) (hm : Memory.wf m) (a : Nat) (v : Byte) : Memory.wf (memWrite m a v) := by
  have bound : ∀ (l : List Host.Cell) (k : Nat), k < a → (∀ y ∈ l, k < y.1) → ∀ y ∈ memWrite l a v, k < y.1 := by
    intro l k hka
    induction l with
    | nil =>
      intro _ y hy
      by_cases hv : v = unlistedByte <;> simp [memWrite, hv] at hy
      subst hy; exact hka
    | cons z zs ih =>
      intro h y hy
      obtain ⟨p, q⟩ := z
      have hp : k < p := h (p, q) (by simp)
      simp only [memWrite] at hy
      split at hy
      · split at hy
        · exact h y hy
        · rcases List.mem_cons.1 hy with rfl | hy
          · exact hka
          · exact h y hy
      · split at hy
        · split at hy
          · exact h y (List.mem_cons_of_mem _ hy)
          · rcases List.mem_cons.1 hy with rfl | hy
            · exact hka
            · exact h y (List.mem_cons_of_mem _ hy)
        · rcases List.mem_cons.1 hy with rfl | hy
          · exact hp
          · exact ih (fun y hy => h y (List.mem_cons_of_mem _ hy)) y hy
  induction m with
  | nil =>
    by_cases hv : v = unlistedByte
    · simpa [memWrite, hv] using hm
    · simp [memWrite, hv, Memory.wf]
  | cons x xs ih =>
    obtain ⟨k, w⟩ := x
    obtain ⟨hk, hp⟩ := List.pairwise_cons.1 hm.1
    have hw : w ≠ unlistedByte := hm.2 (k, w) (by simp)
    have hxs : Memory.wf xs := ⟨hp, fun y hy => hm.2 y (List.mem_cons_of_mem _ hy)⟩
    simp only [memWrite]
    split
    · rename_i h1
      split
      · exact hm
      · rename_i hv
        refine ⟨List.pairwise_cons.2 ⟨?_, hm.1⟩, ?_⟩
        · intro y hy
          rcases List.mem_cons.1 hy with rfl | hy
          · exact h1
          · exact lt_trans h1 (hk y hy)
        · intro y hy
          rcases List.mem_cons.1 hy with rfl | hy
          · exact hv
          · exact hm.2 y hy
    · rename_i h1
      split
      · rename_i h2
        subst h2
        split
        · exact hxs
        · rename_i hv
          refine ⟨List.pairwise_cons.2 ⟨hk, hp⟩, ?_⟩
          intro y hy
          rcases List.mem_cons.1 hy with rfl | hy
          · exact hv
          · exact hxs.2 y hy
      · rename_i h2
        refine ⟨List.pairwise_cons.2 ⟨bound xs k (by omega) hk, (ih hxs).1⟩, ?_⟩
        intro y hy
        rcases List.mem_cons.1 hy with rfl | hy
        · exact hw
        · exact (ih hxs).2 y hy

/-- Writing a data byte of a record keeps the canonical form. -/
theorem dataWrite_wf (m : List Host.Cell) (hm : Memory.wf m) (pages : List Nat) (b : Nat) (v : Byte) :
    Memory.wf (dataWrite m pages b v) := by
  unfold dataWrite; split
  · exact memWrite_wf m hm _ v
  · exact hm

/-- Writing data bytes of a record keeps the canonical form. -/
theorem dataWriteAll_wf (bs : List Byte) :
    ∀ (m : List Host.Cell) (_ : Memory.wf m) (pages : List Nat) (b : Nat), Memory.wf (dataWriteAll m pages b bs) := by
  induction bs with
  | nil => intro m hm _ _; exact hm
  | cons v vs ih => intro m hm pages b; exact ih _ (dataWrite_wf m hm pages b v) pages (b + 1)

/-- The address of a data offset, when the page list reaches it. -/
theorem dataAddress_some {pages : List Nat} {b a : Nat} (h : dataAddress pages b = some a) :
    ∃ p, pages[b / 2048]? = some p ∧ a = 2048 * p + b % 2048 := by
  unfold dataAddress at h
  split at h
  · rename_i p hp; exact ⟨p, hp, (Option.some.inj h).symm⟩
  · cases h

/-- Different data offsets of a page list without repeats lie at different addresses. -/
theorem dataAddress_inj {pages : List Nat} (hn : pages.Nodup) {b b' a : Nat} (h : dataAddress pages b = some a)
    (h' : dataAddress pages b' = some a) : b = b' := by
  obtain ⟨p, hp, rfl⟩ := dataAddress_some h
  obtain ⟨q, hq, e⟩ := dataAddress_some h'
  have h1 : p = q := by omega
  have h2 : b % 2048 = b' % 2048 := by omega
  subst h1
  have h3 : b / 2048 = b' / 2048 := by
    obtain ⟨h4, h5⟩ := List.getElem?_eq_some_iff.1 hp
    obtain ⟨h6, h7⟩ := List.getElem?_eq_some_iff.1 hq
    exact (List.Nodup.getElem_inj_iff hn).1 (h5.trans h7.symm)
  omega

/-- A byte outside the address a data write reaches stays. -/
theorem memRead_dataWrite_ne (m : List Host.Cell) (hm : Memory.wf m) (pages : List Nat) (b a : Nat) (v : Byte)
    (h : dataAddress pages b ≠ some a) : memRead (dataWrite m pages b v) a = memRead m a := by
  unfold dataWrite
  split
  · rename_i a' ha'
    rw [memRead_memWrite m hm]
    have : a ≠ a' := by rintro rfl; exact h ha'
    simp [this]
  · rfl

/-- A data byte read after it was written: the byte written when the page list reaches it. -/
theorem dataRead_dataWrite_self (m : List Host.Cell) (hm : Memory.wf m) (pages : List Nat) (b : Nat) (v : Byte)
    (h : (dataAddress pages b).isSome = true) : dataRead (dataWrite m pages b v) pages b = v := by
  obtain ⟨a, ha⟩ := Option.isSome_iff_exists.1 h
  simp [dataRead, dataWrite, ha, memRead_memWrite m hm]

/-- A data byte at another offset of the same record stays. -/
theorem dataRead_dataWrite_ne (m : List Host.Cell) (hm : Memory.wf m) {pages : List Nat} (hn : pages.Nodup) {b b' : Nat}
    (v : Byte) (h : b ≠ b') : dataRead (dataWrite m pages b v) pages b' = dataRead m pages b' := by
  unfold dataRead
  split
  · rename_i a ha
    exact memRead_dataWrite_ne m hm pages b a v fun hb => h (dataAddress_inj hn hb ha)
  · rfl

/-- A byte that none of some data writes reaches stays. -/
theorem memRead_dataWriteAll_ne (bs : List Byte) :
    ∀ (m : List Host.Cell) (_ : Memory.wf m) (pages : List Nat) (b a : Nat),
      (∀ k, k < bs.length → dataAddress pages (b + k) ≠ some a) → memRead (dataWriteAll m pages b bs) a = memRead m a := by
  induction bs with
  | nil => intro m _ _ _ _ _; rfl
  | cons v vs ih =>
    intro m hm pages b a h
    simp only [dataWriteAll]
    rw [ih _ (dataWrite_wf m hm pages b v) pages (b + 1) a, memRead_dataWrite_ne m hm]
    · simpa using h 0 (by simp)
    · intro k hk
      have := h (k + 1) (by simpa using hk)
      simpa [Nat.add_assoc, Nat.add_comm 1 k] using this

/-- The data bytes of a record after some of them were written. -/
theorem dataRead_dataWriteAll (bs : List Byte) :
    ∀ (m : List Host.Cell) (_ : Memory.wf m) (pages : List Nat) (_ : pages.Nodup) (b b' : Nat),
      (∀ k, k < bs.length → (dataAddress pages (b + k)).isSome = true) →
      dataRead (dataWriteAll m pages b bs) pages b' =
        if b ≤ b' ∧ b' < b + bs.length then bs.getD (b' - b) 0 else dataRead m pages b' := by
  induction bs with
  | nil => intro m _ pages _ b b' _; simp [dataWriteAll]
  | cons v vs ih =>
    intro m hm pages hn b b' h
    simp only [dataWriteAll]
    rw [ih _ (dataWrite_wf m hm pages b v) pages hn (b + 1) b' (fun k hk => by
      have := h (k + 1) (by simpa using hk)
      simpa [Nat.add_assoc, Nat.add_comm 1 k] using this)]
    by_cases h1 : b' = b
    · subst h1
      have hs : (dataAddress pages b').isSome = true := by simpa using h 0 (by simp)
      simp [dataRead_dataWrite_self m hm pages b' v hs]
    · by_cases h2 : b + 1 ≤ b' ∧ b' < b + 1 + vs.length
      · have h3 : b ≤ b' ∧ b' < b + (v :: vs).length := by simp; omega
        have h4 : b' - b = (b' - (b + 1)) + 1 := by omega
        rw [if_pos h2, if_pos h3, h4]; rfl
      · have h3 : ¬ (b ≤ b' ∧ b' < b + (v :: vs).length) := by simp; omega
        rw [if_neg h2, if_neg h3, dataRead_dataWrite_ne m hm hn v (Ne.symm h1)]

end Sys2Proof.Machine
end

