-- ==== Sys2Proof/Laws/Moves.lean ====
section
/-! SUPPORT. Says once what an event of a bay, of a timer, of a lot or of an engine can do to the part: a chain of updates of single
channels, lots, image records, notice flags and the capture context, vacatings, and the installation of a captured record. -/

namespace Sys2Proof.Machine

/-- The store after a captured record has been granted slot `r`, filled and installed (R152). -/
def Store.captured (st : Store) (r : RecNo) (i : ImageNo) (key : Key) (t : Track) (p : Nat) (bytes : List Byte) : Store :=
  ((st.grant r .present i key t p).fillPages r bytes).install r

/-- `Moves d e`: the part can go from `d` to `e` within the events of the bays, the timers, the lots and the engines. -/
inductive Moves (d : Device) : Device → Prop
  | refl : Moves d d
  | setChan {e : Device} (c : Chan) (x : Channel) : Moves d e → Moves d (e.setChan c x)
  | setLot {e : Device} (l : LotNo) (x : Lot) : Moves d e → Moves d (e.setLot l x)
  | setImage {e : Device} (i : ImageNo) (x : Image) : Moves d e → Moves d (e.setImage i x)
  | notify {e : Device} (k : Nat) : 1 ≤ k ∧ k ≤ 22 → Moves d e → Moves d (e.notify k)
  | setCapture {e : Device} (x : CaptureContext) : Moves d e → Moves d (e.setCapture x)
  | count {e : Device} : Moves d e → Moves d { e with freeCount := e.freeCount + 1 }
  | vacate {e : Device} (i : ImageNo) : Moves d e → Moves d { e with store := e.store.vacate i }
  | captured {e : Device} (r : RecNo) (i : ImageNo) (key : Key) (t : Track) (p : Nat) (bytes : List Byte) :
      e.store.claim p = some r → Moves d e → Moves d { e with store := e.store.captured r i key t p bytes }

theorem Moves.trans {d e f : Device} (h : Moves d e) (g : Moves e f) : Moves d f := by
  induction g with
  | refl => exact h
  | setChan c x _ ih => exact ih.setChan c x
  | setLot l x _ ih => exact ih.setLot l x
  | setImage i x _ ih => exact ih.setImage i x
  | notify k hk _ ih => exact ih.notify k hk
  | setCapture x _ ih => exact ih.setCapture x
  | count _ ih => exact ih.count
  | vacate i _ ih => exact ih.vacate i
  | captured r i key t p bytes hr _ ih => exact ih.captured r i key t p bytes hr

theorem Moves.modChan {d e : Device} (c : Chan) (f : Channel → Channel) (h : Moves d e) : Moves d (e.modChan c f) :=
  h.setChan c _

theorem Moves.setCtx {d e : Device} (c : Chan) (x : CopyContext) (h : Moves d e) : Moves d (e.setCtx c x) := h.modChan c _

theorem Moves.beginEject {d e : Device} (c : Chan) (b : Bin) (h : Moves d e) : Moves d (e.beginEject c b) := h.modChan c _

theorem Moves.sample {d e : Device} (c : Chan) (l : Lines) (h : Moves d e) : Moves d (e.sample c l) := h.modChan c _

theorem Moves.pin {d e : Device} (i : ImageNo) (h : Moves d e) : Moves d (e.pin i) := h.setImage i _

theorem Moves.done {d e : Device} (c : Chan) (h : Moves d e) : Moves d (e.notify (noticeChDone c)) :=
  h.notify _ (by unfold noticeChDone; omega)

theorem Moves.alert {d e : Device} (c : Chan) (h : Moves d e) : Moves d (e.notify (noticeChAlert c)) :=
  h.notify _ (by unfold noticeChAlert; omega)

theorem Moves.lotNotice {d e : Device} (l : LotNo) (h : Moves d e) : Moves d (e.notify (noticeLot l)) :=
  h.notify _ (by unfold noticeLot; omega)

theorem Moves.freed {d e : Device} (h : Moves d e) : Moves d (e.notify noticeImageFreed) :=
  h.notify _ (by unfold noticeImageFreed; omega)

theorem Moves.captureEnd {d e : Device} (h : Moves d e) : Moves d (e.notify noticeCaptureEnd) :=
  h.notify _ (by unfold noticeCaptureEnd; omega)

theorem Device.evalFeed_moves {d e : Device} (c : Chan) (h : Moves d e) : Moves d (e.evalFeed c) := by
  unfold Device.evalFeed
  repeat' split
  all_goals repeat (with_reducible first | assumption | apply Moves.modChan)

theorem Device.enterIdle_moves {d e : Device} (c : Chan) (h : Moves d e) : Moves d (e.enterIdle c) := by
  unfold Device.enterIdle
  repeat (with_reducible first | assumption | apply Moves.modChan | apply Device.evalFeed_moves)

theorem Device.completeEject_moves {d e : Device} (c : Chan) (h : Moves d e) : Moves d (e.completeEject c) := by
  unfold Device.completeEject
  dsimp only
  repeat' split
  all_goals repeat (with_reducible first | assumption | apply Moves.modChan | apply Moves.alert | apply Device.enterIdle_moves)

theorem Device.protectedReject_moves {d e : Device} (c : Chan) (l : LotNo) (h : Moves d e) : Moves d (e.protectedReject c l) := by
  unfold Device.protectedReject
  repeat (with_reducible first | assumption | apply Moves.modChan | apply Moves.beginEject | apply Moves.done | apply Moves.setLot)

theorem Device.requestAdmission_moves {d e : Device} (c : Chan) (l : LotNo) (h : Moves d e) : Moves d (e.requestAdmission c l) := by
  unfold Device.requestAdmission
  dsimp only
  repeat' split
  all_goals repeat (with_reducible first | assumption | apply Moves.modChan | apply Moves.pin | apply Moves.lotNotice | apply Moves.setLot)

theorem Device.admissionPoint_moves {d e : Device} (c : Chan) (h : Moves d e) : Moves d (e.admissionPoint c) := by
  unfold Device.admissionPoint
  repeat' split
  all_goals repeat (with_reducible first | assumption | apply Device.protectedReject_moves | apply Device.requestAdmission_moves)

theorem Device.enterLoaded_moves {d e : Device} (c : Chan) (h : Moves d e) : Moves d (e.enterLoaded c) := by
  unfold Device.enterLoaded
  repeat (with_reducible first | assumption | apply Moves.modChan | apply Device.admissionPoint_moves)

theorem Device.answerSignal_moves {d e : Device} (c : Chan) (h : Moves d e) : Moves d (e.answerSignal c) := by
  unfold Device.answerSignal
  repeat' split
  all_goals repeat (with_reducible first | assumption | apply Moves.pin | apply Device.evalFeed_moves | apply Device.admissionPoint_moves)

theorem Device.signalOpen_moves {d e : Device} (l : LotNo) (h : Moves d e) : Moves d (e.signalOpen l) := by
  unfold Device.signalOpen
  have fold : ∀ (cs : List Chan) (g : Device), Moves d g → Moves d (cs.foldl Device.answerSignal g) := by
    intro cs
    induction cs with
    | nil => intro g hg; exact hg
    | cons c cs ih => intro g hg; exact ih _ (Device.answerSignal_moves c hg)
  exact fold _ _ h.count

theorem Device.unpin_moves {d e : Device} (i : ImageNo) (h : Moves d e) : Moves d (e.unpin i) := by
  unfold Device.unpin
  dsimp only
  repeat' split
  all_goals repeat (with_reducible first | assumption | apply Moves.pin | apply Moves.freed | apply Moves.setImage | apply Moves.vacate)

theorem Device.accountEnd_moves {d e : Device} (l : LotNo) (o : CopyOutcome) (n : Option Nat) (h : Moves d e) : Moves d (e.accountEnd l o n) := by
  unfold Device.accountEnd
  dsimp only
  repeat' split
  all_goals repeat (with_reducible first | assumption | apply Moves.lotNotice | apply Moves.setLot)

theorem Device.copyEnd_moves {d e : Device} (c : Chan) (o : CopyOutcome) (k : Option Key) (h : Moves d e) : Moves d (e.copyEnd c o k) := by
  unfold Device.copyEnd
  dsimp only
  repeat' split
  all_goals repeat (with_reducible first | assumption | apply Moves.modChan | apply Moves.beginEject | apply Moves.pin | apply Moves.done | apply Device.evalFeed_moves | apply Device.signalOpen_moves | apply Device.unpin_moves | apply Device.accountEnd_moves)

theorem Device.copyCut_moves {d e : Device} (c : Chan) (r : RejectReason) (h : Moves d e) : Moves d (e.copyCut c r) := by
  unfold Device.copyCut
  repeat (with_reducible first | assumption | apply Device.copyEnd_moves)

theorem Device.beginTrack_moves {d e : Device} (c : Chan) (k : Key) (h : Moves d e) : Moves d (e.beginTrack c k) := by
  unfold Device.beginTrack
  dsimp only
  repeat' split
  all_goals repeat (with_reducible first | assumption | apply Moves.modChan | apply Moves.setCtx | apply Device.copyEnd_moves)

theorem Device.enterCopying_moves {d e : Device} (c : Chan) (h : Moves d e) : Moves d (e.enterCopying c) := by
  unfold Device.enterCopying
  repeat (with_reducible first | assumption | apply Moves.modChan | apply Device.beginTrack_moves)

theorem Device.beginNext_moves {d e : Device} (c : Chan) (h : Moves d e) : Moves d (e.beginNext c) := by
  unfold Device.beginNext
  repeat' split
  all_goals repeat (with_reducible first | assumption | apply Device.beginTrack_moves)

theorem Device.trackDone_moves {d e : Device} (c : Chan) (h : Moves d e) : Moves d (e.trackDone c) := by
  unfold Device.trackDone
  dsimp only
  repeat' split
  all_goals repeat (with_reducible first | assumption | apply Moves.modChan | apply Moves.setCtx | apply Device.copyEnd_moves | apply Device.beginTrack_moves)

theorem Device.timeLimit_moves {d e : Device} (c : Chan) (x : CopyContext) (h : Moves d e) : Moves d (e.timeLimit c x) := by
  unfold Device.timeLimit
  repeat (with_reducible first | assumption | apply Moves.setCtx | apply Device.copyEnd_moves)

theorem Device.passFailed_moves {d e : Device} (c : Chan) (x : CopyContext) (f : VerifyFault) (h : Moves d e) : Moves d (e.passFailed c x f) := by
  unfold Device.passFailed
  dsimp only
  repeat' split
  all_goals repeat (with_reducible first | assumption | apply Moves.modChan | apply Moves.setCtx | apply Device.copyEnd_moves | apply Device.timeLimit_moves)

theorem Device.endVerify_moves {d e : Device} (c : Chan) (x : CopyContext) (h : Moves d e) : Moves d (e.endVerify c x) := by
  unfold Device.endVerify
  repeat' split
  all_goals repeat (with_reducible first | assumption | apply Moves.setCtx | apply Device.trackDone_moves | apply Device.passFailed_moves)

theorem Device.endWrite_moves {d e : Device} (c : Chan) (x : CopyContext) (h : Moves d e) : Moves d (e.endWrite c x) := by
  unfold Device.endWrite
  dsimp only
  repeat' split
  all_goals repeat (with_reducible first | assumption | apply Moves.modChan | apply Moves.setCtx | apply Device.trackDone_moves | apply Device.timeLimit_moves)

theorem Device.copyPulse_moves {d e : Device} (c : Chan) (h : Moves d e) : Moves d (e.copyPulse c) := by
  unfold Device.copyPulse
  repeat' split
  all_goals repeat (with_reducible first | assumption | apply Moves.modChan | apply Moves.setCtx | apply Device.timeLimit_moves | apply Device.endVerify_moves | apply Device.endWrite_moves)

theorem Device.copyIdBlock_moves {d e : Device} (c : Chan) (id crcRead : List Byte) (h : Moves d e) : Moves d (e.copyIdBlock c id crcRead) := by
  unfold Device.copyIdBlock
  repeat' split
  all_goals repeat (with_reducible first | assumption | apply Moves.setCtx)

theorem Device.copyDataBlock_moves {d e : Device} (c : Chan) (m : Mark) (raw : List Byte) (h : Moves d e) : Moves d (e.copyDataBlock c m raw) := by
  unfold Device.copyDataBlock
  repeat' split
  all_goals repeat (with_reducible first | assumption | apply Moves.setCtx)

theorem Device.clearOwner_moves {d e : Device} (i : Option ImageNo) (h : Moves d e) : Moves d (e.clearOwner i) := by
  unfold Device.clearOwner
  repeat' split
  all_goals repeat (with_reducible first | assumption | apply Moves.setImage)

theorem Device.captureChannelEnd_moves {d e : Device} (c : Chan) (r : EndReason) (h : Moves d e) : Moves d (e.captureChannelEnd c r) := by
  unfold Device.captureChannelEnd
  dsimp only
  repeat' split
  all_goals repeat (with_reducible first | assumption | apply Moves.modChan | apply Moves.alert | apply Device.enterIdle_moves | apply Device.enterLoaded_moves)

theorem Device.captureEnd_moves {d e : Device} (c : Chan) (r : EndReason) (h : Moves d e) : Moves d (e.captureEnd c r) := by
  unfold Device.captureEnd
  dsimp only
  repeat (with_reducible first | assumption | apply Moves.captureEnd | apply Moves.setCapture | apply Device.clearOwner_moves | apply Device.captureChannelEnd_moves)

theorem Device.beginKey_moves {d e : Device} (c : Chan) (k : Key) (h : Moves d e) : Moves d (e.beginKey c k) := by
  unfold Device.beginKey
  dsimp only
  repeat' split
  all_goals repeat (with_reducible first | assumption | apply Moves.modChan | apply Moves.setCapture)

theorem Device.enterCapturing_moves {d e : Device} (c : Chan) (h : Moves d e) : Moves d (e.enterCapturing c) := by
  unfold Device.enterCapturing
  repeat (with_reducible first | assumption | apply Moves.modChan | apply Device.beginKey_moves)

theorem Device.keySettled_moves {d e : Device} (c : Chan) (h : Moves d e) : Moves d (e.keySettled c) := by
  unfold Device.keySettled
  repeat' split
  all_goals repeat (with_reducible first | assumption | apply Device.captureEnd_moves | apply Device.beginKey_moves)

theorem Device.keyFailed_moves {d e : Device} (c : Chan) (r : FailReason) (h : Moves d e) : Moves d (e.keyFailed c r) := by
  unfold Device.keyFailed
  repeat (with_reducible first | assumption | apply Moves.setCapture | apply Device.keySettled_moves)

theorem Device.judgeScan_moves {d e : Device} (c : Chan) (h : Moves d e) : Moves d (e.judgeScan c) := by
  unfold Device.judgeScan
  dsimp only
  repeat' split
  all_goals repeat (with_reducible first | assumption | apply Moves.setCapture | apply Device.keySettled_moves | apply Device.keyFailed_moves)

theorem Device.installCapture_moves {d e : Device} (c : Chan) (h : Moves d e) : Moves d (e.installCapture c) := by
  unfold Device.installCapture
  split
  · rename_i i key _ _
    dsimp only
    split
    · exact Device.captureEnd_moves c .noSpace h
    · rename_i r hr
      exact Device.keySettled_moves c ((h.captured r i key _ _ _ hr).setCapture _)
  · exact h

theorem Device.judgeRead_moves {d e : Device} (c : Chan) (h : Moves d e) : Moves d (e.judgeRead c) := by
  unfold Device.judgeRead
  repeat' split
  all_goals repeat (with_reducible first | assumption | apply Moves.setCapture | apply Device.keyFailed_moves | apply Device.installCapture_moves)

theorem Device.capturePulse_moves {d e : Device} (c : Chan) (h : Moves d e) : Moves d (e.capturePulse c) := by
  unfold Device.capturePulse
  repeat' split
  all_goals repeat (with_reducible first | assumption | apply Moves.pin | apply Moves.setCapture | apply Device.judgeScan_moves | apply Device.judgeRead_moves)

theorem Device.captureIdBlock_moves {d e : Device} (a b n s : Byte) (crcRead : List Byte) (h : Moves d e) : Moves d (e.captureIdBlock a b n s crcRead) := by
  unfold Device.captureIdBlock
  repeat' split
  all_goals repeat (with_reducible first | assumption | apply Moves.pin | apply Moves.setCapture)

theorem Device.captureDataBlock_moves {d e : Device} (m : Mark) (raw : List Byte) (h : Moves d e) : Moves d (e.captureDataBlock m raw) := by
  unfold Device.captureDataBlock
  repeat' split
  all_goals repeat (with_reducible first | assumption | apply Moves.pin | apply Moves.setCapture)

theorem Device.capturePositioned_moves {d e : Device} (c : Chan) (h : Moves d e) : Moves d (e.capturePositioned c) := by
  unfold Device.capturePositioned
  repeat' split
  all_goals repeat (with_reducible first | assumption | apply Moves.modChan | apply Moves.setCapture)

theorem Device.driveFault_moves {d e : Device} (c : Chan) (f : FaultRecord) (h : Moves d e) : Moves d (e.driveFault c f) := by
  unfold Device.driveFault
  repeat' split
  all_goals repeat (with_reducible first | assumption | apply Moves.modChan | apply Device.copyCut_moves | apply Device.captureEnd_moves)

theorem Device.insertion_moves {d e : Device} (c : Chan) (h : Moves d e) : Moves d (e.insertion c) := by
  unfold Device.insertion
  dsimp only
  repeat' split
  all_goals repeat (with_reducible first | assumption | apply Moves.modChan | apply Moves.pin | apply Device.enterLoaded_moves)

theorem Device.removal_moves {d e : Device} (c : Chan) (h : Moves d e) : Moves d (e.removal c) := by
  unfold Device.removal
  dsimp only
  repeat' split
  all_goals repeat (with_reducible first | assumption | apply Moves.modChan | apply Moves.pin | apply Device.enterIdle_moves | apply Device.completeEject_moves | apply Device.copyCut_moves | apply Device.captureEnd_moves)

theorem Device.measured_moves {d e : Device} (c : Chan) (p : Nat) (h : Moves d e) : Moves d (e.measured c p) := by
  unfold Device.measured
  repeat' split
  all_goals repeat (with_reducible first | assumption | apply Moves.modChan | apply Device.driveFault_moves)

theorem Device.pulseTaken_moves {d e : Device} (c : Chan) (t : Nat) (h : Moves d e) : Moves d (e.pulseTaken c t) := by
  unfold Device.pulseTaken
  dsimp only
  repeat' split
  all_goals repeat (with_reducible first | assumption | apply Moves.modChan | apply Moves.pin | apply Device.copyPulse_moves | apply Device.capturePulse_moves | apply Device.measured_moves)

theorem Device.indexPulse_moves {d e : Device} (c : Chan) (t : Nat) (h : Moves d e) : Moves d (e.indexPulse c t) := by
  unfold Device.indexPulse
  repeat' split
  all_goals repeat (with_reducible first | assumption | apply Device.pulseTaken_moves)

theorem Device.budgetPulse_moves {d e : Device} (c : Chan) (h : Moves d e) : Moves d (e.budgetPulse c) := by
  unfold Device.budgetPulse
  repeat' split
  all_goals repeat (with_reducible first | assumption | apply Device.indexPulse_moves)

theorem Device.spinUpExpired_moves {d e : Device} (c : Chan) (h : Moves d e) : Moves d (e.spinUpExpired c) := by
  unfold Device.spinUpExpired
  repeat' split
  all_goals repeat (with_reducible first | assumption | apply Moves.modChan | apply Moves.pin)

theorem Device.indexExpired_moves {d e : Device} (c : Chan) (h : Moves d e) : Moves d (e.indexExpired c) := by
  unfold Device.indexExpired
  repeat' split
  all_goals repeat (with_reducible first | assumption | apply Device.driveFault_moves)

theorem Device.stepExpired_moves {d e : Device} (c : Chan) (h : Moves d e) : Moves d (e.stepExpired c) := by
  unfold Device.stepExpired
  repeat' split
  all_goals repeat (with_reducible first | assumption | apply Moves.modChan | apply Device.driveFault_moves)

theorem Device.noTrack0Expired_moves {d e : Device} (c : Chan) (h : Moves d e) : Moves d (e.noTrack0Expired c) := by
  unfold Device.noTrack0Expired
  repeat' split
  all_goals repeat (with_reducible first | assumption | apply Device.stepExpired_moves)

theorem Device.calibrationDone_moves {d e : Device} (c : Chan) (h : Moves d e) : Moves d (e.calibrationDone c) := by
  unfold Device.calibrationDone
  repeat' split
  all_goals repeat (with_reducible first | assumption | apply Device.enterCopying_moves | apply Device.enterCapturing_moves)

theorem Device.positioned_moves {d e : Device} (c : Chan) (h : Moves d e) : Moves d (e.positioned c) := by
  unfold Device.positioned
  repeat' split
  all_goals repeat (with_reducible first | assumption | apply Moves.modChan | apply Device.capturePositioned_moves)

theorem Device.settleExpired_moves {d e : Device} (c : Chan) (h : Moves d e) : Moves d (e.settleExpired c) := by
  unfold Device.settleExpired
  dsimp only
  repeat' split
  all_goals repeat (with_reducible first | assumption | apply Moves.modChan | apply Device.calibrationDone_moves | apply Device.positioned_moves)

theorem Device.feedExpired_moves {d e : Device} (c : Chan) (h : Moves d e) : Moves d (e.feedExpired c) := by
  unfold Device.feedExpired
  repeat' split
  all_goals repeat (with_reducible first | assumption | apply Moves.modChan | apply Moves.alert)

theorem Device.ejectExpired_moves {d e : Device} (c : Chan) (h : Moves d e) : Moves d (e.ejectExpired c) := by
  unfold Device.ejectExpired
  repeat' split
  all_goals repeat (with_reducible first | assumption | apply Moves.modChan | apply Moves.alert)

theorem Device.idBlockRead_moves {d e : Device} (c : Chan) (a b n s : Byte) (crcRead : List Byte) (h : Moves d e) : Moves d (e.idBlockRead c a b n s crcRead) := by
  unfold Device.idBlockRead
  repeat' split
  all_goals repeat (with_reducible first | assumption | apply Moves.pin | apply Device.copyIdBlock_moves | apply Device.captureIdBlock_moves)

theorem Device.dataBlockRead_moves {d e : Device} (c : Chan) (m : Mark) (raw : List Byte) (h : Moves d e) : Moves d (e.dataBlockRead c m raw) := by
  unfold Device.dataBlockRead
  repeat' split
  all_goals repeat (with_reducible first | assumption | apply Moves.pin | apply Device.copyDataBlock_moves | apply Device.captureDataBlock_moves)

theorem Device.enterService_moves {d e : Device} (c : Chan) (h : Moves d e) : Moves d (e.enterService c) := by
  unfold Device.enterService
  repeat' split
  all_goals repeat (with_reducible first | assumption | apply Device.enterIdle_moves | apply Device.enterLoaded_moves)

theorem Device.reconsider_moves {d e : Device} (c : Chan) (h : Moves d e) : Moves d (e.reconsider c) := by
  unfold Device.reconsider
  repeat (with_reducible first | assumption | apply Device.answerSignal_moves)

theorem Device.resumeCopy_moves {d e : Device} (c : Chan) (h : Moves d e) : Moves d (e.resumeCopy c) := by
  unfold Device.resumeCopy
  repeat (with_reducible first | assumption | apply Moves.modChan | apply Device.beginNext_moves)

theorem Device.released_moves {d e : Device} (c : Chan) (h : Moves d e) : Moves d (e.released c) := by
  unfold Device.released
  dsimp only
  repeat' split
  all_goals repeat (with_reducible first | assumption | apply Moves.modChan | apply Device.reconsider_moves | apply Device.resumeCopy_moves)

theorem Device.afterResume_moves {d e : Device} (l : LotNo) (h : Moves d e) : Moves d (e.afterResume l) := by
  unfold Device.afterResume
  repeat' split
  all_goals repeat (with_reducible first | assumption | apply Moves.lotNotice | apply Device.signalOpen_moves)

theorem Device.startCapture_moves {d e : Device} (c : Chan) (i : ImageNo) (f l k : Nat) (h : Moves d e) : Moves d (e.startCapture c i f l k) := by
  unfold Device.startCapture
  repeat (with_reducible first | assumption | apply Moves.modChan | apply Moves.pin | apply Moves.setImage | apply Moves.setCapture)

theorem Device.abortCapture_moves {d e : Device} (h : Moves d e) : Moves d (e.abortCapture) := by
  unfold Device.abortCapture
  repeat' split
  all_goals repeat (with_reducible first | assumption | apply Device.captureEnd_moves)

end Sys2Proof.Machine
end

