-- ==== Sys2Proof/Laws/Ports.lean ====
section
/-! SUPPORT. The events of the bays, the timers, the lots and the engines do not read the request port: each gives the same whatever
stands there (`Device.withPort`). -/

namespace Sys2Proof.Machine

/-- The part with another port state. -/
def Device.withPort (d : Device) (p : Port) : Device := { d with port := p }

@[simp] theorem Device.withPort_store (d : Device) (p : Port) : (d.withPort p).store = d.store := rfl
@[simp] theorem Device.withPort_profiles (d : Device) (p : Port) : (d.withPort p).profiles = d.profiles := rfl
@[simp] theorem Device.withPort_lots (d : Device) (p : Port) : (d.withPort p).lots = d.lots := rfl
@[simp] theorem Device.withPort_channels (d : Device) (p : Port) : (d.withPort p).channels = d.channels := rfl
@[simp] theorem Device.withPort_capture (d : Device) (p : Port) : (d.withPort p).capture = d.capture := rfl
@[simp] theorem Device.withPort_notices (d : Device) (p : Port) : (d.withPort p).notices = d.notices := rfl
@[simp] theorem Device.withPort_resetInput (d : Device) (p : Port) : (d.withPort p).resetInput = d.resetInput := rfl
@[simp] theorem Device.withPort_freeCount (d : Device) (p : Port) : (d.withPort p).freeCount = d.freeCount := rfl
@[simp] theorem Device.withPort_port (d : Device) (p : Port) : (d.withPort p).port = p := rfl
@[simp] theorem Device.withPort_chan (d : Device) (p : Port) (c : Chan) : (d.withPort p).chan c = d.chan c := rfl
@[simp] theorem Device.withPort_lot (d : Device) (p : Port) (l : LotNo) : (d.withPort p).lot l = d.lot l := rfl
@[simp] theorem Device.withPort_image (d : Device) (p : Port) (i : ImageNo) : (d.withPort p).image i = d.image i := rfl
@[simp] theorem Device.withPort_profile (d : Device) (p : Port) (n : ProfileNo) : (d.withPort p).profile n = d.profile n := rfl
@[simp] theorem Device.withPort_feedCondition (d : Device) (p : Port) (c : Chan) : (d.withPort p).feedCondition c = d.feedCondition c := rfl
@[simp] theorem Device.withPort_admissionLot (d : Device) (p : Port) (c : Chan) : (d.withPort p).admissionLot c = d.admissionLot c := rfl
@[simp] theorem Device.withPort_assigned (d : Device) (p : Port) (l : LotNo) : (d.withPort p).assigned l = d.assigned l := rfl
@[simp] theorem Device.withPort_captureRate (d : Device) (p : Port) : (d.withPort p).captureRate = d.captureRate := rfl
@[simp] theorem Device.withPort_budgetDue (d : Device) (p : Port) (c : Chan) : (d.withPort p).budgetDue c = d.budgetDue c := rfl
@[simp] theorem Device.withPort_noTrack0Due (d : Device) (p : Port) (c : Chan) : (d.withPort p).noTrack0Due c = d.noTrack0Due c := rfl
@[simp] theorem Device.modChan_withPort (d : Device) (p : Port) (c : Chan) (f : Channel → Channel) :
    (d.withPort p).modChan c f = (d.modChan c f).withPort p := rfl
@[simp] theorem Device.setCtx_withPort (d : Device) (p : Port) (c : Chan) (x : CopyContext) :
    (d.withPort p).setCtx c x = (d.setCtx c x).withPort p := rfl
@[simp] theorem Device.beginEject_withPort (d : Device) (p : Port) (c : Chan) (b : Bin) :
    (d.withPort p).beginEject c b = (d.beginEject c b).withPort p := rfl
@[simp] theorem Device.sample_withPort (d : Device) (p : Port) (c : Chan) (l : Lines) :
    (d.withPort p).sample c l = (d.sample c l).withPort p := rfl
@[simp] theorem Device.pin_withPort (d : Device) (p : Port) (i : ImageNo) :
    (d.withPort p).pin i = (d.pin i).withPort p := rfl
@[simp] theorem Device.setChan_withPort (d : Device) (p : Port) (c : Chan) (x : Channel) :
    (d.withPort p).setChan c x = (d.setChan c x).withPort p := rfl
@[simp] theorem Device.setLot_withPort (d : Device) (p : Port) (l : LotNo) (x : Lot) :
    (d.withPort p).setLot l x = (d.setLot l x).withPort p := rfl
@[simp] theorem Device.setImage_withPort (d : Device) (p : Port) (i : ImageNo) (x : Image) :
    (d.withPort p).setImage i x = (d.setImage i x).withPort p := rfl
@[simp] theorem Device.notify_withPort (d : Device) (p : Port) (k : Nat) :
    (d.withPort p).notify k = (d.notify k).withPort p := rfl
@[simp] theorem Device.setCapture_withPort (d : Device) (p : Port) (x : CaptureContext) :
    (d.withPort p).setCapture x = (d.setCapture x).withPort p := rfl
@[simp] theorem Device.ite_withPort (d e : Device) (p : Port) (q : Prop) [Decidable q] :
    (if q then d.withPort p else e.withPort p) = (if q then d else e).withPort p := by
  split <;> rfl

@[simp] theorem Device.evalFeed_withPort (d : Device) (p : Port) (c : Chan) :
    (d.withPort p).evalFeed c = (d.evalFeed c).withPort p := by
  unfold Device.evalFeed
  dsimp only [Device.withPort_chan, Device.withPort_lot, Device.withPort_image, Device.withPort_capture,
    Device.withPort_store, Device.withPort_feedCondition, Device.withPort_admissionLot, Device.withPort_budgetDue,
    Device.withPort_noTrack0Due, Device.withPort_captureRate]
  repeat' split
  all_goals first
    | rfl
    | (simp; done)
    | (rename_i h; refine (if_pos h).trans ?_; first | rfl | (simp; done))
    | (rename_i h; refine (if_neg h).trans ?_; first | rfl | (simp; done))

@[simp] theorem Device.enterIdle_withPort (d : Device) (p : Port) (c : Chan) :
    (d.withPort p).enterIdle c = (d.enterIdle c).withPort p := by
  unfold Device.enterIdle
  first
  | rfl
  | (simp; done)

@[simp] theorem Device.completeEject_withPort (d : Device) (p : Port) (c : Chan) :
    (d.withPort p).completeEject c = (d.completeEject c).withPort p := by
  unfold Device.completeEject
  dsimp only [Device.withPort_chan, Device.withPort_lot, Device.withPort_image, Device.withPort_capture,
    Device.withPort_store, Device.withPort_feedCondition, Device.withPort_admissionLot, Device.withPort_budgetDue,
    Device.withPort_noTrack0Due, Device.withPort_captureRate]
  repeat' split
  all_goals first
    | rfl
    | (simp; done)
    | (rename_i h; refine (if_pos h).trans ?_; first | rfl | (simp; done))
    | (rename_i h; refine (if_neg h).trans ?_; first | rfl | (simp; done))

@[simp] theorem Device.protectedReject_withPort (d : Device) (p : Port) (c : Chan) (l : LotNo) :
    (d.withPort p).protectedReject c l = (d.protectedReject c l).withPort p := by
  unfold Device.protectedReject
  first
  | rfl

@[simp] theorem Device.requestAdmission_withPort (d : Device) (p : Port) (c : Chan) (l : LotNo) :
    (d.withPort p).requestAdmission c l = (d.requestAdmission c l).withPort p := by
  unfold Device.requestAdmission
  dsimp only [Device.withPort_chan, Device.withPort_lot, Device.withPort_image, Device.withPort_capture,
    Device.withPort_store, Device.withPort_feedCondition, Device.withPort_admissionLot, Device.withPort_budgetDue,
    Device.withPort_noTrack0Due, Device.withPort_captureRate]
  repeat' split
  all_goals first
    | rfl
    | (simp; done)
    | (rename_i h; refine (if_pos h).trans ?_; first | rfl | (simp; done))
    | (rename_i h; refine (if_neg h).trans ?_; first | rfl | (simp; done))

@[simp] theorem Device.admissionPoint_withPort (d : Device) (p : Port) (c : Chan) :
    (d.withPort p).admissionPoint c = (d.admissionPoint c).withPort p := by
  unfold Device.admissionPoint
  dsimp only [Device.withPort_chan, Device.withPort_lot, Device.withPort_image, Device.withPort_capture,
    Device.withPort_store, Device.withPort_feedCondition, Device.withPort_admissionLot, Device.withPort_budgetDue,
    Device.withPort_noTrack0Due, Device.withPort_captureRate]
  repeat' split
  all_goals first
    | rfl
    | (simp; done)
    | (rename_i h; refine (if_pos h).trans ?_; first | rfl | (simp; done))
    | (rename_i h; refine (if_neg h).trans ?_; first | rfl | (simp; done))

@[simp] theorem Device.enterLoaded_withPort (d : Device) (p : Port) (c : Chan) :
    (d.withPort p).enterLoaded c = (d.enterLoaded c).withPort p := by
  unfold Device.enterLoaded
  first
  | rfl
  | (simp; done)

@[simp] theorem Device.answerSignal_withPort (d : Device) (p : Port) (c : Chan) :
    (d.withPort p).answerSignal c = (d.answerSignal c).withPort p := by
  unfold Device.answerSignal
  dsimp only [Device.withPort_chan, Device.withPort_lot, Device.withPort_image, Device.withPort_capture,
    Device.withPort_store, Device.withPort_feedCondition, Device.withPort_admissionLot, Device.withPort_budgetDue,
    Device.withPort_noTrack0Due, Device.withPort_captureRate]
  repeat' split
  all_goals first
    | rfl
    | (simp; done)

@[simp] theorem Device.signalOpen_withPort (d : Device) (p : Port) (l : LotNo) :
    (d.withPort p).signalOpen l = (d.signalOpen l).withPort p := by
  unfold Device.signalOpen
  have fold : ∀ (cs : List Chan) (g : Device),
      cs.foldl Device.answerSignal (g.withPort p) = (cs.foldl Device.answerSignal g).withPort p := by
    intro cs
    induction cs with
    | nil => intro g; rfl
    | cons c cs ih => intro g; simp only [List.foldl_cons, Device.answerSignal_withPort, ih]
  exact fold _ { d with freeCount := d.freeCount + 1 }

@[simp] theorem Device.unpin_withPort (d : Device) (p : Port) (i : ImageNo) :
    (d.withPort p).unpin i = (d.unpin i).withPort p := by
  unfold Device.unpin
  have e : (d.withPort p).unpin i = (d.unpin i).withPort p := by
    unfold Device.unpin
    dsimp only
    by_cases h : (d.image i).state = .retiring ∧
        ((d.setImage i { d.image i with pins := (d.image i).pins - 1 }).image i).pins = 0
    · rw [if_pos h, if_pos (by exact h)]; rfl
    · rw [if_neg h, if_neg (by exact h)]; rfl
  exact e

@[simp] theorem Device.accountEnd_withPort (d : Device) (p : Port) (l : LotNo) (o : CopyOutcome) (n : Option Nat) :
    (d.withPort p).accountEnd l o n = (d.accountEnd l o n).withPort p := by
  unfold Device.accountEnd
  dsimp only [Device.withPort_chan, Device.withPort_lot, Device.withPort_image, Device.withPort_capture,
    Device.withPort_store, Device.withPort_feedCondition, Device.withPort_admissionLot, Device.withPort_budgetDue,
    Device.withPort_noTrack0Due, Device.withPort_captureRate]
  repeat' split
  all_goals first
    | rfl
    | (simp; done)
    | (rename_i h; refine (if_pos h).trans ?_; first | rfl | (simp; done))
    | (rename_i h; refine (if_neg h).trans ?_; first | rfl | (simp; done))

@[simp] theorem Device.copyEnd_withPort (d : Device) (p : Port) (c : Chan) (o : CopyOutcome) (k : Option Key) :
    (d.withPort p).copyEnd c o k = (d.copyEnd c o k).withPort p := by
  unfold Device.copyEnd
  cases hx : (d.chan c).ctx with
  | none => simp only [Device.withPort_chan, hx]
  | some x =>
    simp only [Device.withPort_chan, hx, Device.withPort_lot, Device.accountEnd_withPort, Device.unpin_withPort,
      Device.modChan_withPort, Device.notify_withPort]
    generalize (((d.accountEnd x.lot o x.serial).unpin x.image).modChan c fun ch =>
      { ch.stopDrive with last := some (ch.closingOutcome x o k), work := .none, ctx := none }).notify (noticeChDone c) = e
    generalize (d.lot x.lot).signalAtEnd o x.serial = b
    by_cases ho : o = .reject .mediaLost
    · rw [if_pos ho, if_pos ho]
      cases b <;> simp
    · rw [if_neg ho, if_neg ho]
      cases b <;> simp

@[simp] theorem Device.copyCut_withPort (d : Device) (p : Port) (c : Chan) (r : RejectReason) :
    (d.withPort p).copyCut c r = (d.copyCut c r).withPort p := by
  unfold Device.copyCut
  first
  | rfl
  | (simp; done)

@[simp] theorem Device.beginTrack_withPort (d : Device) (p : Port) (c : Chan) (k : Key) :
    (d.withPort p).beginTrack c k = (d.beginTrack c k).withPort p := by
  unfold Device.beginTrack
  dsimp only [Device.withPort_chan, Device.withPort_lot, Device.withPort_image, Device.withPort_capture,
    Device.withPort_store, Device.withPort_feedCondition, Device.withPort_admissionLot, Device.withPort_budgetDue,
    Device.withPort_noTrack0Due, Device.withPort_captureRate]
  repeat' split
  all_goals first
    | rfl
    | (simp; done)

@[simp] theorem Device.enterCopying_withPort (d : Device) (p : Port) (c : Chan) :
    (d.withPort p).enterCopying c = (d.enterCopying c).withPort p := by
  unfold Device.enterCopying
  first
  | rfl
  | (simp; done)

@[simp] theorem Device.beginNext_withPort (d : Device) (p : Port) (c : Chan) :
    (d.withPort p).beginNext c = (d.beginNext c).withPort p := by
  unfold Device.beginNext
  dsimp only [Device.withPort_chan, Device.withPort_lot, Device.withPort_image, Device.withPort_capture,
    Device.withPort_store, Device.withPort_feedCondition, Device.withPort_admissionLot, Device.withPort_budgetDue,
    Device.withPort_noTrack0Due, Device.withPort_captureRate]
  repeat' split
  all_goals first
    | rfl
    | (simp; done)

@[simp] theorem Device.trackDone_withPort (d : Device) (p : Port) (c : Chan) :
    (d.withPort p).trackDone c = (d.trackDone c).withPort p := by
  unfold Device.trackDone
  dsimp only [Device.withPort_chan, Device.withPort_lot, Device.withPort_image, Device.withPort_capture,
    Device.withPort_store, Device.withPort_feedCondition, Device.withPort_admissionLot, Device.withPort_budgetDue,
    Device.withPort_noTrack0Due, Device.withPort_captureRate]
  repeat' split
  all_goals first
    | rfl
    | (simp; done)
    | (rename_i h; refine (if_pos h).trans ?_; first | rfl | (simp; done))
    | (rename_i h; refine (if_neg h).trans ?_; first | rfl | (simp; done))

@[simp] theorem Device.timeLimit_withPort (d : Device) (p : Port) (c : Chan) (x : CopyContext) :
    (d.withPort p).timeLimit c x = (d.timeLimit c x).withPort p := by
  unfold Device.timeLimit
  first
  | rfl
  | (simp; done)

@[simp] theorem Device.passFailed_withPort (d : Device) (p : Port) (c : Chan) (x : CopyContext) (f : VerifyFault) :
    (d.withPort p).passFailed c x f = (d.passFailed c x f).withPort p := by
  unfold Device.passFailed
  dsimp only [Device.withPort_chan, Device.withPort_lot, Device.withPort_image, Device.withPort_capture,
    Device.withPort_store, Device.withPort_feedCondition, Device.withPort_admissionLot, Device.withPort_budgetDue,
    Device.withPort_noTrack0Due, Device.withPort_captureRate]
  repeat' split
  all_goals first
    | rfl
    | (simp; done)

@[simp] theorem Device.endVerify_withPort (d : Device) (p : Port) (c : Chan) (x : CopyContext) :
    (d.withPort p).endVerify c x = (d.endVerify c x).withPort p := by
  unfold Device.endVerify
  repeat' split
  all_goals first
    | rfl
    | (simp; done)

@[simp] theorem Device.endWrite_withPort (d : Device) (p : Port) (c : Chan) (x : CopyContext) :
    (d.withPort p).endWrite c x = (d.endWrite c x).withPort p := by
  unfold Device.endWrite
  dsimp only [Device.withPort_chan, Device.withPort_lot, Device.withPort_image, Device.withPort_capture,
    Device.withPort_store, Device.withPort_feedCondition, Device.withPort_admissionLot, Device.withPort_budgetDue,
    Device.withPort_noTrack0Due, Device.withPort_captureRate]
  repeat' split
  all_goals first
    | rfl
    | (simp; done)

@[simp] theorem Device.copyPulse_withPort (d : Device) (p : Port) (c : Chan) :
    (d.withPort p).copyPulse c = (d.copyPulse c).withPort p := by
  unfold Device.copyPulse
  dsimp only [Device.withPort_chan, Device.withPort_lot, Device.withPort_image, Device.withPort_capture,
    Device.withPort_store, Device.withPort_feedCondition, Device.withPort_admissionLot, Device.withPort_budgetDue,
    Device.withPort_noTrack0Due, Device.withPort_captureRate]
  repeat' split
  all_goals first
    | rfl
    | (simp; done)

@[simp] theorem Device.copyIdBlock_withPort (d : Device) (p : Port) (c : Chan) (id crcRead : List Byte) :
    (d.withPort p).copyIdBlock c id crcRead = (d.copyIdBlock c id crcRead).withPort p := by
  unfold Device.copyIdBlock
  dsimp only [Device.withPort_chan, Device.withPort_lot, Device.withPort_image, Device.withPort_capture,
    Device.withPort_store, Device.withPort_feedCondition, Device.withPort_admissionLot, Device.withPort_budgetDue,
    Device.withPort_noTrack0Due, Device.withPort_captureRate]
  repeat' split
  all_goals first
    | rfl

@[simp] theorem Device.copyDataBlock_withPort (d : Device) (p : Port) (c : Chan) (m : Mark) (raw : List Byte) :
    (d.withPort p).copyDataBlock c m raw = (d.copyDataBlock c m raw).withPort p := by
  unfold Device.copyDataBlock
  dsimp only [Device.withPort_chan, Device.withPort_lot, Device.withPort_image, Device.withPort_capture,
    Device.withPort_store, Device.withPort_feedCondition, Device.withPort_admissionLot, Device.withPort_budgetDue,
    Device.withPort_noTrack0Due, Device.withPort_captureRate]
  repeat' split
  all_goals first
    | rfl

@[simp] theorem Device.clearOwner_withPort (d : Device) (p : Port) (i : Option ImageNo) :
    (d.withPort p).clearOwner i = (d.clearOwner i).withPort p := by
  unfold Device.clearOwner
  dsimp only [Device.withPort_chan, Device.withPort_lot, Device.withPort_image, Device.withPort_capture,
    Device.withPort_store, Device.withPort_feedCondition, Device.withPort_admissionLot, Device.withPort_budgetDue,
    Device.withPort_noTrack0Due, Device.withPort_captureRate]
  repeat' split
  all_goals first
    | rfl

@[simp] theorem Device.captureChannelEnd_withPort (d : Device) (p : Port) (c : Chan) (r : EndReason) :
    (d.withPort p).captureChannelEnd c r = (d.captureChannelEnd c r).withPort p := by
  unfold Device.captureChannelEnd
  dsimp only [Device.withPort_chan, Device.withPort_lot, Device.withPort_image, Device.withPort_capture,
    Device.withPort_store, Device.withPort_feedCondition, Device.withPort_admissionLot, Device.withPort_budgetDue,
    Device.withPort_noTrack0Due, Device.withPort_captureRate]
  repeat' split
  all_goals first
    | rfl
    | (simp; done)

@[simp] theorem Device.captureEnd_withPort (d : Device) (p : Port) (c : Chan) (r : EndReason) :
    (d.withPort p).captureEnd c r = (d.captureEnd c r).withPort p := by
  unfold Device.captureEnd
  first
  | rfl
  | (simp; done)

@[simp] theorem Device.beginKey_withPort (d : Device) (p : Port) (c : Chan) (k : Key) :
    (d.withPort p).beginKey c k = (d.beginKey c k).withPort p := by
  unfold Device.beginKey
  dsimp only [Device.withPort_chan, Device.withPort_lot, Device.withPort_image, Device.withPort_capture,
    Device.withPort_store, Device.withPort_feedCondition, Device.withPort_admissionLot, Device.withPort_budgetDue,
    Device.withPort_noTrack0Due, Device.withPort_captureRate]
  repeat' split
  all_goals first
    | rfl
    | (simp; done)
    | (rename_i h; refine (if_pos h).trans ?_; first | rfl | (simp; done))
    | (rename_i h; refine (if_neg h).trans ?_; first | rfl | (simp; done))

@[simp] theorem Device.enterCapturing_withPort (d : Device) (p : Port) (c : Chan) :
    (d.withPort p).enterCapturing c = (d.enterCapturing c).withPort p := by
  unfold Device.enterCapturing
  first
  | rfl
  | (simp; done)

@[simp] theorem Device.keySettled_withPort (d : Device) (p : Port) (c : Chan) :
    (d.withPort p).keySettled c = (d.keySettled c).withPort p := by
  unfold Device.keySettled
  dsimp only [Device.withPort_chan, Device.withPort_lot, Device.withPort_image, Device.withPort_capture,
    Device.withPort_store, Device.withPort_feedCondition, Device.withPort_admissionLot, Device.withPort_budgetDue,
    Device.withPort_noTrack0Due, Device.withPort_captureRate]
  repeat' split
  all_goals first
    | rfl
    | (simp; done)

@[simp] theorem Device.keyFailed_withPort (d : Device) (p : Port) (c : Chan) (r : FailReason) :
    (d.withPort p).keyFailed c r = (d.keyFailed c r).withPort p := by
  unfold Device.keyFailed
  first
  | rfl
  | (simp; done)

@[simp] theorem Device.judgeScan_withPort (d : Device) (p : Port) (c : Chan) :
    (d.withPort p).judgeScan c = (d.judgeScan c).withPort p := by
  unfold Device.judgeScan
  dsimp only [Device.withPort_chan, Device.withPort_lot, Device.withPort_image, Device.withPort_capture,
    Device.withPort_store, Device.withPort_feedCondition, Device.withPort_admissionLot, Device.withPort_budgetDue,
    Device.withPort_noTrack0Due, Device.withPort_captureRate]
  repeat' split
  all_goals first
    | rfl
    | (simp; done)
    | (rename_i h; refine (if_pos h).trans ?_; first | rfl | (simp; done))
    | (rename_i h; refine (if_neg h).trans ?_; first | rfl | (simp; done))

@[simp] theorem Device.installCapture_withPort (d : Device) (p : Port) (c : Chan) :
    (d.withPort p).installCapture c = (d.installCapture c).withPort p := by
  unfold Device.installCapture
  dsimp only [Device.withPort_capture, Device.withPort_store, Device.withPort_image]
  split
  · split
    · simp
    · exact Device.keySettled_withPort (({ d with store := _ } : Device).setCapture _) p c
  · rfl

@[simp] theorem Device.judgeRead_withPort (d : Device) (p : Port) (c : Chan) :
    (d.withPort p).judgeRead c = (d.judgeRead c).withPort p := by
  unfold Device.judgeRead
  dsimp only [Device.withPort_chan, Device.withPort_lot, Device.withPort_image, Device.withPort_capture,
    Device.withPort_store, Device.withPort_feedCondition, Device.withPort_admissionLot, Device.withPort_budgetDue,
    Device.withPort_noTrack0Due, Device.withPort_captureRate]
  repeat' split
  all_goals first
    | rfl
    | (simp; done)
    | (rename_i h; refine (if_pos h).trans ?_; first | rfl | (simp; done))
    | (rename_i h; refine (if_neg h).trans ?_; first | rfl | (simp; done))

@[simp] theorem Device.capturePulse_withPort (d : Device) (p : Port) (c : Chan) :
    (d.withPort p).capturePulse c = (d.capturePulse c).withPort p := by
  unfold Device.capturePulse
  dsimp only [Device.withPort_chan, Device.withPort_lot, Device.withPort_image, Device.withPort_capture,
    Device.withPort_store, Device.withPort_feedCondition, Device.withPort_admissionLot, Device.withPort_budgetDue,
    Device.withPort_noTrack0Due, Device.withPort_captureRate]
  repeat' split
  all_goals first
    | rfl
    | (simp; done)

@[simp] theorem Device.captureIdBlock_withPort (d : Device) (p : Port) (a b n s : Byte) (crcRead : List Byte) :
    (d.withPort p).captureIdBlock a b n s crcRead = (d.captureIdBlock a b n s crcRead).withPort p := by
  unfold Device.captureIdBlock
  dsimp only [Device.withPort_chan, Device.withPort_lot, Device.withPort_image, Device.withPort_capture,
    Device.withPort_store, Device.withPort_feedCondition, Device.withPort_admissionLot, Device.withPort_budgetDue,
    Device.withPort_noTrack0Due, Device.withPort_captureRate]
  repeat' split
  all_goals first
    | rfl

@[simp] theorem Device.captureDataBlock_withPort (d : Device) (p : Port) (m : Mark) (raw : List Byte) :
    (d.withPort p).captureDataBlock m raw = (d.captureDataBlock m raw).withPort p := by
  unfold Device.captureDataBlock
  dsimp only [Device.withPort_chan, Device.withPort_lot, Device.withPort_image, Device.withPort_capture,
    Device.withPort_store, Device.withPort_feedCondition, Device.withPort_admissionLot, Device.withPort_budgetDue,
    Device.withPort_noTrack0Due, Device.withPort_captureRate]
  repeat' split
  all_goals first
    | rfl

@[simp] theorem Device.capturePositioned_withPort (d : Device) (p : Port) (c : Chan) :
    (d.withPort p).capturePositioned c = (d.capturePositioned c).withPort p := by
  unfold Device.capturePositioned
  dsimp only [Device.withPort_chan, Device.withPort_lot, Device.withPort_image, Device.withPort_capture,
    Device.withPort_store, Device.withPort_feedCondition, Device.withPort_admissionLot, Device.withPort_budgetDue,
    Device.withPort_noTrack0Due, Device.withPort_captureRate]
  repeat' split
  all_goals first
    | rfl

@[simp] theorem Device.driveFault_withPort (d : Device) (p : Port) (c : Chan) (f : FaultRecord) :
    (d.withPort p).driveFault c f = (d.driveFault c f).withPort p := by
  unfold Device.driveFault
  dsimp only [Device.withPort_chan, Device.withPort_lot, Device.withPort_image, Device.withPort_capture,
    Device.withPort_store, Device.withPort_feedCondition, Device.withPort_admissionLot, Device.withPort_budgetDue,
    Device.withPort_noTrack0Due, Device.withPort_captureRate]
  repeat' split
  all_goals first
    | rfl
    | (simp; done)

@[simp] theorem Device.insertion_withPort (d : Device) (p : Port) (c : Chan) :
    (d.withPort p).insertion c = (d.insertion c).withPort p := by
  unfold Device.insertion
  dsimp only [Device.withPort_chan, Device.withPort_lot, Device.withPort_image, Device.withPort_capture,
    Device.withPort_store, Device.withPort_feedCondition, Device.withPort_admissionLot, Device.withPort_budgetDue,
    Device.withPort_noTrack0Due, Device.withPort_captureRate]
  repeat' split
  all_goals first
    | rfl
    | (simp; done)
    | (rename_i h; refine (if_pos h).trans ?_; first | rfl | (simp; done))
    | (rename_i h; refine (if_neg h).trans ?_; first | rfl | (simp; done))
    | (rename_i h; refine (if_neg h).trans ?_; split <;> first | rfl | (simp; done) | (split <;> first | rfl | (simp; done)))

@[simp] theorem Device.removal_withPort (d : Device) (p : Port) (c : Chan) :
    (d.withPort p).removal c = (d.removal c).withPort p := by
  unfold Device.removal
  dsimp only [Device.withPort_chan, Device.withPort_lot, Device.withPort_image, Device.withPort_capture,
    Device.withPort_store, Device.withPort_feedCondition, Device.withPort_admissionLot, Device.withPort_budgetDue,
    Device.withPort_noTrack0Due, Device.withPort_captureRate]
  repeat' split
  all_goals first
    | rfl
    | (simp; done)
    | (rename_i h; refine (if_pos h).trans ?_; first | rfl | (simp; done))
    | (rename_i h; refine (if_neg h).trans ?_; first | rfl | (simp; done))
    | (rename_i h; refine (if_neg h).trans ?_; split <;> first | rfl | (simp; done) | (split <;> first | rfl | (simp; done)))

@[simp] theorem Device.measured_withPort (d : Device) (p : Port) (c : Chan) (t : Nat) :
    (d.withPort p).measured c t = (d.measured c t).withPort p := by
  unfold Device.measured
  split
  · rfl
  · exact Device.driveFault_withPort d p c _

@[simp] theorem Device.pulseTaken_withPort (d : Device) (p : Port) (c : Chan) (t : Nat) :
    (d.withPort p).pulseTaken c t = (d.pulseTaken c t).withPort p := by
  unfold Device.pulseTaken
  dsimp only [Device.withPort_chan, Device.withPort_lot, Device.withPort_image, Device.withPort_capture,
    Device.withPort_store, Device.withPort_feedCondition, Device.withPort_admissionLot, Device.withPort_budgetDue,
    Device.withPort_noTrack0Due, Device.withPort_captureRate]
  repeat' split
  all_goals first
    | rfl
    | (simp; done)

@[simp] theorem Device.indexPulse_withPort (d : Device) (p : Port) (c : Chan) (t : Nat) :
    (d.withPort p).indexPulse c t = (d.indexPulse c t).withPort p := by
  unfold Device.indexPulse
  dsimp only [Device.withPort_chan, Device.withPort_lot, Device.withPort_image, Device.withPort_capture,
    Device.withPort_store, Device.withPort_feedCondition, Device.withPort_admissionLot, Device.withPort_budgetDue,
    Device.withPort_noTrack0Due, Device.withPort_captureRate]
  repeat' split
  all_goals first
    | rfl
    | (simp; done)
    | (rename_i h; refine (if_pos h).trans ?_; first | rfl | (simp; done))
    | (rename_i h; refine (if_neg h).trans ?_; first | rfl | (simp; done))

@[simp] theorem Device.budgetPulse_withPort (d : Device) (p : Port) (c : Chan) :
    (d.withPort p).budgetPulse c = (d.budgetPulse c).withPort p := by
  unfold Device.budgetPulse
  dsimp only [Device.withPort_chan, Device.withPort_lot, Device.withPort_image, Device.withPort_capture,
    Device.withPort_store, Device.withPort_feedCondition, Device.withPort_admissionLot, Device.withPort_budgetDue,
    Device.withPort_noTrack0Due, Device.withPort_captureRate]
  repeat' split
  all_goals first
    | rfl
    | (simp; done)
    | (rename_i h; refine (if_pos h).trans ?_; first | rfl | (simp; done))
    | (rename_i h; refine (if_neg h).trans ?_; first | rfl | (simp; done))

@[simp] theorem Device.spinUpExpired_withPort (d : Device) (p : Port) (c : Chan) :
    (d.withPort p).spinUpExpired c = (d.spinUpExpired c).withPort p := by
  unfold Device.spinUpExpired
  dsimp only [Device.withPort_chan, Device.withPort_lot, Device.withPort_image, Device.withPort_capture,
    Device.withPort_store, Device.withPort_feedCondition, Device.withPort_admissionLot, Device.withPort_budgetDue,
    Device.withPort_noTrack0Due, Device.withPort_captureRate]
  repeat' split
  all_goals first
    | rfl
    | (simp; done)
    | (rename_i h; refine (if_pos h).trans ?_; first | rfl | (simp; done))
    | (rename_i h; refine (if_neg h).trans ?_; first | rfl | (simp; done))

@[simp] theorem Device.indexExpired_withPort (d : Device) (p : Port) (c : Chan) :
    (d.withPort p).indexExpired c = (d.indexExpired c).withPort p := by
  unfold Device.indexExpired
  dsimp only [Device.withPort_chan, Device.withPort_lot, Device.withPort_image, Device.withPort_capture,
    Device.withPort_store, Device.withPort_feedCondition, Device.withPort_admissionLot, Device.withPort_budgetDue,
    Device.withPort_noTrack0Due, Device.withPort_captureRate]
  repeat' split
  all_goals first
    | rfl
    | (simp; done)
    | (rename_i h; refine (if_pos h).trans ?_; first | rfl | (simp; done))
    | (rename_i h; refine (if_neg h).trans ?_; first | rfl | (simp; done))

@[simp] theorem Device.stepExpired_withPort (d : Device) (p : Port) (c : Chan) :
    (d.withPort p).stepExpired c = (d.stepExpired c).withPort p := by
  unfold Device.stepExpired
  dsimp only [Device.withPort_chan]
  split
  · exact (if_pos ‹_›).trans rfl
  · refine (if_neg ‹_›).trans ?_
    split
    · split
      · exact (if_pos ‹_›).trans rfl
      · refine (if_neg ‹_›).trans ?_
        split
        · exact Device.driveFault_withPort d p c _
        · rfl
    · split
      · exact (if_pos ‹_›).trans rfl
      · refine (if_neg ‹_›).trans ?_
        split
        · exact Device.driveFault_withPort d p c _
        · rfl
    · split
      · exact (if_pos ‹_›).trans rfl
      · exact (if_neg ‹_›).trans rfl
    · split
      · exact (if_pos ‹_›).trans rfl
      · exact (if_neg ‹_›).trans rfl
    all_goals rfl

@[simp] theorem Device.noTrack0Expired_withPort (d : Device) (p : Port) (c : Chan) :
    (d.withPort p).noTrack0Expired c = (d.noTrack0Expired c).withPort p := by
  unfold Device.noTrack0Expired
  dsimp only [Device.withPort_chan, Device.withPort_lot, Device.withPort_image, Device.withPort_capture,
    Device.withPort_store, Device.withPort_feedCondition, Device.withPort_admissionLot, Device.withPort_budgetDue,
    Device.withPort_noTrack0Due, Device.withPort_captureRate]
  repeat' split
  all_goals first
    | rfl
    | (simp; done)
    | (rename_i h; refine (if_pos h).trans ?_; first | rfl | (simp; done))
    | (rename_i h; refine (if_neg h).trans ?_; first | rfl | (simp; done))

@[simp] theorem Device.calibrationDone_withPort (d : Device) (p : Port) (c : Chan) :
    (d.withPort p).calibrationDone c = (d.calibrationDone c).withPort p := by
  unfold Device.calibrationDone
  dsimp only [Device.withPort_chan, Device.withPort_lot, Device.withPort_image, Device.withPort_capture,
    Device.withPort_store, Device.withPort_feedCondition, Device.withPort_admissionLot, Device.withPort_budgetDue,
    Device.withPort_noTrack0Due, Device.withPort_captureRate]
  repeat' split
  all_goals first
    | rfl
    | (simp; done)

@[simp] theorem Device.positioned_withPort (d : Device) (p : Port) (c : Chan) :
    (d.withPort p).positioned c = (d.positioned c).withPort p := by
  unfold Device.positioned
  dsimp only [Device.withPort_chan, Device.withPort_lot, Device.withPort_image, Device.withPort_capture,
    Device.withPort_store, Device.withPort_feedCondition, Device.withPort_admissionLot, Device.withPort_budgetDue,
    Device.withPort_noTrack0Due, Device.withPort_captureRate]
  repeat' split
  all_goals first
    | rfl
    | (simp; done)

@[simp] theorem Device.settleExpired_withPort (d : Device) (p : Port) (c : Chan) :
    (d.withPort p).settleExpired c = (d.settleExpired c).withPort p := by
  unfold Device.settleExpired
  dsimp only [Device.withPort_chan, Device.withPort_lot, Device.withPort_image, Device.withPort_capture,
    Device.withPort_store, Device.withPort_feedCondition, Device.withPort_admissionLot, Device.withPort_budgetDue,
    Device.withPort_noTrack0Due, Device.withPort_captureRate]
  repeat' split
  all_goals first
    | rfl
    | (simp; done)
    | (rename_i h; refine (if_pos h).trans ?_; first | rfl | (simp; done))
    | (rename_i h; refine (if_neg h).trans ?_; first | rfl | (simp; done))
    | (rename_i h; refine (if_neg h).trans ?_; split <;> first | rfl | (simp; done) | (split <;> first | rfl | (simp; done)))

@[simp] theorem Device.feedExpired_withPort (d : Device) (p : Port) (c : Chan) :
    (d.withPort p).feedExpired c = (d.feedExpired c).withPort p := by
  unfold Device.feedExpired
  dsimp only [Device.withPort_chan, Device.withPort_lot, Device.withPort_image, Device.withPort_capture,
    Device.withPort_store, Device.withPort_feedCondition, Device.withPort_admissionLot, Device.withPort_budgetDue,
    Device.withPort_noTrack0Due, Device.withPort_captureRate]
  repeat' split
  all_goals first
    | rfl
    | (simp; done)
    | (rename_i h; refine (if_pos h).trans ?_; first | rfl | (simp; done))
    | (rename_i h; refine (if_neg h).trans ?_; first | rfl | (simp; done))

@[simp] theorem Device.ejectExpired_withPort (d : Device) (p : Port) (c : Chan) :
    (d.withPort p).ejectExpired c = (d.ejectExpired c).withPort p := by
  unfold Device.ejectExpired
  dsimp only [Device.withPort_chan, Device.withPort_lot, Device.withPort_image, Device.withPort_capture,
    Device.withPort_store, Device.withPort_feedCondition, Device.withPort_admissionLot, Device.withPort_budgetDue,
    Device.withPort_noTrack0Due, Device.withPort_captureRate]
  repeat' split
  all_goals first
    | rfl
    | (simp; done)
    | (rename_i h; refine (if_pos h).trans ?_; first | rfl | (simp; done))
    | (rename_i h; refine (if_neg h).trans ?_; first | rfl | (simp; done))

@[simp] theorem Device.idBlockRead_withPort (d : Device) (p : Port) (c : Chan) (a b n s : Byte) (crcRead : List Byte) :
    (d.withPort p).idBlockRead c a b n s crcRead = (d.idBlockRead c a b n s crcRead).withPort p := by
  unfold Device.idBlockRead
  dsimp only [Device.withPort_chan, Device.withPort_lot, Device.withPort_image, Device.withPort_capture,
    Device.withPort_store, Device.withPort_feedCondition, Device.withPort_admissionLot, Device.withPort_budgetDue,
    Device.withPort_noTrack0Due, Device.withPort_captureRate]
  repeat' split
  all_goals first
    | rfl
    | (simp; done)

@[simp] theorem Device.dataBlockRead_withPort (d : Device) (p : Port) (c : Chan) (m : Mark) (raw : List Byte) :
    (d.withPort p).dataBlockRead c m raw = (d.dataBlockRead c m raw).withPort p := by
  unfold Device.dataBlockRead
  dsimp only [Device.withPort_chan, Device.withPort_lot, Device.withPort_image, Device.withPort_capture,
    Device.withPort_store, Device.withPort_feedCondition, Device.withPort_admissionLot, Device.withPort_budgetDue,
    Device.withPort_noTrack0Due, Device.withPort_captureRate]
  repeat' split
  all_goals first
    | rfl
    | (simp; done)

@[simp] theorem Device.enterService_withPort (d : Device) (p : Port) (c : Chan) :
    (d.withPort p).enterService c = (d.enterService c).withPort p := by
  unfold Device.enterService
  dsimp only [Device.withPort_chan, Device.withPort_lot, Device.withPort_image, Device.withPort_capture,
    Device.withPort_store, Device.withPort_feedCondition, Device.withPort_admissionLot, Device.withPort_budgetDue,
    Device.withPort_noTrack0Due, Device.withPort_captureRate]
  repeat' split
  all_goals first
    | rfl
    | (simp; done)
    | (rename_i h; refine (if_pos h).trans ?_; first | rfl | (simp; done))
    | (rename_i h; refine (if_neg h).trans ?_; first | rfl | (simp; done))

@[simp] theorem Device.reconsider_withPort (d : Device) (p : Port) (c : Chan) :
    (d.withPort p).reconsider c = (d.reconsider c).withPort p := by
  unfold Device.reconsider
  first
  | rfl
  | (simp; done)

@[simp] theorem Device.resumeCopy_withPort (d : Device) (p : Port) (c : Chan) :
    (d.withPort p).resumeCopy c = (d.resumeCopy c).withPort p := by
  unfold Device.resumeCopy
  first
  | rfl
  | (simp; done)

@[simp] theorem Device.released_withPort (d : Device) (p : Port) (c : Chan) :
    (d.withPort p).released c = (d.released c).withPort p := by
  unfold Device.released
  dsimp only [Device.withPort_chan, Device.withPort_lot, Device.withPort_image, Device.withPort_capture,
    Device.withPort_store, Device.withPort_feedCondition, Device.withPort_admissionLot, Device.withPort_budgetDue,
    Device.withPort_noTrack0Due, Device.withPort_captureRate]
  repeat' split
  all_goals first
    | rfl
    | (simp; done)
    | (rename_i h; refine (if_pos h).trans ?_; first | rfl | (simp; done))
    | (rename_i h; refine (if_neg h).trans ?_; first | rfl | (simp; done))

@[simp] theorem Device.afterResume_withPort (d : Device) (p : Port) (l : LotNo) :
    (d.withPort p).afterResume l = (d.afterResume l).withPort p := by
  unfold Device.afterResume
  dsimp only [Device.withPort_chan, Device.withPort_lot, Device.withPort_image, Device.withPort_capture,
    Device.withPort_store, Device.withPort_feedCondition, Device.withPort_admissionLot, Device.withPort_budgetDue,
    Device.withPort_noTrack0Due, Device.withPort_captureRate]
  repeat' split
  all_goals first
    | rfl
    | (simp; done)
    | (rename_i h; refine (if_pos h).trans ?_; first | rfl | (simp; done))
    | (rename_i h; refine (if_neg h).trans ?_; first | rfl | (simp; done))

@[simp] theorem Device.startCapture_withPort (d : Device) (p : Port) (c : Chan) (i : ImageNo) (f l k : Nat) :
    (d.withPort p).startCapture c i f l k = (d.startCapture c i f l k).withPort p := by
  unfold Device.startCapture
  first
  | rfl

@[simp] theorem Device.abortCapture_withPort (d : Device) (p : Port) :
    (d.withPort p).abortCapture = (d.abortCapture).withPort p := by
  unfold Device.abortCapture
  dsimp only [Device.withPort_chan, Device.withPort_lot, Device.withPort_image, Device.withPort_capture,
    Device.withPort_store, Device.withPort_feedCondition, Device.withPort_admissionLot, Device.withPort_budgetDue,
    Device.withPort_noTrack0Due, Device.withPort_captureRate]
  repeat' split
  all_goals first
    | rfl
    | (simp; done)

end Sys2Proof.Machine
end

