-- ==== Sys2Proof/Laws/Pages.lean ====
section
/-! SUPPORT. The laws of the page pool: what a claim grants, what a release returns, and that every operation of the store keeps every
page in one place (`PagesOk`). -/

namespace Sys2Proof.Machine

/-! ## Lists of records -/

theorem flatMap_split {α β : Type} (f : α → List β) :
    ∀ (l : List α) (i : Nat) (x : α), l[i]? = some x → (l.flatMap f).Perm (f x ++ (l.eraseIdx i).flatMap f) := by
  intro l
  induction l with
  | nil => intro i x h; simp at h
  | cons y ys ih =>
    intro i x h
    cases i with
    | zero => simp at h; subst h; simp
    | succ i =>
      have h' : ys[i]? = some x := by simpa using h
      simp only [List.flatMap_cons, List.eraseIdx_cons_succ]
      exact ((ih i x h').append_left (f y)).trans (by
        rw [← List.append_assoc, ← List.append_assoc]
        exact List.perm_append_comm.append_right _)

theorem flatMap_set {α β : Type} (f : α → List β) (l : List α) (i : Nat) (x : α) (h : i < l.length) :
    ((l.set i x).flatMap f).Perm (f x ++ (l.eraseIdx i).flatMap f) := by
  have h1 : (l.set i x)[i]? = some x := by simp [h]
  have := flatMap_split f (l.set i x) i x h1
  rwa [List.eraseIdx_set_eq] at this

/-- The pages held by every record but one. -/
def Store.otherPages (st : Store) (r : RecNo) : List Nat :=
  (st.records.toList.eraseIdx r.val).flatMap fun x => x.track.pages

theorem Store.heldPages_split (st : Store) (r : RecNo) :
    st.heldPages.Perm ((st.record r).track.pages ++ st.otherPages r) :=
  flatMap_split _ _ _ _ (by simp [Store.record, Vector.get_eq_getElem])

theorem Store.heldPages_setRecord (st : Store) (r : RecNo) (x : TrackRecord) :
    (st.setRecord r x).heldPages.Perm (x.track.pages ++ st.otherPages r) := by
  unfold Store.heldPages Store.setRecord
  simp only [Vector.toList_set]
  exact flatMap_set _ _ _ _ (by simp)

/-! ## The pool -/

theorem insertPage_perm (x : Nat) (l : List Nat) : (insertPage x l).Perm (x :: l) := by
  induction l with
  | nil => exact List.Perm.refl _
  | cons y ys ih =>
    unfold insertPage
    split
    · exact List.Perm.refl _
    · exact (ih.cons y).trans (List.Perm.swap x y ys)

theorem insertPage_ascending (x : Nat) (l : List Nat) (h : l.Pairwise (· < ·)) (hx : x ∉ l) :
    (insertPage x l).Pairwise (· < ·) := by
  induction l with
  | nil => simp [insertPage]
  | cons y ys ih =>
    obtain ⟨h1, h2⟩ := List.pairwise_cons.1 h
    have hxy : x ≠ y := fun e => hx (by simp [e])
    unfold insertPage
    split
    · refine List.pairwise_cons.2 ⟨?_, h⟩
      intro z hz
      rcases List.mem_cons.1 hz with rfl | hz
      · omega
      · have := h1 z hz; omega
    · refine List.pairwise_cons.2 ⟨?_, ih h2 fun m => hx (List.mem_cons_of_mem _ m)⟩
      intro z hz
      rcases List.mem_cons.1 ((insertPage_perm x ys).mem_iff.1 hz) with rfl | hz
      · omega
      · exact h1 z hz

/-- What a release returns to the pool is the pages, and nothing is lost (R5). -/
theorem returnPages_perm (pool pages : List Nat) : (returnPages pool pages).Perm (pages ++ pool) := by
  induction pages with
  | nil => exact List.Perm.refl _
  | cons x xs ih => exact (insertPage_perm x _).trans (ih.cons x)

/-- The pool stays in ascending order when the pages that return to it were not in it. -/
theorem returnPages_ascending (pool pages : List Nat) (h : pool.Pairwise (· < ·)) (hn : (pages ++ pool).Nodup) :
    (returnPages pool pages).Pairwise (· < ·) := by
  induction pages with
  | nil => exact h
  | cons x xs ih =>
    have hn' := List.nodup_cons.1 hn
    exact insertPage_ascending x _ (ih hn'.2) fun m => hn'.1 ((returnPages_perm pool xs).mem_iff.1 m)

/-! ## What a claim grants (R5) -/

/-- The slot found is FREE and no lower one is. -/
theorem Store.lowestFree_some {st : Store} {r : RecNo} (h : st.lowestFree = some r) :
    (st.record r).state = .free ∧ ∀ r' : RecNo, r' < r → (st.record r').state ≠ .free := by
  unfold Store.lowestFree at h
  obtain ⟨h1, as, bs, h2, h3⟩ := List.find?_eq_some_iff_append.1 h
  refine ⟨by simpa using h1, fun r' hr' hf => ?_⟩
  have hs : (List.finRange 512).Pairwise (· < ·) := List.pairwise_lt_finRange 512
  rw [h2] at hs
  have hm : r' ∈ as ++ r :: bs := h2 ▸ List.mem_finRange r'
  rcases List.mem_append.1 hm with hm | hm
  · have := h3 r' hm; simp [hf] at this
  · rcases List.mem_cons.1 hm with rfl | hm
    · exact lt_irrefl _ hr'
    · exact absurd ((List.pairwise_cons.1 (List.pairwise_append.1 hs).2.1).1 r' hm) (not_lt_of_gt hr')

/-- A claim that is granted: the slot is FREE, no lower one is, and the pool holds the pages (R5). -/
theorem Store.claim_some {st : Store} {p : Nat} {r : RecNo} (h : st.claim p = some r) :
    (st.record r).state = .free ∧ (∀ r' : RecNo, r' < r → (st.record r').state ≠ .free) ∧ p ≤ st.freePages.length := by
  unfold Store.claim at h
  split at h
  · cases h
  · rename_i hp
    exact ⟨(Store.lowestFree_some h).1, (Store.lowestFree_some h).2, by omega⟩

/-! ## Every operation keeps every page in one place -/

theorem PagesOk.congr {st st' : Store} (h : PagesOk st) (hp : st'.freePages = st.freePages)
    (hr : st'.records = st.records) : PagesOk st' := by
  refine ⟨?_, ?_, ?_⟩
  · unfold Store.heldPages; rw [hp, hr]; exact h.all
  · rw [hp]; exact h.ascending
  · intro r; unfold Store.record; rw [hr]; exact h.free r

theorem PagesOk.setImage {st : Store} (h : PagesOk st) (i : ImageNo) (x : Image) : PagesOk (st.setImage i x) :=
  h.congr rfl rfl

theorem PagesOk.setRecord {st : Store} (h : PagesOk st) (r : RecNo) (x : TrackRecord)
    (hp : x.track.pages = (st.record r).track.pages) (hf : x.state = .free → x.track.pages = []) :
    PagesOk (st.setRecord r x) := by
  refine ⟨?_, h.ascending, ?_⟩
  · refine List.Perm.trans (List.Perm.append_left _ (st.heldPages_setRecord r x)) (List.Perm.trans ?_ h.all)
    rw [hp]
    exact List.Perm.append_left _ (st.heldPages_split r).symm
  · intro r'
    rw [Store.setRecord_record]
    split
    · exact hf
    · exact h.free r'

theorem Store.release_freePages (st : Store) (r : RecNo) :
    (st.release r).freePages = returnPages st.freePages (st.record r).track.pages := by
  unfold Store.release; dsimp only; split <;> rfl

theorem Store.release_records (st : Store) (r : RecNo) :
    (st.release r).records = (st.setRecord r TrackRecord.free).records := by
  unfold Store.release; dsimp only; split <;> rfl

/-- The records after a release: the one released is FREE, every other is as it was (R5). -/
theorem Store.release_record (st : Store) (r r' : RecNo) :
    (st.release r).record r' = if r = r' then TrackRecord.free else st.record r' := by
  have : (st.release r).record r' = (st.setRecord r TrackRecord.free).record r' := by
    unfold Store.record; rw [st.release_records r]
  rw [this, Store.setRecord_record]

theorem PagesOk.release {st : Store} (h : PagesOk st) (r : RecNo) : PagesOk (st.release r) := by
  have e := st.release_freePages r
  have e2 := st.release_records r
  have e3 : (st.release r).heldPages = (st.setRecord r TrackRecord.free).heldPages := by unfold Store.heldPages; rw [e2]
  have split : (st.freePages ++ st.heldPages).Perm
      ((st.record r).track.pages ++ st.freePages ++ st.otherPages r) :=
    ((st.heldPages_split r).append_left _).trans (by
      rw [← List.append_assoc]; exact List.perm_append_comm.append_right _)
  refine ⟨?_, ?_, ?_⟩
  · rw [e, e3]
    refine List.Perm.trans ?_ h.all
    refine List.Perm.trans ?_ split.symm
    exact ((returnPages_perm _ _).append ((st.heldPages_setRecord r _).trans (by simp [TrackRecord.free, Track.empty])))
  · rw [e]
    refine returnPages_ascending _ _ h.ascending ?_
    have nd := (h.all.nodup_iff.2 (List.nodup_range))
    exact (List.nodup_append.1 (split.nodup_iff.1 nd)).1
  · intro r'
    rw [Store.release_record]
    split
    · intro _; rfl
    · exact h.free r'

theorem PagesOk.unlink {st : Store} (h : PagesOk st) (r : RecNo) : PagesOk (st.unlink r) :=
  (h.setImage _ _).setRecord r _ rfl (h.free r)

theorem PagesOk.dispose {st : Store} (h : PagesOk st) (r : RecNo) : PagesOk (st.dispose r) := by
  unfold Store.dispose; split
  · exact h.unlink r
  · exact h.release r

theorem PagesOk.grant {st : Store} (h : PagesOk st) {r : RecNo} {p : Nat} (hr : st.claim p = some r) (s : RecState)
    (hs : s ≠ .free) (i : ImageNo) (key : Key) (t : Track) : PagesOk (st.grant r s i key t p) := by
  obtain ⟨hf, _, hp⟩ := Store.claim_some hr
  have hpages := h.free r hf
  refine ⟨?_, ?_, ?_⟩
  · change (st.freePages.drop p ++ (st.setRecord r _).heldPages).Perm _
    refine List.Perm.trans ?_ h.all
    refine (List.Perm.append_left _ (st.heldPages_setRecord r _)).trans ?_
    refine List.Perm.trans ?_ (List.Perm.append_left _ (st.heldPages_split r)).symm
    rw [hpages, ← List.append_assoc]
    refine List.Perm.append_right _ ?_
    simpa using List.perm_append_comm.trans (List.Perm.of_eq (List.take_append_drop p st.freePages))
  · exact h.ascending.sublist (List.drop_sublist _ _)
  · intro r'
    change ((st.setRecord r _).record r').state = .free → _
    intro hr'
    change ((st.setRecord r _).record r').track.pages = []
    rw [Store.setRecord_record] at hr' ⊢
    split at hr'
    · exact absurd hr' hs
    · rename_i hne
      rw [if_neg hne]
      exact h.free r' hr'

theorem PagesOk.install {st : Store} (h : PagesOk st) (r : RecNo) : PagesOk (st.install r) := by
  unfold Store.install
  dsimp only
  split
  · exact (h.setRecord r { st.record r with state := .present, link := .linked } rfl (fun e => nomatch e)).setImage _ _
  · exact ((h.setRecord r { st.record r with state := .present, link := .linked } rfl (fun e => nomatch e)).setImage _ _).dispose _

theorem PagesOk.remove {st : Store} (h : PagesOk st) (i : ImageNo) (key : Key) : PagesOk (st.remove i key) := by
  unfold Store.remove
  dsimp only
  split
  · exact h
  · exact (h.setImage _ _).dispose _

theorem PagesOk.disposeAll (rs : List (Option RecNo)) : ∀ {st : Store}, PagesOk st → PagesOk (st.disposeAll rs) := by
  induction rs with
  | nil => intro st h; exact h
  | cons o rs ih =>
    intro st h
    cases o with
    | none => exact ih h
    | some r => exact ih (h.dispose r)

theorem PagesOk.vacate {st : Store} (h : PagesOk st) (i : ImageNo) : PagesOk (st.vacate i) :=
  (PagesOk.disposeAll _ h).setImage _ _

theorem PagesOk.unpinRead {st : Store} (h : PagesOk st) (r : RecNo) : PagesOk (st.unpinRead r) := by
  unfold Store.unpinRead
  dsimp only
  have h1 := h.setRecord r { st.record r with readPin := false } rfl (h.free r)
  split
  · exact h1
  · exact h1.release r

theorem PagesOk.captured {st : Store} (h : PagesOk st) {r : RecNo} {p : Nat} (hr : st.claim p = some r) (i : ImageNo)
    (key : Key) (t : Track) (bytes : List Byte) : PagesOk (st.captured r i key t p bytes) :=
  PagesOk.install (st := (st.grant r .present i key t p).fillPages r bytes)
    (PagesOk.congr (h.grant hr .present (by intro e; cases e) i key t) rfl rfl) r

/-- Every page stays in one place within the events of the bays, the timers, the lots and the engines. -/
theorem Moves.pages {d e : Device} (h : Moves d e) (hd : PagesOk d.store) : PagesOk e.store := by
  induction h with
  | refl => exact hd
  | setChan c x _ ih => exact ih
  | setLot l x _ ih => exact ih
  | setImage i x _ ih => exact ih.setImage i x
  | notify k _ _ ih => exact ih
  | setCapture x _ ih => exact ih
  | count _ ih => exact ih
  | vacate i _ ih => exact ih.vacate i
  | captured r i key t p bytes hr _ ih => exact ih.captured hr i key t bytes

end Sys2Proof.Machine
end

