-- ==== Sys2Proof/Laws/Requests.lean ====
section
/-! SUPPORT. The laws of the requests: their checks, and once for all what a request can do to the part. -/

namespace Sys2Proof.Machine

/-! ## Checks -/

/-- A request whose checks all pass has its effect. -/
theorem checked_pass {d : Device} {k : Device × Response} :
    ∀ {cs : List (Bool × Completion)}, (∀ c ∈ cs, c.1 = true) → checked d cs k = k := by
  intro cs
  induction cs with
  | nil => intro _; rfl
  | cons c cs ih =>
    intro h
    obtain ⟨ok, code⟩ := c
    have h1 : ok = true := h (ok, code) (by simp)
    unfold checked
    rw [if_pos h1]
    exact ih fun c hc => h c (List.mem_cons_of_mem _ hc)

/-- A request with checks either has its effect or is refused with the code of a check. -/
theorem checked_cases (d : Device) (k : Device × Response) :
    ∀ cs : List (Bool × Completion), checked d cs k = k ∨ ∃ c ∈ cs, c.1 = false ∧ checked d cs k = refuse d c.2 := by
  intro cs
  induction cs with
  | nil => exact Or.inl rfl
  | cons c cs ih =>
    obtain ⟨ok, code⟩ := c
    unfold checked
    cases ok with
    | true =>
      rcases ih with h | ⟨c, hc, h1, h2⟩
      · exact Or.inl (by simpa using h)
      · exact Or.inr ⟨c, List.mem_cons_of_mem _ hc, h1, by simpa using h2⟩
    | false => exact Or.inr ⟨(false, code), by simp, rfl, by simp⟩

/-- The first check that fails refuses the request. -/
theorem checked_refuse {d : Device} {k : Device × Response} {code : Completion} {after : List (Bool × Completion)} :
    ∀ {before : List (Bool × Completion)}, (∀ c ∈ before, c.1 = true) →
      checked d (before ++ (false, code) :: after) k = refuse d code := by
  intro before
  induction before with
  | nil => intro _; simp [checked]
  | cons c cs ih =>
    intro h
    obtain ⟨ok, code'⟩ := c
    have h1 : ok = true := h (ok, code') (by simp)
    simp only [List.cons_append, checked, h1, if_true]
    exact ih fun c hc => h c (List.mem_cons_of_mem _ hc)

theorem checked_true {d : Device} {ok : Bool} {code : Completion} {cs : List (Bool × Completion)} {k : Device × Response}
    (h : ok = true) : checked d ((ok, code) :: cs) k = checked d cs k := by rw [checked, if_pos h]

theorem checked_false {d : Device} {ok : Bool} {code : Completion} {cs : List (Bool × Completion)} {k : Device × Response}
    (h : ok = false) : checked d ((ok, code) :: cs) k = refuse d code := by rw [checked, if_neg (by simp [h])]

theorem hasKey_keyOf (im : Image) (cyl head : Byte) :
    im.hasKey (keyOf cyl head) = true ↔ cyl.toNat < im.cylinders ∧ head.toNat < im.heads := by
  rw [Image.hasKey, Bool.and_eq_true, decide_eq_true_iff, decide_eq_true_iff]
  exact Iff.rfl

theorem sizeOfByte_of_lt {b : Byte} (h : b.toNat < 4) : sizeOfByte b = some (Fin.ofNat 4 b.toNat) := by
  unfold sizeOfByte
  rw [dif_pos h]
  exact congrArg some (Fin.ext (Nat.mod_eq_of_lt h).symm)

theorem withSlot_lt {n : Nat} {b : Byte} {d : Device} {k : Fin n → Device × Response} (i : Fin n) (h : b.toNat = i.val) :
    withSlot n b d k = k i := by
  have hb : b.toNat < n := by omega
  unfold withSlot
  rw [dif_pos hb]
  congr 1
  exact Fin.ext h

theorem withSlot_ge {n : Nat} {b : Byte} {d : Device} {k : Fin n → Device × Response} (h : n ≤ b.toNat) :
    withSlot n b d k = refuse d .noSuch := by
  unfold withSlot
  rw [dif_neg (by omega)]

/-- A request that names a slot either acts on it or is refused. -/
theorem withSlot_cases {n : Nat} (b : Byte) (d : Device) (k : Fin n → Device × Response) :
    (∃ i : Fin n, b.toNat = i.val ∧ withSlot n b d k = k i) ∨ withSlot n b d k = refuse d .noSuch := by
  by_cases h : b.toNat < n
  · exact Or.inl ⟨⟨b.toNat, h⟩, rfl, withSlot_lt _ rfl⟩
  · exact Or.inr (withSlot_ge (by omega))

/-! ## What a request can do -/

/-- `Works d e`: a request other than PART RESET can take the part from `d` to `e`. -/
inductive Works (d : Device) : Device → Prop
  | moves {e : Device} : Moves d e → Works d e
  | profile (p : ProfileNo) (x : Profile) : Works d (d.setProfile p x)
  | deleted (l : LotNo) : Works d ((d.setLot l Lot.vacant).unassign l)
  | cleared (m : BitVec 24) : Works d (d.clearNotices m)
  | enabled (m : BitVec 24) (h : Bool) : m.getLsbD 23 = false → Works d (d.enableNotices m h)
  | installed (r : RecNo) (i : ImageNo) (key : Key) (t : Track) : d.store.claim 0 = some r →
      Works d { d with store := (d.store.grant r .present i key t 0).install r }
  | loading (r : RecNo) (i : ImageNo) (key : Key) (t : Track) (p len : Nat) : d.store.claim p = some r →
      d.port.stream = .closed →
      Works d (({ d with store := d.store.grant r .loading i key t p }).openStream (.inbound r len))
  | removed (i : ImageNo) (key : Key) : Works d { d with store := d.store.remove i key }
  | reading (r : RecNo) (len : Nat) : d.port.stream = .closed →
      Works d (({ d with store := d.store.pinRead r }).openStream (.outbound r len))
  | amended (r : RecNo) (j o : Nat) (bytes : List Byte) : Works d { d with store := d.store.amend r j o bytes }
  | aborted : Works d ({ d with store := d.store.afterAbort d.port.stream }).closeStream

/-- What holds of every refusal, and of the effect when all checks pass, holds of a checked request. -/
theorem checked_elim {d : Device} {k : Device × Response} {P : Device × Response → Prop} (hr : ∀ code, P (refuse d code)) :
    ∀ {cs : List (Bool × Completion)}, ((∀ c ∈ cs, c.1 = true) → P k) → P (checked d cs k) := by
  intro cs
  induction cs with
  | nil => intro h; exact h (by simp)
  | cons c cs ih =>
    intro h
    obtain ⟨ok, code⟩ := c
    cases ok with
    | false => exact hr code
    | true => exact ih fun hc => h fun c hc' => (List.mem_cons.1 hc').elim (fun e => e ▸ rfl) (hc c)

/-- What holds of every refusal, and of the effect on a slot, holds of a request that names a slot. -/
theorem withSlot_elim {n : Nat} {b : Byte} {d : Device} {k : Fin n → Device × Response} {P : Device × Response → Prop}
    (hr : ∀ code, P (refuse d code)) (h : ∀ i, b.toNat = i.val → P (k i)) : P (withSlot n b d k) := by
  unfold withSlot
  split
  · exact h _ rfl
  · exact hr _

theorem Works.refused (d : Device) (code : Completion) : Works d (refuse d code).1 := .moves .refl

theorem Works.same (d : Device) (bs : List Byte) : Works d (answerOk d bs).1 := .moves .refl

theorem Works.slot {n : Nat} {b : Byte} {d : Device} {k : Fin n → Device × Response} (h : ∀ i, Works d (k i).1) :
    Works d (withSlot n b d k).1 :=
  withSlot_elim (P := fun x => Works d x.1) (Works.refused d) fun i _ => h i

theorem Works.checks {d : Device} {cs : List (Bool × Completion)} {k : Device × Response}
    (h : (∀ c ∈ cs, c.1 = true) → Works d k.1) : Works d (checked d cs k).1 :=
  checked_elim (P := fun x => Works d x.1) (Works.refused d) h

theorem Device.streamOpen_false {d : Device} (h : (!d.streamOpen) = true) : d.port.stream = .closed := by
  simpa [Device.streamOpen] using h

theorem workImageCreate_works (i p c h : Byte) (l : List Byte) (d : Device) : Works d (workImageCreate i p c h l d).1 :=
  .slot fun _ => .slot fun _ => .checks fun _ => .moves (Moves.refl.setImage _ _)

theorem workImageSeal_works (i : Byte) (d : Device) : Works d (workImageSeal i d).1 :=
  .slot fun _ => .checks fun _ => .moves (Moves.refl.setImage _ _)

theorem workImageUnseal_works (i : Byte) (d : Device) : Works d (workImageUnseal i d).1 :=
  .slot fun _ => .checks fun _ => .moves (Moves.refl.setImage _ _)

theorem workImageRetire_works (i : Byte) (d : Device) : Works d (workImageRetire i d).1 :=
  .slot fun j => .checks fun _ => by
    split
    · exact .moves (Moves.freed (Moves.refl.vacate j))
    · exact .moves (Moves.refl.setImage _ _)

theorem workImageDiscard_works (i : Byte) (d : Device) : Works d (workImageDiscard i d).1 :=
  .slot fun j => .checks fun _ => .moves (Moves.refl.vacate j)

theorem workImageQuery_works (i : Byte) (d : Device) : Works d (workImageQuery i d).1 := .slot fun _ => .same d _

theorem workTrackLoad_works (ps : LoadParams) (d : Device) : Works d (workTrackLoad ps d).1 :=
  .slot fun _ => .checks fun _ => by
    split
    · exact .refused d _
    · rename_i r hr
      split
      · rename_i h0
        rw [h0] at hr
        exact .installed r _ _ _ hr
      · exact .checks fun hc => .loading r _ _ _ _ _ hr (Device.streamOpen_false (hc _ (List.mem_singleton.2 rfl)))

theorem workTrackFill_works (ps : FillParams) (d : Device) : Works d (workTrackFill ps d).1 :=
  .slot fun _ => .checks fun _ => by
    split
    · exact .refused d _
    · rename_i r hr
      exact .installed r _ _ _ hr

theorem workTrackRemove_works (i c h : Byte) (d : Device) : Works d (workTrackRemove i c h d).1 :=
  .slot fun _ => .checks fun _ => by
    split
    · exact .same d _
    · exact .removed _ _

theorem workTrackRead_works (i c h : Byte) (d : Device) : Works d (workTrackRead i c h d).1 :=
  .slot fun _ => .checks fun _ => by
    split
    · exact .same d _
    · split
      · exact .same d _
      · exact .checks fun hc => .reading _ _ (Device.streamOpen_false (hc _ (List.mem_singleton.2 rfl)))

theorem workTrackQuery_works (i c h f m : Byte) (d : Device) : Works d (workTrackQuery i c h f m d).1 :=
  .slot fun _ => .checks fun _ => .same d _

theorem workSectorPeek_works (i c h j : Byte) (o : Half) (n : Byte) (d : Device) :
    Works d (workSectorPeek i c h j o n d).1 :=
  .slot fun _ => .checks fun _ => .same d _

theorem workSectorAmend_works (i c h j : Byte) (o : Half) (n : Byte) (bs : List Byte) (d : Device) :
    Works d (workSectorAmend i c h j o n bs d).1 :=
  .slot fun _ => .checks fun _ => by
    split
    · exact .refused d _
    · exact .checks fun _ => .amended _ _ _ _

theorem workStreamAbort_works (d : Device) : Works d (workStreamAbort d).1 := .aborted

theorem workProfileSet_works (ps : ProfileParams) (d : Device) : Works d (workProfileSet ps d).1 :=
  .slot fun _ => .checks fun _ => by
    split
    · exact .profile _ _
    · exact .checks fun _ => .profile _ _

theorem workProfileQuery_works (p : Byte) (d : Device) : Works d (workProfileQuery p d).1 := .slot fun _ => .same d _

theorem workLotCreate_works (ps : LotParams) (d : Device) : Works d (workLotCreate ps d).1 :=
  .slot fun _ => .checks fun _ => .slot fun _ => .checks fun _ => .moves ((Moves.refl.setLot _ _).setImage _ _)

theorem workLotStart_works (l : Byte) (d : Device) : Works d (workLotStart l d).1 :=
  .slot fun _ => .checks fun _ => .moves (Device.signalOpen_moves _ (Moves.refl.setLot _ _))

theorem workLotHold_works (l : Byte) (d : Device) : Works d (workLotHold l d).1 :=
  .slot fun _ => .checks fun _ => .moves (Moves.refl.setLot _ _)

theorem workLotResume_works (l : Byte) (d : Device) : Works d (workLotResume l d).1 :=
  .slot fun _ => .checks fun _ => .moves (Device.afterResume_moves _ (Moves.refl.setLot _ _))

theorem workLotClose_works (l : Byte) (d : Device) : Works d (workLotClose l d).1 :=
  .slot fun _ => .checks fun _ => by
    split
    · exact .moves (Moves.lotNotice _ ((Moves.refl.setImage _ _).setLot _ _))
    · exact .moves ((Moves.refl.setImage _ _).setLot _ _)

theorem workLotDelete_works (l : Byte) (d : Device) : Works d (workLotDelete l d).1 :=
  .slot fun _ => .checks fun _ => .deleted _

theorem workLotMark_works (l : Byte) (m : Half) (d : Device) : Works d (workLotMark l m d).1 :=
  .slot fun _ => .checks fun _ => .moves (Moves.refl.setLot _ _)

theorem workLotQuery_works (l : Byte) (d : Device) : Works d (workLotQuery l d).1 := .slot fun _ => .same d _

theorem workChannelEnable_works (c : Byte) (d : Device) : Works d (workChannelEnable c d).1 :=
  .slot fun c => .checks fun _ => .moves (Device.enterService_moves c .refl)

theorem workChannelDisable_works (c : Byte) (d : Device) : Works d (workChannelDisable c d).1 :=
  .slot fun _ => .checks fun _ => .moves (Moves.refl.modChan _ _)

theorem workChannelAssign_works (c l : Byte) (d : Device) : Works d (workChannelAssign c l d).1 :=
  .slot fun c => by
    split
    · exact .refused d _
    · exact .checks fun _ => .moves (Device.reconsider_moves c (Moves.refl.modChan _ _))

theorem workChannelHold_works (c : Byte) (d : Device) : Works d (workChannelHold c d).1 :=
  .slot fun c => .moves (by simp only [answerState, answerOk]; exact Moves.refl.modChan c _)

theorem workChannelRelease_works (c : Byte) (d : Device) : Works d (workChannelRelease c d).1 :=
  .slot fun c => .moves (Device.released_moves c .refl)

theorem workChannelAbort_works (c : Byte) (d : Device) : Works d (workChannelAbort c d).1 :=
  .slot fun c => .checks fun _ => .moves (Device.copyCut_moves c _ .refl)

theorem workChannelEject_works (c : Byte) (d : Device) : Works d (workChannelEject c d).1 :=
  .slot fun c => .checks fun _ => .moves (Moves.refl.beginEject c _)

theorem Device.cleared_moves {d e : Device} {c : Chan} (h : d.cleared c = some e) : Moves d e := by
  unfold Device.cleared at h
  split at h <;> cases h
  · exact Device.enterIdle_moves c .refl
  · exact Moves.refl.beginEject c _
  · exact Device.enterService_moves c (Moves.refl.modChan c _)

theorem workChannelClear_works (c : Byte) (d : Device) : Works d (workChannelClear c d).1 :=
  .slot fun c => by
    split
    · exact .refused d _
    · rename_i e he
      exact .moves (Device.cleared_moves he)

theorem workChannelTiming_works (c s e : Byte) (d : Device) : Works d (workChannelTiming c s e d).1 :=
  .slot fun c => .checks fun _ => .moves (by simp only [answerOk]; exact Moves.refl.modChan c _)

theorem workChannelQuery_works (c : Byte) (d : Device) : Works d (workChannelQuery c d).1 := .slot fun _ => .same d _

theorem workCaptureStart_works (c i f l k : Byte) (d : Device) : Works d (workCaptureStart c i f l k d).1 :=
  .slot fun c => .slot fun i => .checks fun _ => .moves (Device.startCapture_moves c i _ _ _ .refl)

theorem workCaptureAbort_works (d : Device) : Works d (workCaptureAbort d).1 :=
  .checks fun _ => .moves (Device.abortCapture_moves .refl)

theorem workNoticeEnable_works (m : BitVec 24) (p : Byte) (d : Device) : Works d (workNoticeEnable m p d).1 :=
  .checks fun hc => .enabled m _ (by simpa using hc _ (List.mem_cons_self ..))

/-- A request other than PART RESET has a reply, and does to the part what `Works` lists. -/
theorem work_works {r : Request} (hr : r ≠ .partReset) (d : Device) :
    Works d (work r d).1 ∧ (work r d).2.isSome = true := by
  cases r with
  | imageCreate => exact ⟨workImageCreate_works .., rfl⟩
  | imageSeal => exact ⟨workImageSeal_works .., rfl⟩
  | imageUnseal => exact ⟨workImageUnseal_works .., rfl⟩
  | imageRetire => exact ⟨workImageRetire_works .., rfl⟩
  | imageDiscard => exact ⟨workImageDiscard_works .., rfl⟩
  | imageQuery => exact ⟨workImageQuery_works .., rfl⟩
  | trackLoad => exact ⟨workTrackLoad_works .., rfl⟩
  | trackFill => exact ⟨workTrackFill_works .., rfl⟩
  | trackRemove => exact ⟨workTrackRemove_works .., rfl⟩
  | trackRead => exact ⟨workTrackRead_works .., rfl⟩
  | trackQuery => exact ⟨workTrackQuery_works .., rfl⟩
  | sectorPeek => exact ⟨workSectorPeek_works .., rfl⟩
  | sectorAmend => exact ⟨workSectorAmend_works .., rfl⟩
  | streamAbort => exact ⟨workStreamAbort_works .., rfl⟩
  | profileSet => exact ⟨workProfileSet_works .., rfl⟩
  | profileQuery => exact ⟨workProfileQuery_works .., rfl⟩
  | lotCreate => exact ⟨workLotCreate_works .., rfl⟩
  | lotStart => exact ⟨workLotStart_works .., rfl⟩
  | lotHold => exact ⟨workLotHold_works .., rfl⟩
  | lotResume => exact ⟨workLotResume_works .., rfl⟩
  | lotClose => exact ⟨workLotClose_works .., rfl⟩
  | lotDelete => exact ⟨workLotDelete_works .., rfl⟩
  | lotMark => exact ⟨workLotMark_works .., rfl⟩
  | lotQuery => exact ⟨workLotQuery_works .., rfl⟩
  | channelEnable => exact ⟨workChannelEnable_works .., rfl⟩
  | channelDisable => exact ⟨workChannelDisable_works .., rfl⟩
  | channelAssign => exact ⟨workChannelAssign_works .., rfl⟩
  | channelHold => exact ⟨workChannelHold_works .., rfl⟩
  | channelRelease => exact ⟨workChannelRelease_works .., rfl⟩
  | channelAbort => exact ⟨workChannelAbort_works .., rfl⟩
  | channelEject => exact ⟨workChannelEject_works .., rfl⟩
  | channelClear => exact ⟨workChannelClear_works .., rfl⟩
  | channelTiming => exact ⟨workChannelTiming_works .., rfl⟩
  | channelQuery => exact ⟨workChannelQuery_works .., rfl⟩
  | captureStart => exact ⟨workCaptureStart_works .., rfl⟩
  | captureAbort => exact ⟨workCaptureAbort_works .., rfl⟩
  | captureQuery => exact ⟨.moves .refl, rfl⟩
  | noticeRead => exact ⟨.moves .refl, rfl⟩
  | noticeClear => exact ⟨.cleared _, rfl⟩
  | noticeEnable => exact ⟨workNoticeEnable_works .., rfl⟩
  | storeStatus => exact ⟨.moves .refl, rfl⟩
  | partReset => exact absurd rfl hr

end Sys2Proof.Machine
end

