-- ==== Sys2Proof/Laws/Engine.lean ====
section
/-! SUPPORT. The laws of the request engine: what posting does on a ready port, and what every request leaves of the port;
and what a write at a location of the port can do. -/

namespace Sys2Proof.Machine

@[simp] theorem Device.writeControl_post (d : Device) : d.writeControl 0x01 = d.post := rfl
@[simp] theorem Device.writeControl_nextReply (d : Device) : d.writeControl 0x02 = d.nextReply := rfl
@[simp] theorem Device.writeControl_cancelFrame (d : Device) : d.writeControl 0x03 = d.cancelFrame := rfl

/-- Any other control code is ignored (R159). -/
theorem Device.writeControl_other {b : Byte} (h : b ∉ ([0x01, 0x02, 0x03] : List Byte)) (d : Device) : d.writeControl b = d := by
  simp only [List.mem_cons, List.not_mem_nil, or_false, not_or] at h
  unfold Device.writeControl
  rw [if_neg h.1, if_neg h.2.1, if_neg h.2.2]

/-- A write is lost while the RESET input is asserted (R172). -/
@[simp] theorem Device.writeAt_held {d : Device} (h : d.resetInput = true) (l : Location) (b : Byte) : d.writeAt l b = d := by
  simp [Device.writeAt, Device.access, h]

/-- With the RESET input released, a write has the effect of its location (R159). -/
theorem Device.writeAt_released {d : Device} (h : d.resetInput = false) (b : Byte) :
    d.writeAt .body b = d.writeBody b ∧ d.writeAt .frame b = d.openFrame b ∧
      d.writeAt .stream b = d.writeStreamByte b ∧ d.writeAt .control b = d.writeControl b := by
  simp [Device.writeAt, Device.access, h]

/-- The three control codes that have a row, as accesses (R159). -/
theorem Device.writeAt_control (d : Device) : d.writeAt .control 0x01 = d.access Device.post ∧
    d.writeAt .control 0x02 = d.access Device.nextReply ∧ d.writeAt .control 0x03 = d.access Device.cancelFrame :=
  ⟨rfl, rfl, rfl⟩

/-- A read of Frame or Control changes nothing (R159). -/
@[simp] theorem Device.readAt_frame (d : Device) : d.readAt .frame = (d.readFrame, d) := rfl
@[simp] theorem Device.readAt_control (d : Device) : d.readAt .control = (d.readControl, d) := rfl

/-- A frame posted to a ready port is worked at once, and its reply placed (R162). -/
theorem Device.postFrame_ready {d : Device} (h : PortReady d) (f : Frame) :
    d.postFrame f = (workFrame f (d.taking f)).1.placeReply f (workFrame f (d.taking f)).2 := by
  have hq : d.port.requests.length < 4 := by rw [h.empty]; decide
  unfold Device.postFrame
  rw [if_pos hq]
  have ready : Device.engineReady
      { d with port := { d.port with frame := none, requests := d.port.requests ++ [f], postRefused := false } } = true := by
    simp [Device.engineReady, h.idle, h.room]
  unfold Device.engineCheck
  simp only [h.empty, List.nil_append, List.length_singleton]
  unfold Device.runEngine
  simp only
  rw [h.empty, List.nil_append] at ready
  rw [if_pos ready]
  rfl

/-- The part at work on a frame, as the part with another port (`Device.withPort`). -/
theorem Device.taking_eq (d : Device) (f : Frame) :
    d.taking f =
      d.withPort { d.port with frame := none, requests := [], postRefused := false, working := some f } := rfl

/-- A request row on a ready port, its frame being read back as the request: the owning block works it at once (R162, R163). -/
theorem Device.submit_ready {d : Device} (h : PortReady d) {tag : Byte} {r : Request}
    (hd : decodeRequest r.code r.params = .ok r) (hl : (r.body tag).length ≤ 256) :
    d.submit tag r = (work r (d.taking ⟨r.code, r.body tag, false⟩)).1.placeReply ⟨r.code, r.body tag, false⟩
      (work r (d.taking ⟨r.code, r.body tag, false⟩)).2 := by
  have hf : requestFrame tag r = ⟨r.code, r.body tag, false⟩ := by
    unfold requestFrame
    rw [List.take_of_length_le hl, decide_eq_false (by omega)]
  have hw : ∀ e : Device, workFrame ⟨r.code, r.body tag, false⟩ e = work r e := by
    intro e
    have : decodeRequest r.code (r.body tag).tail = .ok r := hd
    unfold workFrame
    simp only [this]
    rw [if_neg (by unfold Request.body; simp), if_neg (by simp)]
  unfold Device.submit Device.access
  rw [h.released, hf]
  refine (if_neg (by decide)).trans ?_
  dsimp only
  rw [Device.postFrame_ready h, hw]

/-- A request row on a ready port, answered: when the owning block takes the part to `e` and answers `x`, the command takes it to
`e` with the reply in the queue (R161, R162, R164). -/
theorem Device.submit_answered {d e : Device} (h : PortReady d) {tag : Byte} {r : Request} {x : Response}
    (hd : decodeRequest r.code r.params = .ok r) (hl : (r.body tag).length ≤ 256)
    (hq : e.port.requests = []) (hi : e.port.working = none)
    (hw : work r (d.taking ⟨r.code, r.body tag, false⟩) = (e.taking ⟨r.code, r.body tag, false⟩, some x)) :
    d.submit tag r = e.answered tag r.code x.completion x.result := by
  rw [Device.submit_ready h hd hl, hw]
  unfold Device.placeReply Device.answered Device.taking replyTo Request.body
  simp [hq, hi]

/-- What a request does to the port: PART RESET apart, it changes the stream alone (R167). -/
theorem Moves.port {d e : Device} (h : Moves d e) : e.port = d.port := by
  induction h with
  | refl => rfl
  | setChan _ _ _ ih => exact ih
  | setLot _ _ _ ih => exact ih
  | setImage _ _ _ ih => exact ih
  | notify _ _ _ ih => exact ih
  | setCapture _ _ ih => exact ih
  | count _ ih => exact ih
  | vacate _ _ ih => exact ih
  | captured _ _ _ _ _ _ _ _ ih => exact ih

/-- An event leaves the profile table, the RESET input, the enable mask and the polarity as they were. -/
theorem Moves.still {d e : Device} (h : Moves d e) :
    e.profiles = d.profiles ∧ e.resetInput = d.resetInput ∧ e.notices.enable = d.notices.enable ∧
      e.notices.activeHigh = d.notices.activeHigh := by
  induction h with
  | refl => exact ⟨rfl, rfl, rfl, rfl⟩
  | setChan _ _ _ ih => exact ih
  | setLot _ _ _ ih => exact ih
  | setImage _ _ _ ih => exact ih
  | notify _ _ _ ih => exact ih
  | setCapture _ _ ih => exact ih
  | count _ ih => exact ih
  | vacate _ _ ih => exact ih
  | captured _ _ _ _ _ _ _ _ ih => exact ih

/-- A request other than PART RESET changes nothing of the port but the stream and STREAM FAULT. -/
theorem Works.port {d e : Device} (h : Works d e) :
    ∃ (st : Stream) (f : Bool), e.port = { d.port with stream := st, streamFault := f } := by
  cases h with
  | moves h => exact ⟨d.port.stream, d.port.streamFault, by rw [h.port]⟩
  | profile => exact ⟨d.port.stream, d.port.streamFault, rfl⟩
  | deleted => exact ⟨d.port.stream, d.port.streamFault, rfl⟩
  | cleared => exact ⟨d.port.stream, d.port.streamFault, rfl⟩
  | enabled => exact ⟨d.port.stream, d.port.streamFault, rfl⟩
  | installed => exact ⟨d.port.stream, d.port.streamFault, rfl⟩
  | loading r i key t p len => exact ⟨.inbound r len, false, rfl⟩
  | removed => exact ⟨d.port.stream, d.port.streamFault, rfl⟩
  | reading r len => exact ⟨.outbound r len, false, rfl⟩
  | amended => exact ⟨d.port.stream, d.port.streamFault, rfl⟩
  | aborted => exact ⟨.closed, d.port.streamFault, rfl⟩

end Sys2Proof.Machine
end

