-- ==== Sys2Proof/Laws/Lots.lean ====
section
/-! SUPPORT. What the insertion of a serial, and the free order in which channels answer a lot's signal, can do. -/

namespace Sys2Proof.Machine

/-- A returned serial joins the reissue list, and nothing leaves it (R67). -/
theorem insertSerial_perm (x : Nat) (l : List Nat) : (insertSerial x l).Perm (x :: l) := by
  induction l with
  | nil => exact .refl _
  | cons y ys ih =>
    unfold insertSerial
    split
    · exact .refl _
    · exact (ih.cons y).trans (.swap _ _ _)

/-- The reissue list stays in ascending order without repeats (R67). -/
theorem insertSerial_ascending {x : Nat} {l : List Nat} (h : l.Pairwise (· < ·)) (hx : x ∉ l) :
    (insertSerial x l).Pairwise (· < ·) := by
  induction l with
  | nil => simp [insertSerial]
  | cons y ys ih =>
    rw [List.pairwise_cons] at h
    rw [List.mem_cons, not_or] at hx
    unfold insertSerial
    split
    · refine List.pairwise_cons.2 ⟨fun a ha => ?_, List.pairwise_cons.2 h⟩
      rcases List.mem_cons.1 ha with rfl | ha
      · omega
      · have := h.1 a ha
        omega
    · refine List.pairwise_cons.2 ⟨fun a ha => ?_, ih h.2 hx.2⟩
      rcases List.mem_cons.1 ((insertSerial_perm x ys).mem_iff.1 ha) with rfl | ha
      · omega
      · exact h.1 a ha

theorem insertChan_perm (c : Chan) : ∀ (l : List Chan) (k : Nat), (insertChan c l k).Perm (c :: l)
  | [], _ => .refl _
  | _ :: _, 0 => .refl _
  | x :: xs, k + 1 => ((insertChan_perm c xs k).cons x).trans (.swap _ _ _)

/-- The channels of a lot answer its signal in some order, each of them once (R82, log 9). -/
theorem arrivalOrder_perm (k : Nat) : ∀ l : List Chan, (arrivalOrder k l).Perm l
  | [] => .refl _
  | c :: cs => (insertChan_perm c _ _).trans ((arrivalOrder_perm k cs).cons c)

end Sys2Proof.Machine
end

