-- ==== Sys2Proof/Laws/Works.lean ====
section
/-! SUPPORT. What the owning blocks make of a request does not depend on the frame the engine is working, so a request row on a
ready port leaves what `work` makes of the part itself, with the reply in the queue (`Device.submit_worked`). -/

namespace Sys2Proof.Machine

/-! ## The part at work on a frame -/

@[simp] theorem Device.taking_image (d : Device) (f : Frame) (i : ImageNo) : (d.taking f).image i = d.image i := rfl
@[simp] theorem Device.taking_chan (d : Device) (f : Frame) (c : Chan) : (d.taking f).chan c = d.chan c := rfl
@[simp] theorem Device.taking_lot (d : Device) (f : Frame) (l : LotNo) : (d.taking f).lot l = d.lot l := rfl
@[simp] theorem Device.taking_profile (d : Device) (f : Frame) (p : ProfileNo) : (d.taking f).profile p = d.profile p := rfl
@[simp] theorem Device.taking_store (d : Device) (f : Frame) : (d.taking f).store = d.store := rfl
@[simp] theorem Device.taking_capture (d : Device) (f : Frame) : (d.taking f).capture = d.capture := rfl
@[simp] theorem Device.taking_notices (d : Device) (f : Frame) : (d.taking f).notices = d.notices := rfl
@[simp] theorem Device.taking_streamOn (d : Device) (f : Frame) (i : ImageNo) : (d.taking f).streamOn i = d.streamOn i := rfl
@[simp] theorem Device.taking_streamOpen (d : Device) (f : Frame) : (d.taking f).streamOpen = d.streamOpen := rfl
@[simp] theorem Device.taking_noticeWord (d : Device) (f : Frame) : (d.taking f).noticeWord = d.noticeWord := rfl
@[simp] theorem Device.taking_lineAsserted (d : Device) (f : Frame) : (d.taking f).lineAsserted = d.lineAsserted := rfl
@[simp] theorem Device.taking_assigned (d : Device) (f : Frame) (l : LotNo) : (d.taking f).assigned l = d.assigned l := rfl
@[simp] theorem Device.setChan_taking (d : Device) (f : Frame) (c : Chan) (x : Channel) :
    (d.taking f).setChan c x = (d.setChan c x).taking f := rfl
@[simp] theorem Device.modChan_taking (d : Device) (f : Frame) (c : Chan) (g : Channel → Channel) :
    (d.taking f).modChan c g = (d.modChan c g).taking f := rfl
@[simp] theorem Device.setLot_taking (d : Device) (f : Frame) (l : LotNo) (x : Lot) :
    (d.taking f).setLot l x = (d.setLot l x).taking f := rfl
@[simp] theorem Device.setImage_taking (d : Device) (f : Frame) (i : ImageNo) (x : Image) :
    (d.taking f).setImage i x = (d.setImage i x).taking f := rfl
@[simp] theorem Device.notify_taking (d : Device) (f : Frame) (k : Nat) :
    (d.taking f).notify k = (d.notify k).taking f := rfl
@[simp] theorem Device.beginEject_taking (d : Device) (f : Frame) (c : Chan) (b : Bin) :
    (d.taking f).beginEject c b = (d.beginEject c b).taking f := rfl

/-- A request's result on the part at work on frame `f`. -/
def onTaking (f : Frame) (x : Device × Response) : Device × Response := (x.1.taking f, x.2)

theorem refuse_taking (d : Device) (f : Frame) (c : Completion) : refuse (d.taking f) c = onTaking f (refuse d c) := rfl

theorem answer_taking {d e : Device} (f : Frame) (bs : List Byte) (h : e = d.taking f) :
    answerOk e bs = onTaking f (answerOk d bs) := by rw [h]; rfl

theorem checked_taking {d : Device} {f : Frame} {k k' : Device × Response} (h : k' = onTaking f k) :
    ∀ cs : List (Bool × Completion), checked (d.taking f) cs k' = onTaking f (checked d cs k)
  | [] => h
  | (ok, code) :: cs => by
    unfold checked
    split
    · exact checked_taking h cs
    · rfl

theorem withSlot_taking {n : Nat} {b : Byte} {d : Device} {f : Frame} {k k' : Fin n → Device × Response}
    (h : ∀ i, k' i = onTaking f (k i)) : withSlot n b (d.taking f) k' = onTaking f (withSlot n b d k) := by
  unfold withSlot
  split
  · exact h _
  · rfl

/-- An event that does not read the port gives on the part at work what it gives on the part. -/
theorem Device.event_taking {op : Device → Device} (hp : ∀ d p, op (d.withPort p) = (op d).withPort p)
    (hm : ∀ d, (op d).port = d.port) (d : Device) (f : Frame) : op (d.taking f) = (op d).taking f := by
  rw [Device.taking_eq, hp, Device.taking_eq, hm]

@[simp] theorem Device.signalOpen_taking (d : Device) (f : Frame) (l : LotNo) :
    (d.taking f).signalOpen l = (d.signalOpen l).taking f :=
  Device.event_taking (fun d p => by simp) (fun d => (Device.signalOpen_moves l .refl).port) d f
@[simp] theorem Device.answerSignal_taking (d : Device) (f : Frame) (c : Chan) :
    (d.taking f).answerSignal c = (d.answerSignal c).taking f :=
  Device.event_taking (fun d p => by simp) (fun d => (Device.answerSignal_moves c .refl).port) d f
@[simp] theorem Device.evalFeed_taking (d : Device) (f : Frame) (c : Chan) : (d.taking f).evalFeed c = (d.evalFeed c).taking f :=
  Device.event_taking (fun d p => by simp) (fun d => (Device.evalFeed_moves c .refl).port) d f
@[simp] theorem Device.admissionPoint_taking (d : Device) (f : Frame) (c : Chan) :
    (d.taking f).admissionPoint c = (d.admissionPoint c).taking f :=
  Device.event_taking (fun d p => by simp) (fun d => (Device.admissionPoint_moves c .refl).port) d f
@[simp] theorem Device.beginNext_taking (d : Device) (f : Frame) (c : Chan) :
    (d.taking f).beginNext c = (d.beginNext c).taking f :=
  Device.event_taking (fun d p => by simp) (fun d => (Device.beginNext_moves c .refl).port) d f
@[simp] theorem Device.copyCut_taking (d : Device) (f : Frame) (c : Chan) (r : RejectReason) :
    (d.taking f).copyCut c r = (d.copyCut c r).taking f :=
  Device.event_taking (op := fun d => d.copyCut c r) (fun d p => by simp) (fun d => (Device.copyCut_moves c r .refl).port) d f
@[simp] theorem Device.captureEnd_taking (d : Device) (f : Frame) (c : Chan) (r : EndReason) :
    (d.taking f).captureEnd c r = (d.captureEnd c r).taking f :=
  Device.event_taking (op := fun d => d.captureEnd c r) (fun d p => by simp) (fun d => (Device.captureEnd_moves c r .refl).port) d f

@[simp] theorem Device.enterLoaded_taking (d : Device) (f : Frame) (c : Chan) :
    (d.taking f).enterLoaded c = (d.enterLoaded c).taking f := by simp [Device.enterLoaded]
@[simp] theorem Device.enterIdle_taking (d : Device) (f : Frame) (c : Chan) :
    (d.taking f).enterIdle c = (d.enterIdle c).taking f := by simp [Device.enterIdle]

@[simp] theorem Device.enterService_taking (d : Device) (f : Frame) (c : Chan) :
    (d.taking f).enterService c = (d.enterService c).taking f := by
  simp only [Device.enterService, Device.taking_chan]
  split <;> rename_i h <;> simp [h]

@[simp] theorem Device.afterResume_taking (d : Device) (f : Frame) (l : LotNo) :
    (d.taking f).afterResume l = (d.afterResume l).taking f := by
  simp only [Device.afterResume, Device.taking_lot]
  split <;> first | rfl | (split <;> rename_i h <;> simp [h])

@[simp] theorem Device.released_taking (d : Device) (f : Frame) (c : Chan) : (d.taking f).released c = (d.released c).taking f := by
  simp only [Device.released, Device.taking_chan, Device.resumeCopy, Device.reconsider, Device.modChan_taking]
  split <;> rename_i h <;> simp [h]

@[simp] theorem Device.abortCapture_taking (d : Device) (f : Frame) : (d.taking f).abortCapture = d.abortCapture.taking f := by
  simp only [Device.abortCapture, Device.taking_capture]
  split <;> simp

theorem answerState_taking {d e : Device} {f : Frame} (c : Chan) (h : e = d.taking f) :
    answerState e c = onTaking f (answerState d c) := by rw [h]; rfl

/-! ## Request by request -/

theorem workImageCreate_taking (i p c h : Byte) (l : List Byte) (d : Device) (f : Frame) :
    workImageCreate i p c h l (d.taking f) = onTaking f (workImageCreate i p c h l d) := by
  unfold workImageCreate
  refine withSlot_taking fun i => ?_
  refine withSlot_taking fun n => ?_
  refine checked_taking ?_ _
  rfl

theorem workImageSeal_taking (i : Byte) (d : Device) (f : Frame) :
    workImageSeal i (d.taking f) = onTaking f (workImageSeal i d) := by
  unfold workImageSeal
  refine withSlot_taking fun i => ?_
  exact checked_taking (d := d) (k := answerOk (d.setImage i _) _) rfl _

theorem workImageUnseal_taking (i : Byte) (d : Device) (f : Frame) :
    workImageUnseal i (d.taking f) = onTaking f (workImageUnseal i d) := by
  unfold workImageUnseal
  refine withSlot_taking fun i => ?_
  refine checked_taking ?_ _
  rfl

theorem workImageRetire_taking (i : Byte) (d : Device) (f : Frame) :
    workImageRetire i (d.taking f) = onTaking f (workImageRetire i d) := by
  unfold workImageRetire
  refine withSlot_taking fun i => ?_
  simp only [Device.taking_image, Device.taking_chan, Device.taking_lot, Device.taking_profile, Device.taking_store,
    Device.taking_capture, Device.taking_streamOn, Device.taking_streamOpen, unheldChecks, changeChecks, readChecks]
  refine checked_taking ?_ _
  split <;> rename_i h
  · exact (if_pos h).trans rfl
  · exact (if_neg h).trans rfl

theorem workImageDiscard_taking (i : Byte) (d : Device) (f : Frame) :
    workImageDiscard i (d.taking f) = onTaking f (workImageDiscard i d) := by
  unfold workImageDiscard
  refine withSlot_taking fun i => ?_
  exact checked_taking (d := d) (k := answerOk { d with store := d.store.vacate i } _) rfl _

theorem workImageQuery_taking (i : Byte) (d : Device) (f : Frame) :
    workImageQuery i (d.taking f) = onTaking f (workImageQuery i d) := by
  unfold workImageQuery
  refine withSlot_taking fun i => ?_
  rfl

theorem workTrackLoad_taking (ps : LoadParams) (d : Device) (f : Frame) :
    workTrackLoad ps (d.taking f) = onTaking f (workTrackLoad ps d) := by
  unfold workTrackLoad
  refine withSlot_taking fun i => ?_
  simp only [Device.taking_image, Device.taking_chan, Device.taking_lot, Device.taking_profile, Device.taking_store,
    Device.taking_capture, Device.taking_streamOn, Device.taking_streamOpen, unheldChecks, changeChecks, readChecks]
  refine checked_taking ?_ _
  cases d.store.claim (pageCount (dataLength (ps.entries.map entryOf)))
  · rfl
  · dsimp only
    split
    · rfl
    · refine checked_taking ?_ _; rfl

theorem workTrackFill_taking (ps : FillParams) (d : Device) (f : Frame) :
    workTrackFill ps (d.taking f) = onTaking f (workTrackFill ps d) := by
  unfold workTrackFill
  refine withSlot_taking fun i => ?_
  simp only [Device.taking_image, Device.taking_chan, Device.taking_lot, Device.taking_profile, Device.taking_store,
    Device.taking_capture, Device.taking_streamOn, Device.taking_streamOpen, unheldChecks, changeChecks, readChecks]
  refine checked_taking ?_ _
  cases d.store.claim 0 <;> rfl

theorem workTrackRemove_taking (im c h : Byte) (d : Device) (f : Frame) :
    workTrackRemove im c h (d.taking f) = onTaking f (workTrackRemove im c h d) := by
  unfold workTrackRemove
  refine withSlot_taking fun i => ?_
  simp only [Device.taking_image, Device.taking_chan, Device.taking_lot, Device.taking_profile, Device.taking_store,
    Device.taking_capture, Device.taking_streamOn, Device.taking_streamOpen, unheldChecks, changeChecks, readChecks]
  refine checked_taking ?_ _
  cases (d.image i).entry (keyOf c h) <;> rfl

theorem workTrackRead_taking (im c h : Byte) (d : Device) (f : Frame) :
    workTrackRead im c h (d.taking f) = onTaking f (workTrackRead im c h d) := by
  unfold workTrackRead
  refine withSlot_taking fun i => ?_
  simp only [Device.taking_image, Device.taking_chan, Device.taking_lot, Device.taking_profile, Device.taking_store,
    Device.taking_capture, Device.taking_streamOn, Device.taking_streamOpen, unheldChecks, changeChecks, readChecks]
  refine checked_taking ?_ _
  cases (d.image i).entry (keyOf c h)
  · rfl
  · dsimp only
    split <;> rename_i h
    · exact (if_pos h).trans rfl
    · refine (if_neg h).trans ?_
      refine checked_taking ?_ _; rfl

theorem workTrackQuery_taking (im c h a b : Byte) (d : Device) (f : Frame) :
    workTrackQuery im c h a b (d.taking f) = onTaking f (workTrackQuery im c h a b d) := by
  unfold workTrackQuery
  refine withSlot_taking fun i => ?_
  refine checked_taking ?_ _
  rfl

theorem workSectorPeek_taking (im c h j : Byte) (o : Half) (n : Byte) (d : Device) (f : Frame) :
    workSectorPeek im c h j o n (d.taking f) = onTaking f (workSectorPeek im c h j o n d) := by
  unfold workSectorPeek
  refine withSlot_taking fun i => ?_
  refine checked_taking ?_ _
  rfl

theorem workSectorAmend_taking (im c h j : Byte) (o : Half) (n : Byte) (bs : List Byte) (d : Device) (f : Frame) :
    workSectorAmend im c h j o n bs (d.taking f) = onTaking f (workSectorAmend im c h j o n bs d) := by
  unfold workSectorAmend
  refine withSlot_taking fun i => ?_
  simp only [Device.taking_image, Device.taking_chan, Device.taking_lot, Device.taking_profile, Device.taking_store,
    Device.taking_capture, Device.taking_streamOn, Device.taking_streamOpen, unheldChecks, changeChecks, readChecks]
  refine checked_taking ?_ _
  cases (d.image i).entry (keyOf c h)
  · rfl
  · refine checked_taking ?_ _; rfl

theorem workStreamAbort_taking (d : Device) (f : Frame) :
    workStreamAbort (d.taking f) = onTaking f (workStreamAbort d) := by
  unfold workStreamAbort
  rfl

theorem workProfileSet_taking (ps : ProfileParams) (d : Device) (f : Frame) :
    workProfileSet ps (d.taking f) = onTaking f (workProfileSet ps d) := by
  unfold workProfileSet
  refine withSlot_taking fun i => ?_
  refine checked_taking ?_ _
  split
  · rfl
  · refine checked_taking ?_ _; rfl

theorem workProfileQuery_taking (p : Byte) (d : Device) (f : Frame) :
    workProfileQuery p (d.taking f) = onTaking f (workProfileQuery p d) := by
  unfold workProfileQuery
  refine withSlot_taking fun i => ?_
  rfl

theorem workLotCreate_taking (ps : LotParams) (d : Device) (f : Frame) :
    workLotCreate ps (d.taking f) = onTaking f (workLotCreate ps d) := by
  unfold workLotCreate
  refine withSlot_taking fun i => ?_
  refine checked_taking ?_ _
  refine withSlot_taking fun n => ?_
  refine checked_taking ?_ _
  rfl

theorem workLotStart_taking (l : Byte) (d : Device) (f : Frame) :
    workLotStart l (d.taking f) = onTaking f (workLotStart l d) := by
  unfold workLotStart
  refine withSlot_taking fun i => ?_
  refine checked_taking ?_ _
  simp only [Device.taking_lot, Device.setLot_taking, Device.signalOpen_taking]
  rfl

theorem workLotHold_taking (l : Byte) (d : Device) (f : Frame) :
    workLotHold l (d.taking f) = onTaking f (workLotHold l d) := by
  unfold workLotHold
  refine withSlot_taking fun i => ?_
  refine checked_taking ?_ _
  rfl

theorem workLotResume_taking (l : Byte) (d : Device) (f : Frame) :
    workLotResume l (d.taking f) = onTaking f (workLotResume l d) := by
  unfold workLotResume
  refine withSlot_taking fun i => ?_
  refine checked_taking ?_ _
  simp only [Device.taking_lot, Device.setLot_taking, Device.afterResume_taking]
  rfl

theorem workLotClose_taking (l : Byte) (d : Device) (f : Frame) :
    workLotClose l (d.taking f) = onTaking f (workLotClose l d) := by
  unfold workLotClose
  refine withSlot_taking fun i => ?_
  simp only [Device.taking_image, Device.taking_chan, Device.taking_lot, Device.taking_profile, Device.taking_store,
    Device.taking_capture, Device.taking_streamOn, Device.taking_streamOpen, unheldChecks, changeChecks, readChecks]
  refine checked_taking ?_ _
  split <;> rename_i h
  · exact (if_pos h).trans rfl
  · exact (if_neg h).trans rfl

theorem workLotDelete_taking (l : Byte) (d : Device) (f : Frame) :
    workLotDelete l (d.taking f) = onTaking f (workLotDelete l d) := by
  unfold workLotDelete
  refine withSlot_taking fun i => ?_
  refine checked_taking ?_ _
  rfl

theorem workLotMark_taking (l : Byte) (m : Half) (d : Device) (f : Frame) :
    workLotMark l m (d.taking f) = onTaking f (workLotMark l m d) := by
  unfold workLotMark
  refine withSlot_taking fun i => ?_
  refine checked_taking ?_ _
  rfl

theorem workLotQuery_taking (l : Byte) (d : Device) (f : Frame) :
    workLotQuery l (d.taking f) = onTaking f (workLotQuery l d) := by
  unfold workLotQuery
  refine withSlot_taking fun i => ?_
  rfl

theorem workChannelEnable_taking (c : Byte) (d : Device) (f : Frame) :
    workChannelEnable c (d.taking f) = onTaking f (workChannelEnable c d) := by
  unfold workChannelEnable
  refine withSlot_taking fun i => ?_
  refine checked_taking ?_ _
  exact answerState_taking i (Device.enterService_taking d f i)

theorem workChannelDisable_taking (c : Byte) (d : Device) (f : Frame) :
    workChannelDisable c (d.taking f) = onTaking f (workChannelDisable c d) := by
  unfold workChannelDisable
  refine withSlot_taking fun i => ?_
  refine checked_taking ?_ _
  rfl

theorem workChannelAssign_taking (c l : Byte) (d : Device) (f : Frame) :
    workChannelAssign c l (d.taking f) = onTaking f (workChannelAssign c l d) := by
  unfold workChannelAssign
  refine withSlot_taking fun i => ?_
  cases lotOrNone l with
  | none => rfl
  | some o =>
    cases o <;> (refine checked_taking ?_ _; simp only [Device.modChan_taking, Device.reconsider, Device.answerSignal_taking]; rfl)

theorem workChannelHold_taking (c : Byte) (d : Device) (f : Frame) :
    workChannelHold c (d.taking f) = onTaking f (workChannelHold c d) := by
  unfold workChannelHold
  refine withSlot_taking fun i => ?_
  rfl

theorem workChannelRelease_taking (c : Byte) (d : Device) (f : Frame) :
    workChannelRelease c (d.taking f) = onTaking f (workChannelRelease c d) := by
  unfold workChannelRelease
  refine withSlot_taking fun i => ?_
  exact answerState_taking i (Device.released_taking d f i)

theorem workChannelAbort_taking (c : Byte) (d : Device) (f : Frame) :
    workChannelAbort c (d.taking f) = onTaking f (workChannelAbort c d) := by
  unfold workChannelAbort
  refine withSlot_taking fun i => ?_
  refine checked_taking ?_ _
  exact answerState_taking i (Device.copyCut_taking d f i _)

theorem workChannelEject_taking (c : Byte) (d : Device) (f : Frame) :
    workChannelEject c (d.taking f) = onTaking f (workChannelEject c d) := by
  unfold workChannelEject
  refine withSlot_taking fun i => ?_
  refine checked_taking ?_ _
  rfl

theorem workChannelClear_taking (c : Byte) (d : Device) (f : Frame) :
    workChannelClear c (d.taking f) = onTaking f (workChannelClear c d) := by
  unfold workChannelClear
  refine withSlot_taking fun i => ?_
  have h : (d.taking f).cleared i = (d.cleared i).map fun e => e.taking f := by
    simp only [Device.cleared, Device.taking_chan, Device.enterIdle_taking, Device.beginEject_taking, Device.modChan_taking,
      Device.enterService_taking]
    split <;> rfl
  rw [h]
  cases d.cleared i <;> rfl

theorem workChannelTiming_taking (c a b : Byte) (d : Device) (f : Frame) :
    workChannelTiming c a b (d.taking f) = onTaking f (workChannelTiming c a b d) := by
  unfold workChannelTiming
  refine withSlot_taking fun i => ?_
  refine checked_taking ?_ _
  rfl

theorem workChannelQuery_taking (c : Byte) (d : Device) (f : Frame) :
    workChannelQuery c (d.taking f) = onTaking f (workChannelQuery c d) := by
  unfold workChannelQuery
  refine withSlot_taking fun i => ?_
  rfl

theorem workCaptureStart_taking (c i g l k : Byte) (d : Device) (f : Frame) :
    workCaptureStart c i g l k (d.taking f) = onTaking f (workCaptureStart c i g l k d) := by
  unfold workCaptureStart
  refine withSlot_taking fun i => ?_
  refine withSlot_taking fun n => ?_
  refine checked_taking ?_ _
  rfl

theorem workCaptureAbort_taking (d : Device) (f : Frame) :
    workCaptureAbort (d.taking f) = onTaking f (workCaptureAbort d) := by
  unfold workCaptureAbort
  refine checked_taking ?_ _
  simp only [Device.abortCapture_taking]
  rfl

theorem workCaptureQuery_taking (d : Device) (f : Frame) :
    workCaptureQuery (d.taking f) = onTaking f (workCaptureQuery d) := by
  unfold workCaptureQuery
  rfl

theorem workNoticeRead_taking (d : Device) (f : Frame) :
    workNoticeRead (d.taking f) = onTaking f (workNoticeRead d) := by
  unfold workNoticeRead
  rfl

theorem workNoticeClear_taking (m : BitVec 24) (d : Device) (f : Frame) :
    workNoticeClear m (d.taking f) = onTaking f (workNoticeClear m d) := by
  unfold workNoticeClear
  rfl

theorem workNoticeEnable_taking (m : BitVec 24) (p : Byte) (d : Device) (f : Frame) :
    workNoticeEnable m p (d.taking f) = onTaking f (workNoticeEnable m p d) := by
  unfold workNoticeEnable
  refine checked_taking ?_ _
  rfl

theorem workStoreStatus_taking (d : Device) (f : Frame) :
    workStoreStatus (d.taking f) = onTaking f (workStoreStatus d) := by
  unfold workStoreStatus
  rfl

/-- A request other than PART RESET gives on the part at work on its frame what it gives on the part (R162). -/
theorem work_taking {r : Request} (hr : r ≠ .partReset) (d : Device) (f : Frame) :
    ∃ x : Response, (work r d).2 = some x ∧ work r (d.taking f) = ((work r d).1.taking f, some x) := by
  have key : ∀ {w : Device → Device × Response}, (w (d.taking f) = onTaking f (w d)) → 
      ∃ x : Response, (replied (w d)).2 = some x ∧ replied (w (d.taking f)) = ((replied (w d)).1.taking f, some x) :=
    fun {w} h => ⟨(w d).2, rfl, by rw [h]; rfl⟩
  cases r with
  | partReset => exact absurd rfl hr
  | imageCreate x1 x2 x3 x4 x5 => exact key (w := workImageCreate x1 x2 x3 x4 x5) (workImageCreate_taking x1 x2 x3 x4 x5 d f)
  | imageSeal x1 => exact key (w := workImageSeal x1) (workImageSeal_taking x1 d f)
  | imageUnseal x1 => exact key (w := workImageUnseal x1) (workImageUnseal_taking x1 d f)
  | imageRetire x1 => exact key (w := workImageRetire x1) (workImageRetire_taking x1 d f)
  | imageDiscard x1 => exact key (w := workImageDiscard x1) (workImageDiscard_taking x1 d f)
  | imageQuery x1 => exact key (w := workImageQuery x1) (workImageQuery_taking x1 d f)
  | trackLoad x1 => exact key (w := workTrackLoad x1) (workTrackLoad_taking x1 d f)
  | trackFill x1 => exact key (w := workTrackFill x1) (workTrackFill_taking x1 d f)
  | trackRemove x1 x2 x3 => exact key (w := workTrackRemove x1 x2 x3) (workTrackRemove_taking x1 x2 x3 d f)
  | trackRead x1 x2 x3 => exact key (w := workTrackRead x1 x2 x3) (workTrackRead_taking x1 x2 x3 d f)
  | trackQuery x1 x2 x3 x4 x5 => exact key (w := workTrackQuery x1 x2 x3 x4 x5) (workTrackQuery_taking x1 x2 x3 x4 x5 d f)
  | sectorPeek x1 x2 x3 x4 x5 x6 => exact key (w := workSectorPeek x1 x2 x3 x4 x5 x6) (workSectorPeek_taking x1 x2 x3 x4 x5 x6 d f)
  | sectorAmend x1 x2 x3 x4 x5 x6 x7 => exact key (w := workSectorAmend x1 x2 x3 x4 x5 x6 x7) (workSectorAmend_taking x1 x2 x3 x4 x5 x6 x7 d f)
  | streamAbort => exact key (w := workStreamAbort) (workStreamAbort_taking d f)
  | profileSet x1 => exact key (w := workProfileSet x1) (workProfileSet_taking x1 d f)
  | profileQuery x1 => exact key (w := workProfileQuery x1) (workProfileQuery_taking x1 d f)
  | lotCreate x1 => exact key (w := workLotCreate x1) (workLotCreate_taking x1 d f)
  | lotStart x1 => exact key (w := workLotStart x1) (workLotStart_taking x1 d f)
  | lotHold x1 => exact key (w := workLotHold x1) (workLotHold_taking x1 d f)
  | lotResume x1 => exact key (w := workLotResume x1) (workLotResume_taking x1 d f)
  | lotClose x1 => exact key (w := workLotClose x1) (workLotClose_taking x1 d f)
  | lotDelete x1 => exact key (w := workLotDelete x1) (workLotDelete_taking x1 d f)
  | lotMark x1 x2 => exact key (w := workLotMark x1 x2) (workLotMark_taking x1 x2 d f)
  | lotQuery x1 => exact key (w := workLotQuery x1) (workLotQuery_taking x1 d f)
  | channelEnable x1 => exact key (w := workChannelEnable x1) (workChannelEnable_taking x1 d f)
  | channelDisable x1 => exact key (w := workChannelDisable x1) (workChannelDisable_taking x1 d f)
  | channelAssign x1 x2 => exact key (w := workChannelAssign x1 x2) (workChannelAssign_taking x1 x2 d f)
  | channelHold x1 => exact key (w := workChannelHold x1) (workChannelHold_taking x1 d f)
  | channelRelease x1 => exact key (w := workChannelRelease x1) (workChannelRelease_taking x1 d f)
  | channelAbort x1 => exact key (w := workChannelAbort x1) (workChannelAbort_taking x1 d f)
  | channelEject x1 => exact key (w := workChannelEject x1) (workChannelEject_taking x1 d f)
  | channelClear x1 => exact key (w := workChannelClear x1) (workChannelClear_taking x1 d f)
  | channelTiming x1 x2 x3 => exact key (w := workChannelTiming x1 x2 x3) (workChannelTiming_taking x1 x2 x3 d f)
  | channelQuery x1 => exact key (w := workChannelQuery x1) (workChannelQuery_taking x1 d f)
  | captureStart x1 x2 x3 x4 x5 => exact key (w := workCaptureStart x1 x2 x3 x4 x5) (workCaptureStart_taking x1 x2 x3 x4 x5 d f)
  | captureAbort => exact key (w := workCaptureAbort) (workCaptureAbort_taking d f)
  | captureQuery => exact key (w := workCaptureQuery) (workCaptureQuery_taking d f)
  | noticeRead => exact key (w := workNoticeRead) (workNoticeRead_taking d f)
  | noticeClear x1 => exact key (w := workNoticeClear x1) (workNoticeClear_taking x1 d f)
  | noticeEnable x1 x2 => exact key (w := workNoticeEnable x1 x2) (workNoticeEnable_taking x1 x2 d f)
  | storeStatus => exact key (w := workStoreStatus) (workStoreStatus_taking d f)

/-- The same, in the terms of the obligations: a request row other than PART RESET on a ready port leaves what its owning block makes
of the part, and its reply is the newest of the reply queue (R161, R162, R164). -/
theorem Device.submit_worked {d : Device} (h : PortReady d) {tag : Byte} {r : Request} (hr : r ≠ .partReset)
    (hd : decodeRequest r.code r.params = .ok r) (hl : (r.body tag).length ≤ 256) :
    ∃ x : Response, (work r d).2 = some x ∧ d.submit tag r = (work r d).1.answered tag r.code x.completion x.result := by
  obtain ⟨x, hx, hw⟩ := work_taking hr d ⟨r.code, r.body tag, false⟩
  obtain ⟨st, b, hp⟩ := (work_works hr d).1.port
  exact ⟨x, hx, Device.submit_answered h hd hl (by rw [hp]; exact h.empty) (by rw [hp]; exact h.idle) hw⟩

end Sys2Proof.Machine
end

