-- ==== Sys2Proof/Machine/WriteLine.lean ====
section
/-! DEFINITION. The write data line of a bay while its write gate is asserted: the tail that follows the last slot (R31), the bit
cells of every byte (R28), and how far the write has come when the gate drops. -/

namespace Sys2Proof.Machine

/-! ## Bit cells (R28) -/

/-- A bit cell: its data bit and its clock bit (R28). -/
structure Cell where
  data : Bool
  clock : Bool
  deriving DecidableEq, Repr

/-- The byte of a symbol. -/
def Sym.value : Sym → Byte
  | .mark b => b
  | .byte b => b

/-- The bits of a byte, most significant first (R28). -/
def bitsOf (b : Byte) : List Bool :=
  [b.getLsbD 7, b.getLsbD 6, b.getLsbD 5, b.getLsbD 4, b.getLsbD 3, b.getLsbD 2, b.getLsbD 1, b.getLsbD 0]

/-- Data bits in double density with normal clocks, after a data bit `before`: the clock bit of a cell is 1 when neither its own data
bit nor the one before it is (R28; PRESUMED, log 30). -/
def cellsOfBits (before : Bool) : List Bool → List Cell
  | [] => []
  | x :: xs => ⟨x, !before && !x⟩ :: cellsOfBits x xs

/-- The 8 bit cells of a byte with normal clocks (R28). -/
def byteCells (before : Bool) (b : Byte) : List Cell := cellsOfBits before (bitsOf b)

/-- Suppress the clock bit numbered `k` among those that are 1. -/
def suppressClock : Nat → List Cell → List Cell
  | _, [] => []
  | k, x :: xs =>
    if x.clock then
      match k with
      | 0 => { x with clock := false } :: xs
      | k + 1 => x :: suppressClock k xs
    else x :: suppressClock k xs

/-- The 8 bit cells of a prefix byte written as a mark: one clock bit within it is suppressed, at a position the manual leaves open
(R28, log 30). -/
def markCells (before : Bool) (b : Byte) : List Cell :=
  suppressClock (Config.suppressedClock b % (byteCells before b).countP Cell.clock) (byteCells before b)

/-- The 8 bit cells of a symbol, after a data bit `before` (R28). -/
def Sym.cells (before : Bool) : Sym → List Cell
  | .byte b => byteCells before b
  | .mark b => markCells before b

/-- The bit cells of a run of symbols, after a data bit `before`. -/
def cellsOfRun (before : Bool) : List Sym → List Cell
  | [] => []
  | x :: xs => x.cells before ++ cellsOfRun (x.value.getLsbD 0) xs

/-- The time a byte takes in µs: 16 at 500 kbit/s, 32 at 250 kbit/s (R28). -/
def byteTime (rate : Nat) : Nat := 8000 / rate

/-- The whole bit cells that pass in some µs (R28, R34). -/
def cellsIn (rate elapsed : Nat) : Nat := rate * elapsed / 1000

/-! ## The line while the write gate is asserted (R31, R126) -/

/-- The byte of the tail (R31). -/
def tailByte : Byte := 0x4E

/-- The first `k` bytes on the write data line from the opening pulse on: the lead-in, the slots, and then the tail, 4Eh for as long
as the gate stays asserted (R31, R126); none while it is not. -/
def Outputs.symbols (o : Outputs) (k : Nat) : List Sym :=
  if o.writeGate then (o.writeData ++ List.replicate (k - o.writeData.length) (Sym.byte tailByte)).take k else []

/-- The first `k` bit cells on the write data line from the opening pulse on (R28). When the gate drops after `k` cells these are all
that has been written, whether or not the last byte is complete (R31). -/
def Outputs.cells (o : Outputs) (k : Nat) : List Cell :=
  (cellsOfRun Config.bitBeforeWrite (o.symbols ((k + 7) / 8))).take k

/-- The rate at which a channel writes: that of the image it copies (R122). -/
def Device.writeRate (d : Device) (c : Chan) : Nat :=
  match (d.chan c).ctx with
  | some x => (d.image x.image).rate
  | none => 0

/-- The bit cells a channel has written when an event arrives `elapsed` µs after the opening pulse. At the pulse that ends the write
revolution, and at any end of the copy before it, the gate drops there, in whatever bit cell the write has reached (R31, R138,
R142). -/
def Device.written (d : Device) (c : Chan) (elapsed : Nat) : List Cell :=
  (d.chan c).out.cells (cellsIn (d.writeRate c) elapsed)

end Sys2Proof.Machine
end

