-- ==== Sys2Proof/Laws/WriteLine.lean ====
section
/-! SUPPORT. What the write data line carries: nothing with the gate off, 8 bit cells a byte, 4Eh past the last slot, and marks that
no byte with normal clocks looks like. -/

namespace Sys2Proof.Machine

@[simp] theorem Outputs.symbols_closed {o : Outputs} (h : o.writeGate = false) (k : Nat) : o.symbols k = [] := by
  simp [Outputs.symbols, h]

@[simp] theorem Outputs.cells_closed {o : Outputs} (h : o.writeGate = false) (k : Nat) : o.cells k = [] := by
  simp [Outputs.cells, h, cellsOfRun]

/-- While the gate is asserted the line carries as many bytes as are asked for. -/
theorem Outputs.symbols_length {o : Outputs} (h : o.writeGate = true) (k : Nat) : (o.symbols k).length = k := by
  simp [Outputs.symbols, h]
  omega

/-- Past the last slot the line carries 4Eh (R31). -/
theorem Outputs.symbols_tail {o : Outputs} (h : o.writeGate = true) {j k : Nat} (hj : o.writeData.length ≤ j) (hk : j < k) :
    (o.symbols k)[j]? = some (.byte 0x4E) := by
  simp only [Outputs.symbols, h, if_true]
  rw [List.getElem?_take_of_lt hk, List.getElem?_append_right hj, List.getElem?_replicate_of_lt (by omega)]
  rfl

/-- Up to the last slot's end the line carries the lead-in and the slots (R126). -/
theorem Outputs.symbols_run {o : Outputs} (h : o.writeGate = true) {j k : Nat} (hj : j < o.writeData.length) (hk : j < k) :
    (o.symbols k)[j]? = o.writeData[j]? := by
  simp only [Outputs.symbols, h, if_true]
  rw [List.getElem?_take_of_lt hk, List.getElem?_append_left hj]

/-- From the opening pulse of a write revolution on, the line carries the plan's track and then the tail (R126, R31). -/
theorem Channel.openWrite_symbols (ch : Channel) {x : CopyContext} {p : Plan} (m : List Host.Cell) (count k : Nat)
    (hp : x.plan = some p) : (ch.openWrite x m count).out.symbols k =
      (writeStream m p ++ List.replicate (k - (writeStream m p).length) (Sym.byte 0x4E)).take k := by
  simp [Channel.openWrite, Outputs.symbols, hp, tailByte]

/-- From the pulse that ends it on, the line carries nothing (R127). -/
@[simp] theorem Channel.closeWrite_cells (ch : Channel) (k : Nat) : ch.closeWrite.out.cells k = [] :=
  Outputs.cells_closed rfl k

theorem suppressClock_data : ∀ (k : Nat) (cs : List Cell), (suppressClock k cs).map Cell.data = cs.map Cell.data
  | _, [] => rfl
  | k, x :: xs => by
    unfold suppressClock
    split
    · split
      · rfl
      · simp [suppressClock_data]
    · simp [suppressClock_data]

theorem cellsOfBits_data : ∀ (before : Bool) (bs : List Bool), (cellsOfBits before bs).map Cell.data = bs
  | _, [] => rfl
  | _, x :: xs => by simp [cellsOfBits, cellsOfBits_data]

/-- A symbol's cells carry the bits of its byte, most significant first (R28). -/
@[simp] theorem Sym.cells_data (before : Bool) (x : Sym) : (x.cells before).map Cell.data = bitsOf x.value := by
  cases x <;> simp [Sym.cells, markCells, byteCells, Sym.value, suppressClock_data, cellsOfBits_data]

/-- A byte takes 8 bit cells, as a mark too (R28). -/
@[simp] theorem Sym.cells_length (before : Bool) (x : Sym) : (x.cells before).length = 8 := by
  have h := congrArg List.length (Sym.cells_data before x)
  rwa [List.length_map] at h

theorem cellsOfRun_length : ∀ (before : Bool) (xs : List Sym), (cellsOfRun before xs).length = 8 * xs.length
  | _, [] => rfl
  | _, x :: xs => by
    simp [cellsOfRun, cellsOfRun_length]
    omega

/-- A write cut off after `k` bit cells has written just those, whether or not they end a byte (R31). -/
theorem Outputs.cells_length {o : Outputs} (h : o.writeGate = true) (k : Nat) : (o.cells k).length = k := by
  simp only [Outputs.cells, List.length_take, cellsOfRun_length, Outputs.symbols_length h]
  omega

/-- No byte has the bit cells of a mark prefix byte, wherever the suppressed clock stands (R28). -/
theorem markCells_ne_byteCells (before before' : Bool) {b : Byte} (hb : b = 0xA1 ∨ b = 0xC2) (b' : Byte) :
    markCells before b ≠ byteCells before' b' := by
  have key : ∀ v ∈ ([0xA1, 0xC2] : List Byte), ∀ x y : Bool, (byteCells x v).countP Cell.clock = 3 ∧
      ∀ k < 3, suppressClock k (byteCells x v) ≠ byteCells y v := by decide
  have hv : b ∈ ([0xA1, 0xC2] : List Byte) := by simpa using hb
  intro h
  have hd := congrArg (List.map Cell.data) h
  rw [show markCells before b = (Sym.mark b).cells before from rfl, show byteCells before' b' = (Sym.byte b').cells before' from rfl,
    Sym.cells_data, Sym.cells_data] at hd
  have hbb : b = b' := by
    simp only [Sym.value, bitsOf, List.cons.injEq, and_true] at hd
    obtain ⟨h7, h6, h5, h4, h3, h2, h1, h0⟩ := hd
    refine BitVec.eq_of_getLsbD_eq fun i hi => ?_
    interval_cases i <;> assumption
  subst hbb
  obtain ⟨h3, hk⟩ := key b hv before before'
  unfold markCells at h
  rw [h3] at h
  exact hk _ (Nat.mod_lt _ (by decide)) h

end Sys2Proof.Machine
end

