-- ==== Sys2Proof/Tests/Slice0.lean ====
section
/-! SUPPORT. Tests: the well-formedness smoke, figures worked in the manual, single steps, and for each statement with hypotheses a
concrete case of each of them. Expected results come from the manual's tables and rules. -/

namespace Sys2Proof.Machine

-- One kernel evaluation at a time: side by side they need more memory than the check allows.
set_option Elab.async false

/-! ## Well-formedness: each check refuses an ill-formed term -/

theorem test_wf_label :
    (Request.imageCreate 0 0 1 1 (List.replicate 15 0)).wellFormed = false ∧
    (Request.imageCreate 0 0 1 1 (List.replicate 17 0)).wellFormed = false ∧
    (Request.imageCreate 0 0 1 1 (List.replicate 16 0)).wellFormed = true := by decide

theorem test_wf_entries :
    (Request.trackLoad ⟨0, 0, 0, 8, 1, 0, 2, [⟨0, 0, 1, 2, 0, 0⟩]⟩).wellFormed = false ∧
    (Request.trackLoad ⟨0, 0, 0, 8, 1, 0, 41, List.replicate 41 ⟨0, 0, 1, 2, 0, 0⟩⟩).wellFormed = false ∧
    (Request.trackLoad ⟨0, 0, 0, 8, 1, 0, 40, List.replicate 40 ⟨0, 0, 1, 2, 0, 0⟩⟩).wellFormed = true := by decide +kernel

theorem test_wf_amend :
    (Request.sectorAmend 0 0 0 0 0 1 (List.replicate 249 0)).wellFormed = false ∧
    (Request.sectorAmend 0 0 0 0 0 1 (List.replicate 248 0)).wellFormed = true := by decide +kernel

/-! ## Figures of chapter 2 -/

/-- R32's figures. -/
theorem test_crc : crc [0xA1, 0xA1, 0xA1] = 0xCDB4 ∧ crc [0xA1, 0xA1, 0xA1, 0xFE, 0, 0, 1, 2] = 0xCA6F ∧
    crcGood idType [0, 0, 1, 2, 0xCA, 0x6F] = true ∧ crcGood idType [0, 0, 1, 3, 0xCA, 0x6F] = false := by decide +kernel

/-- R35's table. -/
theorem test_capacity : capacity 250 196000 = 6125 ∧ usable 250 198000 = 6091 ∧ usable 250 200000 = 6153 ∧
    usable 500 196000 = 12059 ∧ capacity 500 204000 = 12750 ∧ usable 500 204000 = 12551 := by decide

/-- The fit cases worked in section 2.4. -/
theorem test_fit : gapMax 500 200000 18 9216 = some 104 ∧ gapMax 500 198000 20 10240 = some 30 ∧
    fitsAtLoad 500 21 10752 = false ∧ gapMax 500 199000 20 10752 = some 7 ∧ gapMax 500 196000 20 10752 = none ∧
    fitsAtLoad 500 20 10752 = true := by decide

/-- The tails worked in sections 2.2 and 2.4. -/
theorem test_tail :
    tailLength 500 200000 84 (List.replicate 18 ⟨0, 0, 0, 2, .normal, .data⟩) = 576 ∧
    tailLength 500 196000 24 (List.replicate 20 ⟨0, 0, 0, 2, .normal, .data⟩) = 210 := by decide +kernel

/-- The outputs of a channel that writes `w`. -/
def writing (w : List Sym) : Outputs := ⟨true, 0, false, 0, true, w, false, false, .good⟩

/-- The positions of section 2.2, on a track of 18 sectors of 512 bytes with gap 3 of 84, and the times of R28. -/
theorem test_writtenTrack :
    let slot := slotRun ⟨0, 0, 1, 2, .normal, .data⟩ (List.replicate 512 0xE5) 84
    let o := writing (leadIn ++ (List.replicate 18 slot).flatten)
    (∀ k ∈ [76, 80 + 12, 738 + 12, 11266 + 12], ∃ b, (o.symbols 12500)[k]? = some (.mark b)) ∧
    o.writeData.length = 11924 ∧ (o.symbols 12500).drop 11924 = List.replicate 576 (.byte 0x4E) ∧
    cellsIn 500 200000 = 8 * 12500 ∧ byteTime 500 * 11924 = 190784 ∧ byteTime 250 = 32 := by
  dsimp only
  refine ⟨fun k hk => ?_, by decide +kernel, by decide +kernel, by decide, by decide, by decide⟩
  simp only [List.mem_cons, List.not_mem_nil, or_false] at hk
  rcases hk with rfl | rfl | rfl | rfl
  · exact ⟨0xC2, by decide +kernel⟩
  all_goals exact ⟨0xA1, by decide +kernel⟩

/-- R28 and R31: most significant bit first, the tail after the last symbol, and a gate that drops within a byte: 11 cells at
500 kbit/s take 22 µs. -/
theorem test_cells : ((writing [.byte 0xA3]).cells (cellsIn 500 22)).map Cell.data =
    [true, false, true, false, false, false, true, true, false, true, false] := by decide

/-- The slot mappings worked in section 2.5. -/
theorem test_slots : slotMap 9 2 3 = [3, 8, 4, 0, 5, 1, 6, 2, 7] ∧ slotMap 8 2 0 = [0, 4, 1, 5, 2, 6, 3, 7] ∧
    slotMap 6 3 2 = [3, 5, 0, 2, 4, 1] ∧ slotMap 9 9 0 = [0, 1, 2, 3, 4, 5, 6, 7, 8] := by decide

/-- R41's table. -/
theorem test_default_skew :
    ([⟨0, 0⟩, ⟨0, 1⟩, ⟨1, 0⟩, ⟨4, 1⟩, ⟨5, 0⟩, ⟨83, 1⟩] : List Key).map
      (fun k => (defaultTrack ⟨9, 2, 1, 80, 0xE5, 1, 2, 1⟩ k).skew) = [0, 1, 2, 0, 1, 5] := by decide

/-- R33: a reader finds the blocks of R30 between gaps, passes over the index mark and other type bytes, and takes A1h with normal
clocks for data. -/
theorem test_readTrack :
    readTrack 0 (leadIn ++ slotRun ⟨0, 0, 1, 0, .deleted, .data⟩ [0xA1, 0xA1, 0xA1, 0xFE] 8 ++ markRun 0xA1 0x12 ++ byteRun [0x4E]) =
      [.id 0 0 1 0 0xEA 0x2D,
        .data .deleted ([0xA1, 0xA1, 0xA1, 0xFE] ++ crcBytes (crc [0xA1, 0xA1, 0xA1, 0xF8, 0xA1, 0xA1, 0xA1, 0xFE]) ++
          List.replicate 8 0x4E)] := by decide +kernel

/-- The default track's sum and identification, as section 1.8 and R21 give them. -/
theorem test_default_track :
    (defaultTrack ⟨9, 2, 1, 80, 0xE5, 1, 0, 0⟩ ⟨2, 1⟩).sum = 6656 ∧
    (defaultTrack ⟨9, 2, 1, 80, 0xE5, 1, 0, 0⟩ ⟨2, 1⟩).sectors[8]? = some ⟨2, 1, 9, 2, .normal, .fill 0xE5⟩ := by decide

/-- The renderings of section 2.8. -/
theorem test_rendering : renderSerial .ascii 6 1042 = [0x30, 0x30, 0x31, 0x30, 0x34, 0x32] ∧
    renderSerial .bcd 7 1042 = [0x00, 0x00, 0x10, 0x42] ∧ renderSerial .bcd 4 500 = [0x05, 0x00] ∧
    renderSerial .bcd 5 12345 = [0x01, 0x23, 0x45] ∧ renderSerial .bcd 8 99999999 = [0x99, 0x99, 0x99, 0x99] ∧
    patchWidth .bcd 7 = 4 ∧ patchWidth .bcd 4 = 2 := by decide

/-- The expected sums of section 2.7. -/
theorem test_expected_sum : patchedSum 0x4A10 (List.replicate 6 0x20) (renderSerial .ascii 6 1042) = 0x4A77 ∧
    patchedSum 0x0010 (List.replicate 4 0xFF) (renderSerial .ascii 4 7) = 0xFCDB := by decide

/-! ## Image memory (R3) -/

/-- Writes keep the canonical form and are read back; offset 2050 lies in the second page of the list. -/
theorem test_memory : memWrite (memWrite [] 7 1) 3 2 = [(3, 2), (7, 1)] ∧ memWrite [(3, 2), (7, 1)] 3 0 = [(7, 1)] ∧
    memRead [(3, 2), (7, 1)] 7 = 1 ∧ memRead [(3, 2), (7, 1)] 4 = unlistedByte ∧
    dataAddress [100, 5] 2050 = some (2048 * 5 + 2) ∧ Memory.wf [(3, 2), (7, 1)] ∧ Memory.wf State.reset.dev.store.memory := by
  decide

/-! ## The engine reads the parameters of section 8.9 out of a frame -/

theorem test_decode_frames :
    decodeRequest 0x11 [5] = .ok (.imageSeal 5) ∧
    decodeRequest 0x25 [1, 2, 0, 4, 0x10, 0x01, 6] = .ok (.sectorPeek 1 2 0 4 0x0110 6) ∧
    decodeRequest 0x46 [3, 0x34, 0x12] = .ok (.lotMark 3 0x1234) ∧
    decodeRequest 0x58 [2, 3, 15] = .ok (.channelTiming 2 3 15) ∧
    decodeRequest 0x60 [0, 1, 0, 79, 2] = .ok (.captureStart 0 1 0 79 2) ∧
    decodeRequest 0x72 [0x01, 0x00, 0x20, 1] = .ok (.noticeEnable 0x200001 1) := by decide

theorem test_decode_checks : decodeRequest 0x16 [0] = .error .badCode ∧ decodeRequest 0x11 [] = .error .badLength ∧
    decodeRequest 0x20 [0, 0, 0, 8, 1, 0, 1, 0, 0, 0, 0, 0] = .error .badLength := by decide

/-- No word of the table spells a command (log 3). -/
theorem test_no_words : decodeTableWord 32 0 = none ∧ decodeTableWord 8 0x11 = none := by decide

/-! ## A part at work -/

def onPort (f : Port → Port) (d : Device) : Device := { d with port := f d.port }
def onImage (i : ImageNo) (f : Image → Image) (d : Device) : Device := d.setImage i (f (d.image i))
def onRecord (r : RecNo) (f : TrackRecord → TrackRecord) (d : Device) : Device :=
  { d with store := d.store.setRecord r (f (d.store.record r)) }
def onLot (l : LotNo) (f : Lot → Lot) (d : Device) : Device := d.setLot l (f (d.lot l))
def onCapture (f : CaptureContext → CaptureContext) (d : Device) : Device := { d with capture := f d.capture }
def waiting (d : Device) (cs : List Instr) : State := { dev := d, pending := cs }
abbrev alone (d : Device) : State := waiting d []

/-- The layout of profile P0. -/
def layout0 : Layout := ⟨9, 2, 1, 80, 0xE5, 1, 0, 0⟩

/-- A track of one sector of 512 DATA bytes in one page. -/
def dataTrack (page : Nat) : Track := ⟨80, 1, 0, [⟨0, 0, 1, 2, .normal, .data⟩], 512, [page], 0⟩

/-- A track of one FILL sector. -/
def fillTrack : Track := ⟨80, 1, 0, [⟨0, 1, 1, 2, .normal, .fill 0⟩], 0, [], 0⟩

def heldRecord (i : ImageNo) (key : Key) (t : Track) : TrackRecord := ⟨.present, .linked, false, i, key, t⟩

def titleImage (state : ImageState) (cyls heads : Nat) (dir : List (Option RecNo)) : Image :=
  { Image.vacant with state := state, cylinders := cyls, heads := heads, rate := 250, layout := layout0, directory := dir,
                      presentTracks := dir.countP Option.isSome }

def runningCopy : CopyContext :=
  { beginContext 2 { Lot.vacant with image := 2, digits := 4, verify := .crc, retryLimit := 3, budget := 16 } (some 1) with
    key := some ⟨0, 0⟩, phase := some .indexWait, attempt := 1, plan := some (makePlan [] (dataTrack 1) 80 none) }

def title (state : LotState) (next : Nat) : Lot :=
  { Lot.vacant with state := state, image := 2, target := 10, digits := 4, first := 1, last := 9999, next := next,
                    reissueEnable := true, patch := some ⟨0, 0, 0, 16⟩, verify := .crc, retryLimit := 3, budget := 16 }

def offline : Channel := Channel.reset false ⟨false, false, false⟩

/-- A channel whose diskette turns. -/
def turning (state : ChanState) (work : Work) : Channel :=
  { offline with state := state, work := work, media := true, period := 200000, calibrated := true,
                 out := { Outputs.inactive with motor := true }, timers := { Timers.stopped with index := some 400 } }

/-- Images: I1 building, I2 sealed with four lots and a copy, I3 sealed, I4 being captured. Lots: L1 READY, L2 RUNNING with a copy
in flight, L3 HELD, L4 CLOSED, L5 EXHAUSTED. Channels: C0 OFFLINE, C1 IDLE, C2 LOADED, C3 COPYING, C4 CAPTURING, C5 FAULT. The
outbound stream reads track (0, 0) of I1. -/
def tower : Device :=
  { port := { Port.reset 0 with stream := .outbound 0 512 }
    store :=
      { images := #v[Image.vacant,
          { titleImage .building 2 2 [some 0, some 1, none, none] with pagesHeld := 1 },
          { titleImage .sealed 1 1 [some 2] with pagesHeld := 1, bindings := 4, pins := 1 },
          titleImage .sealed 1 1 [none],
          { titleImage .building 1 1 [none] with captureOwner := some 4 }, Image.vacant, Image.vacant, Image.vacant]
        records := (((Store.reset.setRecord 0 { heldRecord 1 ⟨0, 0⟩ (dataTrack 0) with readPin := true }).setRecord 1
          (heldRecord 1 ⟨0, 1⟩ fillTrack)).setRecord 2 (heldRecord 2 ⟨0, 0⟩ (dataTrack 1))).records
        freePages := (List.range 2048).drop 2, memory := [] }
    profiles := profilesReset
    lots := #v[Lot.vacant, title .ready 1, { title .running 2 with inFlight := 1 }, title .held 1,
      { title .closed 11 with good := 10 }, { title .exhausted 2 with last := 1, void := 1 }, Lot.vacant, Lot.vacant]
    channels := #v[offline, { offline with state := .idle }, { offline with state := .loaded, media := true },
      { turning .copying .copy with lot := some 2, ctx := some runningCopy }, turning .capturing .capture,
      { offline with state := .fault, fault := some (.speed 204100) }]
    capture := { CaptureContext.reset with state := .running, channel := some 4, image := some 4, headCount := 1,
                                           key := some ⟨0, 0⟩, phase := some .indexWait }
    notices := Notices.reset
    resetInput := false
    freeCount := 0 }

theorem tower_ready : PortReady tower := ⟨rfl, rfl, rfl, by decide⟩

/-! ## The tower is in order -/

theorem tower_host : HostSideOk tower :=
  ⟨⟨by decide, by decide, rfl, fun h => absurd rfl h, fun _ h => (List.not_mem_nil h).elim, fun _ h => (by cases h), by decide⟩,
    ⟨by decide, by decide⟩⟩

theorem reset_record (r : RecNo) : Store.reset.record r = TrackRecord.free := by
  simp [Store.reset, Store.record, Vector.get]

theorem tower_record (r : RecNo) : tower.store.record r =
    if 2 = r then heldRecord 2 ⟨0, 0⟩ (dataTrack 1) else if 1 = r then heldRecord 1 ⟨0, 1⟩ fillTrack
    else if 0 = r then { heldRecord 1 ⟨0, 0⟩ (dataTrack 0) with readPin := true } else TrackRecord.free := by
  have h : tower.store.record r = (((Store.reset.setRecord 0
      { heldRecord 1 ⟨0, 0⟩ (dataTrack 0) with readPin := true }).setRecord 1 (heldRecord 1 ⟨0, 1⟩ fillTrack)).setRecord 2
      (heldRecord 2 ⟨0, 0⟩ (dataTrack 1))).record r := rfl
  rw [h, Store.setRecord_record, Store.setRecord_record, Store.setRecord_record, reset_record]

theorem tower_pages : PagesOk tower.store := by
  have hh : tower.store.heldPages = [0, 1] := by decide +kernel
  have hf : tower.store.freePages = (List.range 2048).drop 2 := by simp only [tower]
  refine ⟨?_, ?_, fun r => ?_⟩
  · have h2 : ([0, 1] : List Nat) = (List.range 2048).take 2 := by decide +kernel
    rw [hh, hf, h2]
    exact List.perm_append_comm.trans (by rw [List.take_append_drop])
  · rw [hf]; exact List.pairwise_lt_range.drop
  · rw [tower_record]; split_ifs <;> decide

theorem runningCopy_ok : ContextOk runningCopy :=
  ⟨rfl, fun p hp => by cases hp; exact ⟨by decide, fun _ => by decide⟩⟩

theorem tower_bays : BaysOk tower := by
  refine ⟨fun c => ?_, by decide +kernel⟩
  fin_cases c <;> constructor <;>
    first
    | decide +kernel
    | exact rfl
    | exact trivial
    | (intro x h; cases h; done)
    | (intro x h; cases h; exact runningCopy_ok)

theorem tower_accounts : AccountsOk tower := by
  refine ⟨fun l => ?_, fun i => ?_, fun c => ?_, by decide +kernel⟩
  · fin_cases l <;> constructor <;> first | decide +kernel | exact rfl | exact trivial
  · fin_cases i
    all_goals constructor <;> decide +kernel
  · fin_cases c <;> intro x h <;> cases h <;> decide +kernel

theorem tower_carries {c : Chan} {l : LotNo} {n : Nat} (h : tower.carries c l n) : c = 3 ∧ l = 2 ∧ n = 1 := by
  obtain ⟨x, hx, hl, hn⟩ := h
  fin_cases c <;> cases hx
  exact ⟨rfl, hl.symm, (Option.some.inj hn).symm⟩

theorem tower_serials (l : LotNo) : SerialsOk tower l := by
  refine ⟨by revert l; decide +kernel, by revert l; decide +kernel, fun c x h => ?_, fun c c' x h h' => ?_⟩
  · obtain ⟨-, rfl, rfl⟩ := tower_carries h
    decide +kernel
  · rw [(tower_carries h).1, (tower_carries h').1]

def towerDirectory : ImageNo → List (Option RecNo)
  | 1 => [some 0, some 1, none, none]
  | 2 => [some 2]
  | 3 => [none]
  | 4 => [none]
  | _ => []

theorem tower_directory : ∀ i, (tower.image i).directory = towerDirectory i := by decide +kernel

theorem tower_named (i : ImageNo) (k : Nat) (r : RecNo) (h : (towerDirectory i)[k]? = some (some r)) :
    (tower.store.record r).state = .present ∧ (tower.store.record r).link = .linked ∧ (tower.store.record r).image = i ∧
      (tower.image i).hasKey (tower.store.record r).key = true ∧ (tower.image i).entryAt (tower.store.record r).key = k := by
  have hk : k < (towerDirectory i).length := (List.getElem?_eq_some_iff.mp h).1
  have hl : ∀ i, (towerDirectory i).length ≤ 4 := by decide
  have hl := hl i
  have : k = 0 ∨ k = 1 ∨ k = 2 ∨ k = 3 := by omega
  rcases this with rfl | rfl | rfl | rfl <;> fin_cases i <;> simp [towerDirectory] at h <;> subst h <;> decide +kernel

theorem tower_stream : tower.port.stream = .outbound 0 512 := rfl

theorem tower_records (r : RecNo) : (tower.store.record r).state ≠ .loading ∧ ((tower.store.record r).readPin = true ↔ r = 0) ∧
    (tower.store.record r).link = .linked ∧ ((tower.store.record r).state = .present →
      (tower.image (tower.store.record r).image).entry (tower.store.record r).key = some r) := by
  rw [tower_record]
  split_ifs with h2 h1 h0
  · subst h2; decide +kernel
  · subst h1; decide +kernel
  · subst h0; decide +kernel
  · exact ⟨by decide, ⟨fun h => (by cases h), fun h => absurd h.symm h0⟩, by decide, fun h => by cases h⟩

theorem tower_capture : tower.capture.image = some 4 ∧ tower.capture.key = some ⟨0, 0⟩ ∧ tower.capture.lastCyl = 0 ∧
    tower.capture.firstCyl = 0 ∧ tower.capture.headCount = 1 ∧ (tower.image 4).state = .building ∧
    (tower.image 4).captureOwner = some 4 ∧ (tower.image 4).cylinders = 1 ∧ (tower.image 4).heads = 1 := by decide +kernel

theorem tower_directories : DirectoriesOk tower where
  size := by decide +kernel
  named := fun i k r h => tower_named i k r (by rw [← tower_directory]; exact h)
  entered := fun r h _ => (tower_records r).2.2.2 h
  loading := fun r => ⟨fun h => absurd h (tower_records r).1, fun ⟨_, h⟩ => (by rw [tower_stream] at h; cases h)⟩
  loadingKey := fun r h => absurd h (tower_records r).1
  reading := fun r => ⟨fun h => ⟨512, by rw [(tower_records r).2.1.mp h, tower_stream]⟩,
    fun ⟨_, h⟩ => (tower_records r).2.1.mpr (by rw [tower_stream] at h; cases h; rfl)⟩
  readPresent := fun r h => by rw [(tower_records r).2.1.mp h]; decide +kernel
  unlinked := fun r h => by rw [(tower_records r).2.2.1] at h; cases h
  present := by decide +kernel
  vacant := by decide +kernel
  capture := fun i _ h => by
    obtain ⟨hi, hk, hl, hf, hh, hs, ho, hc, hd⟩ := tower_capture
    rw [hi] at h
    obtain rfl := (Option.some.inj h).symm
    rw [hs, ho, hl, hc, hf, hh, hd, hk]
    exact ⟨rfl, rfl, by decide, by decide, by decide, by decide, fun k h => by cases h; decide⟩

theorem tower_inOrder : InOrder tower :=
  ⟨tower_host, by decide, tower_pages, tower_bays, tower_accounts, tower_serials, tower_directories⟩

/-! ## A case of each statement's hypotheses -/

theorem case_StepTakesTheFront : (alone tower).pending = [] := rfl

theorem case_RequestsReadBack : (Request.sectorAmend 7 83 1 39 1023 1 [5]).wellFormed = true ∧
    (Request.trackLoad ⟨1, 0, 0, 8, 1, 0, 1, [⟨0, 0, 1, 3, 3, 0xE5⟩]⟩).wellFormed = true := by decide

theorem case_RequestRowIsItsAccesses : (Instr.imageSeal 9 1).request? = some (9, .imageSeal 1) := rfl

/-- A frame with a body of some bytes. -/
def frameOf (code : Byte) (body : List Byte) : Frame := ⟨code, body, false⟩

def composing (f : Frame) (d : Device) : Device := onPort (fun p => { p with frame := some f }) d

/-- Four requests wait behind four replies. -/
def busyPort (requests : Nat) (d : Device) : Device :=
  onPort (fun p => { p with requests := List.replicate requests (frameOf 0x73 [1]),
                            replies := List.replicate 4 ⟨1, 0x16, .badCode, []⟩ }) d

theorem case_Framing :
    tower.resetInput = false ∧ tower.port.frame = none ∧
    (composing (frameOf 0x11 (List.replicate 255 0)) tower).port.frame = some (frameOf 0x11 (List.replicate 255 0)) ∧
    (frameOf 0x11 (List.replicate 255 0)).body.length < 256 ∧ 256 ≤ (frameOf 0x11 (List.replicate 256 0)).body.length ∧
    4 ≤ (busyPort 4 (composing (frameOf 0x11 []) tower)).port.requests.length ∧
    (busyPort 3 (composing (frameOf 0x11 []) tower)).port.requests.length < 4 ∧
    4 ≤ (busyPort 3 (composing (frameOf 0x11 []) tower)).port.replies.length := by decide +kernel

theorem case_Framing_ready (f : Frame) : PortReady (composing f tower) ∧ (composing f tower).port.frame = some f :=
  ⟨⟨rfl, rfl, rfl, Nat.zero_lt_succ 3⟩, rfl⟩

theorem case_EngineChecks :
    (frameOf 0x11 []).body = [] ∧ (frameOf 0x16 [9, 5]).body = 9 :: [5] ∧ paramsNeeded 0x16 [5] = none ∧
    paramsNeeded 0x11 [] = some 1 ∧ paramsNeeded 0x11 [5] = some 1 ∧
    paramsNeeded 0x20 [0, 0, 0, 8, 1, 0, 40] = some 247 ∧ paramsNeeded 0x20 [0, 0, 0, 8, 1, 0, 41] = some 7 := by decide

theorem case_ReadingReplies :
    let r : Reply := ⟨1, 0x16, .badCode, []⟩
    (onPort (fun p => { p with replies := [r], readPos := 3 }) tower).port.replies = r :: [] ∧
    r.bytes[3]? = some 0x10 ∧ r.bytes.length ≤ 4 ∧ tower.port.replies = [] ∧
    (busyPort 1 tower).port.replies = r :: List.replicate 3 r ∧
    (busyPort 1 tower).port.requests = frameOf 0x73 [1] :: [] ∧ (busyPort 1 tower).port.working = none ∧
    (frameOf 0x73 [1]).code ≠ 0xF0 := by decide

theorem case_ResetInputHoldsThePort : ({ tower with resetInput := true } : Device).resetInput = true ∧
    (Instr.partReset 1).request?.isSome = true := ⟨rfl, rfl⟩

/-- The tower with another stream open. -/
def streaming (st : Stream) : Device := onPort (fun p => { p with stream := st }) tower

theorem case_StreamBytes :
    Memory.wf tower.store.memory ∧ (streaming (.inbound 0 1)).port.stream = .inbound 0 1 ∧
    (streaming (.outbound 0 2)).port.stream = .outbound 0 2 ∧
    (let x := tower.store.record 0;
      x.track.pages[(x.track.dataLen - 1) / 2048]? = some 0 ∧ x.track.pages[(x.track.dataLen - 512) / 2048]? = some 0 ∧
      x.link = .linked) ∧
    (onRecord 0 (fun x => { x with link := .unlinked }) tower).store.record 0 =
      { tower.store.record 0 with link := .unlinked } := by decide +kernel

theorem case_StrayStreamAccesses :
    (streaming .closed).port.stream = .closed ∧ (∀ k, (streaming .closed).port.stream ≠ .inbound 0 k) ∧
    HostSideOk (onPort (fun p => { p with streamFault := true }) tower) ∧
    exec .cancelFrame (alone (onPort (fun p => { p with streamFault := true }) tower)) =
      .next (alone (onPort (fun p => { p with streamFault := true }) tower)) :=
  ⟨rfl, fun _ h => (by cases h), ⟨⟨by decide, by decide, rfl, fun h => absurd rfl h, fun _ h => (List.not_mem_nil h).elim,
    fun _ h => (by cases h), by decide⟩, by decide, by decide⟩, rfl⟩

theorem case_StreamAborting (st : Stream) : PortReady (streaming st) ∧ (streaming st).port.stream = st :=
  ⟨⟨rfl, rfl, rfl, Nat.zero_lt_succ 3⟩, rfl⟩

theorem case_PortLevels : tower.resetInput = false := rfl

/-- The boundary slot numbers: the last that exists and the first that does not. -/
theorem case_slots : PortReady (alone tower).dev ∧ (7 : Byte).toNat = (7 : Fin 8).val ∧ 8 ≤ (8 : Byte).toNat ∧
    (15 : Byte).toNat = (15 : Fin 16).val ∧ 16 ≤ (16 : Byte).toNat ∧ (5 : Byte).toNat = (5 : Fin 6).val ∧
    6 ≤ (6 : Byte).toNat ∧ (8 ≤ (0xFE : Byte).toNat ∧ (0xFE : Byte) ≠ 0xFF) :=
  ⟨tower_ready, by decide⟩

theorem case_CreatingAndSealing : PortReady (alone tower).dev ∧ (List.replicate 16 (0x20 : Byte)).length = 16 ∧
    (7 : Byte).toNat = (7 : ImageNo).val ∧ (15 : Byte).toNat = (15 : ProfileNo).val ∧
    (8 ≤ (8 : Byte).toNat ∨ 16 ≤ (15 : Byte).toNat) ∧ (8 ≤ (7 : Byte).toNat ∨ 16 ≤ (16 : Byte).toNat) :=
  ⟨tower_ready, by decide⟩

theorem case_RetiringAndVacating : PortReady (alone tower).dev ∧ DirectoriesOk tower ∧ PagesOk tower.store ∧
    some 0 ∈ (tower.image 1).directory ∧ (tower.store.record 0).readPin = true ∧
    some 1 ∈ (tower.image 1).directory ∧ (tower.store.record 1).readPin = false ∧ ¬ some 2 ∈ (tower.image 1).directory :=
  ⟨tower_ready, tower_directories, tower_pages, by decide +kernel⟩

theorem case_ClaimGrantRelease : PagesOk tower.store := tower_pages

/-- A record that stands for a key of I1 and is not installed. -/
def loadingAt (key : Key) : Store := (onRecord 3 (fun _ => { heldRecord 1 key (dataTrack 2) with state := .loading }) tower).store

theorem case_InstallAndRemove :
    (∀ e ∈ ([(⟨0, 0⟩, some 0), (⟨0, 1⟩, some 1), (⟨1, 1⟩, none)] : List (Key × Option RecNo)),
      let st := loadingAt e.1
      let x := st.record 3
      let im := st.image x.image
      im.entryAt x.key < im.directory.length ∧ im.entry x.key = e.2 ∧
      ∀ o ∈ e.2, o ≠ 3 ∧ (st.record o).image = x.image ∧ (st.record o).link = .linked) ∧
    ((tower.store.record 0).readPin = true ∧ (tower.store.record 0).image = 1 ∧ (tower.store.record 0).link = .linked) ∧
    ((tower.store.record 1).readPin = false ∧ (tower.store.record 1).image = 1 ∧ (tower.store.record 1).link = .linked) := by
  decide +kernel

theorem case_TrackLoading :
    (List.replicate 40 (⟨0, 0, 1, 3, 3, 0xE5⟩ : RawEntry)).length =
      (if 1 ≤ (40 : Byte).toNat ∧ (40 : Byte).toNat ≤ 40 then (40 : Byte).toNat else 0) ∧
    ([] : List RawEntry).length = (if 1 ≤ (41 : Byte).toNat ∧ (41 : Byte).toNat ≤ 40 then (41 : Byte).toNat else 0) ∧
    ([] : List RawEntry).length = (if 1 ≤ (0 : Byte).toNat ∧ (0 : Byte).toNat ≤ 40 then (0 : Byte).toNat else 0) := by
  decide

/-- The tower with track (0, 0) of I1 no longer read. -/
def unread : Device := onRecord 0 (fun x => { x with readPin := false }) tower

theorem case_SectorAmending :
    PortReady (alone unread).dev ∧ PagesOk unread.store ∧ Memory.wf unread.store.memory ∧
    (List.replicate 248 (0 : Byte)).length ≤ 248 ∧ (tower.image 2).state ≠ .building ∧
    ((tower.image 4).state = .building ∧ (tower.image 4).captureOwner ≠ none) ∧
    (let im := tower.image 1;
      im.state = .building ∧ im.captureOwner = none ∧ (im.cylinders ≤ 2 ∨ im.heads ≤ 0) ∧ 1 < im.cylinders ∧ 1 < im.heads ∧
      im.directory.getD (1 * im.heads + 1) none = none ∧ im.directory.getD (0 * im.heads + 0) none = some 0 ∧
      im.directory.getD (0 * im.heads + 1) none = some 1) ∧
    (tower.store.record 0).track.n ≤ (1 : Byte).toNat ∧
    (tower.store.record 0).track.sectors[0]? = some ⟨0, 0, 1, 2, .normal, .data⟩ ∧
    (tower.store.record 1).track.sectors[0]? = some ⟨0, 1, 1, 2, .normal, .fill 0⟩ ∧
    128 * 2 ^ (2 : Fin 4).val < (510 : Half).toNat + (3 : Byte).toNat ∧
    (510 : Half).toNat + (2 : Byte).toNat ≤ 128 * 2 ^ (2 : Fin 4).val ∧
    (tower.store.record 0).readPin = true ∧ (unread.store.record 0).readPin = false ∧
    dataAddress (unread.store.record 0).track.pages 511 = some 511 :=
  ⟨⟨rfl, rfl, rfl, by decide⟩, tower_pages.setRecord 0 _ rfl (by decide +kernel), by decide +kernel⟩

theorem case_LotCreating :
    (tower.lot 1).state ≠ .vacant ∧ (tower.lot 0).state = .vacant ∧ (tower.image 0).state = .vacant ∧
    ((tower.image 1).state ≠ .vacant ∧ (tower.image 1).state ≠ .sealed) ∧ (tower.image 2).state = .sealed ∧
    (let im := tower.image 2;
      0 < im.cylinders ∧ 0 < im.heads ∧ im.directory.getD (0 * im.heads + 0) none = some 2 ∧
      (tower.store.record 2).track.sectors[0]? = some ⟨0, 0, 1, 2, .normal, .data⟩ ∧
      508 + 4 ≤ 128 * 2 ^ (2 : Fin 4).val ∧ ¬ 509 + 4 ≤ 128 * 2 ^ (2 : Fin 4).val) := by decide +kernel

theorem case_AdmissionTests :
    (tower.lot 5).state ≠ .running ∧ (tower.lot 2).state = .running ∧
    (let x := { tower.lot 2 with target := 1 };
      x.target ≤ x.good + x.inFlight) ∧
    (let x := { tower.lot 2 with target := 2 };
      x.good + x.inFlight < x.target ∧ x.good + x.inFlight ≤ x.target) ∧
    ({ tower.lot 2 with digits := 0 } : Lot).digits = 0 ∧ 0 < (tower.lot 2).digits ∧ (tower.lot 2).reissue = [] ∧
    (let x := { tower.lot 2 with next := 9999 };
      x.next ≤ x.last) ∧
    (let x := { tower.lot 2 with next := 10000 };
      x.last < x.next) := by decide +kernel

theorem case_CopyEndCounts :
    (let x := { tower.lot 2 with reissue := List.range 15 };
      x.reissueEnable = true ∧ x.reissue.length < 16 ∧ x.reissue.Pairwise (· < ·) ∧ 15 ∉ x.reissue) ∧
    (let x := { tower.lot 2 with reissue := List.range 16 };
      x.reissueEnable = false ∨ 16 ≤ x.reissue.length) ∧
    (let x := { tower.lot 2 with reissueEnable := false };
      x.reissueEnable = false ∨ 16 ≤ x.reissue.length) := by decide +kernel

theorem case_AdmissionOpenSignal :
    (tower.chan 1).state = .idle ∧ (tower.chan 2).state = .loaded ∧
    ((tower.chan 0).state ≠ .idle ∧ (tower.chan 0).state ≠ .loaded) ∧
    (let d := tower.modChan 1 fun ch => { ch with lot := some 2 };
      (d.chan 1).state = .idle ∧ (d.chan 1).hold = false ∧ (d.chan 1).lot = some 2 ∧ (d.lot 2).state = .running ∧
      (d.lot 2).good + (d.lot 2).inFlight < (d.lot 2).target) ∧
    (let d := onLot 2 (fun l => { l with target := 1 }) (tower.modChan 1 fun ch => { ch with lot := some 2 });
      (d.chan 1).lot = some 2 ∧ (d.lot 2).target ≤ (d.lot 2).good + (d.lot 2).inFlight) ∧ (tower.chan 1).lot = none := by
  decide +kernel

theorem case_AdmissionPoint :
    (tower.chan 2).lot = none ∧
    (∀ l ∈ ([2, 3, 5] : List LotNo),
      let d := tower.modChan 2 fun ch => { ch with lot := some l }
      (d.chan 2).state = .loaded ∧ (d.chan 2).hold = false ∧ (d.chan 2).master = false ∧ (d.chan 2).lot = some l ∧
      (d.chan 2).lines.writeProtect = false) ∧
    (let d := tower.modChan 2 fun ch => { ch with lot := some 2, lines := ⟨false, false, true⟩ };
      (d.chan 2).lines.writeProtect = true) ∧
    (tower.lot 2).admission.2 = .granted (some 2) ∧ (tower.lot 3).state ≠ .running ∧
    (let x := { tower.lot 2 with next := 10000 };
      x.state = .running ∧ x.admission.2 = .exhausted) ∧
    ({ tower.lot 2 with target := 1 } : Lot).admission.2 = .full := by decide +kernel

/-- The tower with channel 0 as given. -/
def bay (f : Channel → Channel) : Device := tower.modChan 0 f

theorem case_AbortEjectClearAndTiming :
    ¬ ((tower.chan 4).work = .copy ∧ ((tower.chan 4).state = .spinup ∨ (tower.chan 4).state = .calibrating ∨
      (tower.chan 4).state = .copying ∨ (tower.chan 4).state = .held)) ∧
    ((tower.chan 3).work = .copy ∧ ((tower.chan 3).state = .spinup ∨ (tower.chan 3).state = .calibrating ∨
      (tower.chan 3).state = .copying ∨ (tower.chan 3).state = .held)) ∧ (tower.chan 3).ctx = some runningCopy ∧
    (∀ st ∈ [ChanState.starved, .jammed, .fault], ((bay fun ch => { ch with state := st }).chan 0).state = st) ∧
    ((tower.chan 3).state ≠ .starved ∧ (tower.chan 3).state ≠ .jammed ∧ (tower.chan 3).state ≠ .fault) := by decide +kernel

theorem case_InsertionsAndTimeouts :
    (tower.chan 2).media = true ∧ ((tower.chan 1).media = false ∧ (tower.chan 1).state = .idle) ∧
    (∀ st ∈ [ChanState.idle, .starved, .feeding],
      ((bay fun ch => { ch with state := st }).chan 0).media = false ∧ ((bay fun ch => { ch with state := st }).chan 0).state = st) ∧
    ((tower.chan 0).media = false ∧ (tower.chan 0).state ≠ .idle ∧ (tower.chan 0).state ≠ .starved ∧
      (tower.chan 0).state ≠ .feeding) := by decide +kernel

theorem case_Removals :
    (tower.chan 1).media = false ∧
    ((tower.chan 3).media = true ∧ (tower.chan 3).state = .copying ∧ (tower.chan 3).work = .copy ∧
      (tower.chan 3).ctx = some runningCopy) ∧
    ((tower.chan 4).media = true ∧ (tower.chan 4).state = .capturing ∧ (tower.chan 4).work = .capture) ∧
    ((tower.chan 2).media = true ∧ (tower.chan 2).state = .loaded) ∧
    (∀ b : Bool, ∀ st ∈ [ChanState.ejecting, .jammed],
      let ch := (bay fun ch => { ch with state := st, media := true, faultPending := b }).chan 0
      ch.media = true ∧ ch.state = st ∧ ch.faultPending = b) ∧
    (∀ st ∈ [ChanState.offline, .fault], ((bay fun ch => { ch with state := st, media := true }).chan 0).media = true) := by
  decide +kernel

theorem case_Measuring :
    (tower.chan 1).timers.index = none ∧ (tower.chan 3).timers.index.isSome = true ∧
    (∀ st ∈ [ChanState.calibrating, .held, .spinup],
      let ch := (bay fun ch => { ch with state := st, timers := { ch.timers with index := some 400 } }).chan 0
      ch.timers.index.isSome = true ∧ ch.state = st) ∧
    (∀ m ∈ [Measure.waiting, .first 512300, .second 512300], ((bay fun ch => { ch with measure := m }).chan 0).measure = m) ∧
    (196000 ≤ (897000 - 505000) / 2 ∧ (897000 - 505000) / 2 ≤ 204000) ∧
    (196000 ≤ (913001 - 505000) / 2 ∧ (913001 - 505000) / 2 ≤ 204000) ∧
    ((896999 - 505000) / 2 < 196000) ∧ 204000 < (913002 - 505000) / 2 := by decide +kernel

theorem case_DriveFaults :
    ((tower.chan 3).work = .copy ∧ (tower.chan 3).ctx = some runningCopy) ∧ (tower.chan 4).work = .capture ∧
    (∀ m ∈ [Motion.calOut 90, .recalOut 90 5],
      let ch := (bay fun ch => { ch with motion := m, timers := { ch.timers with step := some 3 } }).chan 0
      ch.timers.step.isSome = true ∧ ch.motion = m ∧ 90 ≤ 90) ∧
    (tower.chan 0).timers.step = none ∧
    (∀ k < 100, 90 ≤ k → Motion.calOut 89 ≠ .calOut k ∧ Motion.calOut 89 ≠ .recalOut k 5) := by decide +kernel

theorem case_HeadMovement :
    (tower.chan 3).timers.step = none ∧ (tower.chan 3).timers.settle = none ∧
    (∀ m ∈ [Motion.calOut 89, .recalOut 89 0, .recalOut 1 5, .seek 0, .seek 5, .recalIn 5],
      let ch := (bay fun ch => { ch with motion := m, timers := { ch.timers with step := some 3 } }).chan 0
      ch.timers.step.isSome = true ∧ ch.motion = m) ∧
    (∀ w ∈ [Work.copy, .capture], ∀ m ∈ [Motion.calSettle, .seekSettle, .recalSettle],
      let ch := (bay fun ch => { ch with motion := m, work := w, timers := { ch.timers with settle := some 15 } }).chan 0
      ch.timers.settle.isSome = true ∧ ch.motion = m ∧ ch.work = w) ∧
    (∀ ph ∈ [CopyPhase.seek, .recal],
      ((bay fun ch => { ch with ctx := some { runningCopy with phase := some ph } }).chan 0).ctx =
        some { runningCopy with phase := some ph }) ∧ runningCopy.key = some ⟨0, 0⟩ ∧
    (onCapture (fun x => { x with phase := some .seek }) tower).capture.phase = some .seek ∧
    (onCapture (fun x => { x with phase := some .seek }) tower).capture.key = some ⟨0, 0⟩ := by decide +kernel

theorem case_Tracks :
    (tower.chan 3).ctx = some runningCopy ∧ runningCopy.key = some ⟨0, 0⟩ ∧
    effectiveGap 250 200000 (dataTrack 1) = some 80 ∧
    effectiveGap 250 196000 { dataTrack 1 with sectors := List.replicate 12 ⟨0, 0, 1, 2, .normal, .data⟩ } = none ∧
    (runningCopy.serial = some 1 ∧ runningCopy.patch = none) ∧ (tower.chan 3).headCyl = (⟨0, 0⟩ : Key).cyl ∧
    (tower.chan 3).headCyl ≠ (⟨1, 0⟩ : Key).cyl ∧
    ((tower.image 2).heads ≤ 0 + 1 ∧ (tower.image 2).cylinders ≤ 0 + 1) ∧
    (0 + 1 < (tower.image 1).heads) ∧ ((tower.image 1).heads ≤ 1 + 1 ∧ 0 + 1 < (tower.image 1).cylinders) ∧
    (∀ b : Bool, ((tower.modChan 3 fun ch => { ch with hold := b }).chan 3).hold = b) ∧
    (let x := { runningCopy with patch := some ⟨0, 0, 0, 16⟩ };
      x.serial = some 1 ∧ x.patch = some ⟨0, 0, 0, 16⟩) := by decide +kernel

/-- The tower with the copy context on channel 3 as given. -/
def copyAt (x : CopyContext) : Device := tower.modChan 3 fun ch => { ch with ctx := some x }

theorem case_WriteRevolutions :
    (∀ x ∈ [{ runningCopy with phase := some .seek }, runningCopy,
        { runningCopy with attempt := 2, counter := some 14 }, { runningCopy with attempt := 2, counter := some 15 },
        { runningCopy with phase := some .recal, counter := some 14 }, { runningCopy with phase := some .recal, counter := some 15 },
        { runningCopy with phase := some .write, counter := some 0, verify := .none },
        { runningCopy with phase := some .write, counter := some 14 }, { runningCopy with phase := some .write, counter := some 15 }],
      ((copyAt x).chan 3).state = .copying ∧ ((copyAt x).chan 3).timers.index.isSome = true ∧ ((copyAt x).chan 3).ctx = some x) ∧
    runningCopy.phase = some .indexWait ∧ runningCopy.plan = some (makePlan [] (dataTrack 1) 80 none) ∧
    runningCopy.attempt = 1 ∧ runningCopy.budget ≤ 15 + 1 ∧ 14 + 1 < runningCopy.budget ∧ runningCopy.verify ≠ .none := by
  decide +kernel

theorem case_RevolutionBudgetRow :
    (∀ x ∈ [{ runningCopy with attempt := 2, counter := some 15 }, { runningCopy with phase := some .recal, counter := some 15 },
        { runningCopy with phase := some .write, counter := some 15 },
        { runningCopy with phase := some .write, counter := some 15, verify := .none },
        { runningCopy with phase := some .verify, counter := some 15, reader := ⟨1, true, none, 0⟩ }],
      ((copyAt x).chan 3).state = .copying ∧ ((copyAt x).chan 3).timers.index.isSome = true ∧
      ((copyAt x).chan 3).ctx = some x ∧ x.counter = some 15 ∧ x.budget ≤ 15 + 1) ∧
    (⟨1, true, none, 0⟩ : VerifyReader).verdict .crc (makePlan [] (dataTrack 1) 80 none) = none ∧
    (tower.chan 2).state ≠ .copying ∧ (tower.chan 0).timers.index = none ∧ runningCopy.counter = none ∧
    14 + 1 < runningCopy.budget := by decide +kernel

theorem case_VerifyBlocks :
    (∀ r ∈ [VerifyReader.start, ⟨1, false, none, 0⟩, ⟨1, true, none, 0⟩, ⟨1, false, some (.idCrc, 0), 0⟩, ⟨2, false, none, 0⟩],
      let x := { runningCopy with phase := some .verify, reader := r }
      ((copyAt x).chan 3).state = .copying ∧ ((copyAt x).chan 3).ctx = some x ∧ x.phase = some .verify ∧
      x.plan = some (makePlan [] (dataTrack 1) 80 none)) ∧
    (let p := makePlan [] (dataTrack 1) 80 none;
      (p.slots[0]?.bind fun j => p.track.sectors[j]?) = some ⟨0, 0, 1, 2, .normal, .data⟩ ∧
      (p.slots[1]?.bind fun j => p.track.sectors[j]?) = none) ∧
    ((tower.chan 2).state ≠ .copying ∧ (tower.chan 2).state ≠ .capturing) ∧ runningCopy.phase ≠ some .verify := by
  decide +kernel

theorem case_VerifyEnds :
    (∀ r ∈ [(⟨1, true, none, 0⟩ : VerifyReader), ⟨1, true, some (.dataCrc, 0), 0⟩], ∀ n ∈ [14, 15], ∀ f ∈ [0, 1, 2, 3],
      let x := { runningCopy with phase := some .verify, counter := some n, failures := f, reader := r }
      ((copyAt x).chan 3).state = .copying ∧ ((copyAt x).chan 3).timers.index.isSome = true ∧ ((copyAt x).chan 3).ctx = some x ∧
      x.phase = some .verify ∧ x.plan = some (makePlan [] (dataTrack 1) 80 none) ∧ x.counter = some n ∧ x.key = some ⟨0, 0⟩) ∧
    runningCopy.retryLimit < 3 + 1 ∧ 2 + 1 ≤ runningCopy.retryLimit ∧ (0 + 1) % 2 = 1 ∧ (1 + 1) % 2 = 0 ∧
    (tower.chan 3).headCyl = 0 ∧ ((tower.modChan 3 fun ch => { ch with headCyl := 1 }).chan 3).headCyl ≠ 0 := by decide +kernel

theorem case_IntactReadPasses :
    0 < (dataTrack 1).n ∧
    (dataTrack 1).sum = byteSum ((List.range (dataTrack 1).n).flatMap fun j => sectorField [] (dataTrack 1) j) % 65536 ∧
    (let q : Patch := ⟨0, 508, [0, 0, 0, 1]⟩;
      (dataTrack 1).sectors[q.sector]? = some ⟨0, 0, 1, 2, .normal, .data⟩ ∧
      q.offset + q.bytes.length ≤ sizeBytes 2) := by decide +kernel

theorem case_CopyEnding : (tower.chan 3).ctx = some runningCopy ∧ CopyOutcome.good ≠ .reject .mediaLost := by decide +kernel

theorem case_Captures :
    PortReady tower ∧ PortReady (onCapture (fun _ => CaptureContext.reset) tower) ∧
    (6 ≤ (6 : Byte).toNat ∨ 8 ≤ (7 : Byte).toNat) ∧ (6 ≤ (5 : Byte).toNat ∨ 8 ≤ (8 : Byte).toNat) ∧
    (5 : Byte).toNat = (5 : Chan).val ∧ (7 : Byte).toNat = (7 : ImageNo).val ∧
    (onCapture (fun _ => CaptureContext.reset) tower).capture.state ≠ .running ∧
    (tower.capture.state = .running ∧ tower.capture.channel = some 4 ∧ tower.capture.image = some 4) :=
  ⟨tower_ready, ⟨rfl, rfl, rfl, by decide⟩, by decide +kernel⟩

/-- The tower with the capture as given. -/
def capturing (f : CaptureContext → CaptureContext) : Device := onCapture f tower

theorem case_CaptureKeys :
    ((tower.chan 4).headCyl = (⟨0, 0⟩ : Key).cyl ∧ (tower.chan 4).headCyl ≠ (⟨1, 0⟩ : Key).cyl) ∧
    (tower.capture.key = some ⟨0, 0⟩ ∧ tower.capture.headCount ≤ 0 + 1 ∧ tower.capture.lastCyl < 0 + 1) ∧
    (0 + 1 < (capturing fun x => { x with headCount := 2 }).capture.headCount) ∧
    (0 + 1 ≤ (capturing fun x => { x with lastCyl := 1 }).capture.lastCyl) ∧
    ((tower.chan 4).state = .capturing ∧ (tower.chan 4).timers.index.isSome = true) ∧
    (∀ ph ∈ [CapturePhase.seek, .indexWait, .scan], (capturing fun x => { x with phase := some ph }).capture.phase = some ph) ∧
    (40 < 41 ∧ 40 ≤ 40 ∧ 3 < 4 ∧ 4 ≤ 4) ∧
    (let e : ScanEntry := ⟨0, 0, 1, 4, false⟩;
      e.crcGood = false ∧ 3 < e.size.toNat) ∧
    fitsAtLoad 250 11 (11 * 512) = false ∧ fitsAtLoad 250 10 (10 * 512) = true := by decide +kernel

theorem case_CaptureBlocks :
    (tower.chan 4).state = .capturing ∧
    (∀ ph ∈ [CapturePhase.scan, .read, .seek], (capturing fun x => { x with phase := some ph }).capture.phase = some ph) ∧
    (∀ r ∈ [CaptureReader.start, ⟨1, true, none⟩, ⟨1, false, some .idChanged⟩, ⟨1, false, none⟩],
      (capturing fun x => { x with reader := r }).capture.reader = r) ∧
    ([⟨0, 0, 1, 3, true⟩] : List ScanEntry)[1 - 1]? = some ⟨0, 0, 1, 3, true⟩ ∧ (3 : Byte).toNat ≤ 3 := by decide +kernel

theorem case_CaptureReads :
    (tower.chan 4).state = .capturing ∧ (tower.chan 4).timers.index.isSome = true ∧
    (capturing fun x => { x with phase := some .read }).capture.phase = some .read ∧
    tower.capture.key = some ⟨0, 0⟩ ∧ tower.capture.image = some 4 ∧
    (∀ n ∈ [3, 4], (capturing fun x => { x with reads := n }).capture.reads = n) ∧
    tower.store.claim ((512 + 2047) / 2048) = some 3 ∧
    ({ tower.store with freePages := [] } : Store).claim ((512 + 2047) / 2048) = none ∧
    (let st := tower.store;
      Memory.wf st.memory ∧ (st.record 0).track.pages.Nodup ∧
      (List.replicate 2048 (1 : Byte)).length ≤ 2048 * (st.record 0).track.pages.length ∧
      (st.record 0).track.pages[2047 / 2048]? = some 0) := by decide +kernel

/-- PART RESET as a row, as the frame posted, and at the head of the request queue behind four replies. -/
theorem case_ResetsEndTheWork : PortReady (composing (frameOf 0xF0 [1]) tower) ∧
    (composing (frameOf 0xF0 [1]) tower).port.frame = some (frameOf 0xF0 [1]) ∧
    (frameOf 0xF0 [1]).code = 0xF0 ∧ (frameOf 0xF0 [1]).body ≠ [] ∧ (frameOf 0xF0 [1]).long = false ∧
    (let d := onPort (fun p => { p with requests := [frameOf 0xF0 [1]] }) (busyPort 0 tower)
      let r : Reply := ⟨1, 0x16, .badCode, []⟩
      d.resetInput = false ∧ d.port.working = none ∧ d.port.replies = r :: List.replicate 3 r ∧
      (List.replicate 3 r).length < 4 ∧ d.port.requests = frameOf 0xF0 [1] :: []) :=
  ⟨⟨rfl, rfl, rfl, Nat.zero_lt_succ 3⟩, rfl, rfl, by decide, rfl, rfl, rfl, rfl, by decide, rfl⟩

theorem case_RefusalsChangeNothing : (Instr.imageSeal 1 7).request? = some (1, .imageSeal 7) ∧
    (Request.imageSeal 7) ≠ .partReset ∧ PortReady (alone tower).dev := ⟨rfl, by decide, tower_ready⟩

theorem case_NoticesStaySet :
    (bayOf (.removal 1 ⟨false, false, false⟩)).isSome = true ∧
    (Instr.request? .post = none ∧ Instr.request? .bodyRead = none ∧ Instr.bodyRead ≠ .post ∧ Instr.bodyRead ≠ .nextReply ∧
      Instr.bodyRead ≠ .reset ∧ Instr.bodyRead ≠ .powerOn) ∧
    ((tower.notify noticeCaptureEnd).notices.flags.getLsbD 22 = true) := by decide +kernel

/-- The invariants' statements: a state in order, and a command that has a next state there. -/
theorem case_invariants : InOrder tower ∧ ∀ c rest, ∃ t, step (waiting tower (c :: rest)) = .next t := by
  refine ⟨tower_inOrder, fun c rest => ?_⟩
  cases c <;> exact ⟨_, rfl⟩

/-! ## Single steps -/

/-- One field of the part after a command, executed alone. -/
def fieldAfter {α : Type} (c : Instr) (d : Device) (f : Device → α) : Option α :=
  match step (waiting d [c]) with
  | .next t => some (f t.dev)
  | _ => none

/-- The completion and result bytes of the newest reply. -/
def newest (d : Device) : Option (Completion × List Byte) := d.port.replies.getLast?.map fun r => (r.completion, r.result)

/-- Section 8.10: the reply of IMAGE QUERY has length byte 2Bh. -/
theorem test_imageQuery_length :
    fieldAfter (.imageQuery 1 2) tower (fun d => d.port.replies.getLast?.map fun r => r.bytes.take 4) =
      some (some [0x2B, 1, 0x15, 0]) := by decide +kernel

/-- Section 1.8: the image checksum B210h of an image of six keys, one loaded with sum 4A10h and one filled with 00h. -/
theorem test_imageSeal_checksum :
    let d := onRecord 1 (fun x => { x with key := ⟨1, 1⟩ }) (onRecord 0
      (fun x => { x with readPin := false, track := { x.track with sum := 0x4A10 } })
      (onImage 1 (fun _ => titleImage .building 3 2 [some 0, none, none, some 1, none, none]) (streaming .closed)))
    fieldAfter (.imageSeal 1 1) d newest = some (some (.ok, [0x10, 0xB2, 0, 0])) := by decide +kernel

/-- R58's first example: six bytes of 20h to 30h 30h 31h 30h 34h 32h on a sum of 4A10h. -/
theorem test_sectorAmend_sum :
    let d := onRecord 0 (fun x => { x with readPin := false, track := { x.track with sum := 0x4A10 } })
      { tower with store := { tower.store with memory := (List.range 6).map fun k => (16 + k, 0x20) } }
    fieldAfter (.sectorAmend 1 1 0 0 0 16 6 [0x30, 0x30, 0x31, 0x30, 0x34, 0x32]) d (fun e => (newest e, memRead e.store.memory 21)) =
      some (some (.ok, [0x10, 0x4A, 0x77, 0x4A]), 0x32) := by decide +kernel

/-- R57: with an offset of 510 in a 512-byte sector a length of 3 is refused. -/
theorem test_sectorAmend_window :
    fieldAfter (.sectorAmend 1 1 0 0 0 510 3 [1, 2, 3]) unread newest = some (some (.badValue, [])) := by decide +kernel

/-- Section 8.10: with four replies queued a POST waits, and with four requests waiting it is refused. -/
theorem test_post_waits :
    fieldAfter .post (busyPort 0 (composing (frameOf 0x15 [5, 2]) tower)) (fun d => (d.port.requests.length, d.port.postRefused)) =
      some (1, false) ∧
    fieldAfter .post (busyPort 4 (composing (frameOf 0x15 [9, 2]) tower)) (fun d => (d.port.requests.length, d.port.postRefused)) =
      some (4, true) := by decide +kernel

/-- R159: the control codes 00h, 04h and FFh are ignored, and 03h discards the open frame. -/
theorem test_control : (∀ b ∈ ([0x00, 0x04, 0xFF] : List Byte), ((composing (frameOf 0x15 [5, 2]) tower).writeAt .control b).port.frame =
      some (frameOf 0x15 [5, 2])) ∧
    ((composing (frameOf 0x15 [5, 2]) tower).writeAt .control 0x03).port.frame = none := by decide

/-- Section 8.10: a NEXT REPLY lets the engine take the oldest request and place its reply. -/
theorem test_nextReply_takes :
    fieldAfter .nextReply (busyPort 4 tower) (fun d => (d.port.requests.length, d.port.replies.length,
      d.port.replies.getLast?.map Reply.code)) = some (3, 4, some 0x73) := by decide +kernel

/-- The end of a measurement begun at `t1`, on channel 0. -/
def measuring (t1 : Nat) : Device :=
  bay fun ch => { ch with state := .spinup, work := .capture, media := true, measure := .second t1,
                          timers := { ch.timers with index := some 400 } }

/-- Section 5.6's measurements: normal, uneven and fast limit. -/
theorem test_indexPulse_measures :
    fieldAfter (.indexPulse 0 ⟨false, false, false⟩ 909300) (measuring 512300) (fun d => ((d.chan 0).state, (d.chan 0).period)) =
      some (.calibrating, 198500) ∧
    fieldAfter (.indexPulse 0 ⟨false, false, false⟩ 1040001) (measuring 640000) (fun d => (d.chan 0).period) = some 200000 ∧
    fieldAfter (.indexPulse 0 ⟨false, false, false⟩ 897000) (measuring 505000) (fun d => (d.chan 0).period) = some 196000 := by
  decide +kernel

/-- Section 5.6's slow drive. -/
theorem test_indexPulse_speed :
    fieldAfter (.indexPulse 0 ⟨false, false, false⟩ 938200) (measuring 530000) (fun d => ((d.chan 0).fault, (d.chan 0).period)) =
      some (some (.speed 204100), 0) := by decide +kernel

/-- R96 and R114: an assignment to an open lot makes an empty bay feed. -/
theorem test_channelAssign_feeds :
    fieldAfter (.channelAssign 1 1 2) tower (fun d => ((d.chan 1).state, (d.chan 1).out.feed, (d.chan 1).timers.feed)) =
      some (.feeding, true, some 4000) := by decide +kernel

/-- R98, R80 and R79: a loaded bay assigned to a RUNNING lot is admitted with the next serial. -/
theorem test_channelAssign_admits :
    fieldAfter (.channelAssign 1 2 2) tower (fun d => ((d.chan 2).state, (d.chan 2).ctx.bind CopyContext.serial,
      (d.lot 2).next, (d.image 2).pins)) = some (.spinup, some 2, 3, 2) := by decide +kernel

/-- R109, R84 and R67: a removal ends the copy MEDIA_LOST and returns its serial. -/
theorem test_removal_returns :
    fieldAfter (.removal 3 ⟨false, false, false⟩) tower (fun d => ((d.lot 2).reissue, (d.lot 2).tally.mediaLost, (d.lot 2).inFlight,
      (d.image 2).pins)) = some ([1], 1, 0, 0) := by decide +kernel

/-- R125: the opening pulse asserts the write gate; the stream of R29 and R30 for one sector of 512 bytes is 80 + 62 + 512 + 80. -/
theorem test_indexPulse_opens :
    fieldAfter (.indexPulse 3 ⟨true, false, false⟩ 0) tower (fun d => ((d.chan 3).out.writeGate, (d.chan 3).out.writeData.length)) =
      some (true, 734) := by decide +kernel

/-- R75: deleting a CLOSED lot leaves its slot VACANT; R74: a RUNNING lot with a copy in flight closes to CLOSING. -/
theorem test_lotDelete_close :
    fieldAfter (.lotDelete 1 4) tower (fun d => (d.lot 4).state) = some .vacant ∧
    fieldAfter (.lotClose 1 2) tower (fun d => ((d.lot 2).state, (d.image 2).bindings)) = some (.closing, 3) := by decide +kernel

/-- R62: the last byte of an outbound stream closes it and clears the read pin. -/
theorem test_streamRead_closes :
    fieldAfter .streamRead (streaming (.outbound 0 1)) (fun d => (d.port.stream, (d.store.record 0).readPin)) =
      some (.closed, false) := by decide +kernel

/-- R156: aborting the capture leaves the master in the bay and the image without owner. -/
theorem test_captureAbort :
    fieldAfter (.captureAbort 1) tower (fun d => ((d.chan 4).state, (d.chan 4).master, (d.image 4).captureOwner)) =
      some (.loaded, true, none) ∧
    fieldAfter (.captureAbort 1) tower newest = some (some (.ok, [1, 0, 0, 0, 0, 0])) := by decide +kernel

/-- R171 and R172: PART RESET empties the port and gives no reply. -/
theorem test_partReset : fieldAfter (.partReset 1) tower (fun d => (d.port.replies, d.port.stream, (d.chan 3).state)) =
    some ([], .closed, .offline) := by decide +kernel

end Sys2Proof.Machine
end

section
/-! PROOFS. What one step can do to the part, said once: every step is a chain of `Effect`s, and from a port in order it is at most
one of them between two changes of the port. -/

open Sys2Proof Sys2Proof.Machine

namespace Sys2Proof.Machine

/-- `Effect d e`: one event takes the part from `d` to `e`. The request engine's bookkeeping is `port`, which leaves the stream. -/
inductive Effect (d : Device) : Device → Prop
  | port (p : Port) : p.stream = d.port.stream → Effect d (d.withPort p)
  | request (r : Request) : r ≠ .partReset → Effect d (work r d).1
  | reset (b : Bool) : Effect d { d.afterReset with resetInput := b }
  | release : Effect d { d with resetInput := false }
  | written (v : Byte) : Effect d (d.writeStreamByte v)
  | read : Effect d d.readStreamByte
  | insertion (c : Chan) (l : Lines) : Effect d ((d.sample c l).insertion c)
  | removal (c : Chan) (l : Lines) : Effect d ((d.sample c l).removal c)
  | indexPulse (c : Chan) (l : Lines) (time : Nat) : Effect d ((d.sample c l).indexPulse c time)
  | idBlock (c : Chan) (cyl head sec size : Byte) (crcRead : List Byte) :
      Effect d (d.idBlockRead c cyl head sec size crcRead)
  | dataBlock (c : Chan) (mark : Mark) (raw : List Byte) : Effect d (d.dataBlockRead c mark raw)
  | budget (c : Chan) (l : Lines) : Effect d ((d.sample c l).budgetPulse c)
  | spinUp (c : Chan) (l : Lines) : Effect d ((d.sample c l).spinUpExpired c)
  | indexTimeout (c : Chan) (l : Lines) : Effect d ((d.sample c l).indexExpired c)
  | stepInterval (c : Chan) (l : Lines) : Effect d ((d.sample c l).stepExpired c)
  | noTrack0 (c : Chan) (l : Lines) : Effect d ((d.sample c l).noTrack0Expired c)
  | settle (c : Chan) (l : Lines) : Effect d ((d.sample c l).settleExpired c)
  | feedTimeout (c : Chan) (l : Lines) : Effect d ((d.sample c l).feedExpired c)
  | ejectTimeout (c : Chan) (l : Lines) : Effect d ((d.sample c l).ejectExpired c)

/-- One effect on the part, with the port's bookkeeping before and after it. -/
def OneEffect (d e : Device) : Prop :=
  ∃ (p q : Port) (f : Device), p.stream = d.port.stream ∧ Effect (d.withPort p) f ∧ q.stream = f.port.stream ∧ e = f.withPort q

theorem OneEffect.of {d e : Device} (h : Effect d e) : OneEffect d e := ⟨d.port, e.port, e, rfl, h, rfl, rfl⟩

theorem OneEffect.refl (d : Device) : OneEffect d d := .of (.port d.port rfl)

theorem OneEffect.after {d e : Device} {p : Port} (hp : p.stream = d.port.stream) (h : OneEffect (d.withPort p) e) :
    OneEffect d e := by
  obtain ⟨p', q, f, hp', hf, hq, rfl⟩ := h
  exact ⟨p', q, f, hp'.trans hp, hf, hq, rfl⟩

theorem OneEffect.chain {d e : Device} (h : OneEffect d e) : Relation.ReflTransGen Effect d e := by
  obtain ⟨p, q, f, hp, hf, hq, rfl⟩ := h
  exact ((Relation.ReflTransGen.single (.port p hp)).tail hf).tail (.port q hq)

/-! ## The request engine -/

/-- The part after PART RESET has been worked does not depend on the port but for the data lines. -/
theorem Device.afterReset_withPort {d : Device} {p : Port} (h : p.dataLines = d.port.dataLines) :
    (d.withPort p).afterReset = d.afterReset := by
  simp [Device.afterReset, h, Device.withPort]

/-- The engine works a frame (R162, R163): a refusal or PART RESET, or one request of the host. -/
theorem Device.workOne_effect (d : Device) (f : Frame) (rest : List Frame) : OneEffect d (d.workOne f rest) := by
  have start : OneEffect (d.withPort { d.port with requests := rest, working := some f }) (d.workOne f rest) := by
    change OneEffect _ (Device.placeReply (workFrame f (d.withPort _)).1 f (workFrame f (d.withPort _)).2)
    generalize hp : ({ d.port with requests := rest, working := some f } : Port) = p
    have refused : ∀ x, OneEffect (d.withPort p) ((d.withPort p).placeReply f x) := fun x =>
      ⟨p, ((d.withPort p).placeReply f x).port, d.withPort p, rfl, .port p rfl, rfl, rfl⟩
    unfold workFrame
    split
    · exact refused _
    · split
      · exact refused _
      · split
        · exact refused _
        · exact refused _
        · rename_i r _
          by_cases hr : r = .partReset
          · subst hr
            have hd : p.dataLines = d.port.dataLines := by rw [← hp]
            have he : (work .partReset (d.withPort p)).1.placeReply f (work .partReset (d.withPort p)).2 = d.afterReset :=
              congrArg (fun e => Device.placeReply e f none) (Device.afterReset_withPort hd)
            rw [he, ← Device.afterReset_withPort hd]
            exact .of (.reset d.resetInput)
          · exact ⟨p, ((work r (d.withPort p)).1.placeReply f (work r (d.withPort p)).2).port, (work r (d.withPort p)).1, rfl,
              .request r hr, rfl, rfl⟩
  exact .after rfl start

theorem Device.runEngine_chain : ∀ (n : Nat) (d : Device), Relation.ReflTransGen Effect d (Device.runEngine n d)
  | 0, _ => .refl
  | n + 1, d => by
    unfold Device.runEngine
    split
    · exact .refl
    · split
      · exact (d.workOne_effect _ _).chain.trans (Device.runEngine_chain n _)
      · exact .refl

theorem Device.runEngine_full {d : Device} (h : 4 ≤ d.port.replies.length) (n : Nat) : Device.runEngine n d = d := by
  cases n with
  | zero => rfl
  | succ n =>
    unfold Device.runEngine
    split
    · rfl
    · rw [if_neg (by simp [Device.engineReady]; omega)]

theorem Device.runEngine_empty {d : Device} (h : d.port.requests = []) (n : Nat) : Device.runEngine n d = d := by
  cases n with
  | zero => rfl
  | succ n => unfold Device.runEngine; rw [h]

/-- After a frame has been worked either its reply is the newest of the reply queue, or PART RESET has emptied the request queue
(R162, R171). -/
theorem Device.workOne_port (d : Device) (f : Frame) (rest : List Frame) :
    ((d.workOne f rest).port.replies.length = d.port.replies.length + 1 ∧ (d.workOne f rest).port.requests = rest) ∨
      (d.workOne f rest).port.requests = [] := by
  unfold Device.workOne
  generalize hd : ({ d with port := { d.port with requests := rest, working := some f } } : Device) = d1
  have hrep : d1.port.replies = d.port.replies := by rw [← hd]
  have hreq : d1.port.requests = rest := by rw [← hd]
  have placed : ∀ x : Device × Response, (∃ st b, x.1.port = { d1.port with stream := st, streamFault := b }) →
      ((replied x).1.placeReply f (replied x).2).port.replies.length = d.port.replies.length + 1 ∧
        ((replied x).1.placeReply f (replied x).2).port.requests = rest := by
    rintro x ⟨st, b, hx⟩
    simp [Device.placeReply, replied, hx, hrep, hreq]
  have refused : ∀ c, ∃ st b, (refuse d1 c).1.port = { d1.port with stream := st, streamFault := b } :=
    fun _ => ⟨d1.port.stream, d1.port.streamFault, rfl⟩
  dsimp only
  unfold workFrame
  split
  · exact .inl (placed _ (refused _))
  · split
    · exact .inl (placed _ (refused _))
    · split
      · exact .inl (placed _ (refused _))
      · exact .inl (placed _ (refused _))
      · rename_i r _
        by_cases hr : r = .partReset
        · subst hr; exact .inr rfl
        · obtain ⟨hw, hs⟩ := work_works hr d1
          obtain ⟨x, hx⟩ := Option.isSome_iff_exists.1 hs
          have he : replied ((work r d1).1, x) = work r d1 := by rw [replied, ← hx]
          exact .inl (he ▸ placed ((work r d1).1, x) hw.port)

/-- With room for one reply, or with one request waiting, the engine works at most one frame (R162). -/
theorem Device.engineCheck_one {d : Device} (h : 3 ≤ d.port.replies.length ∨ d.port.requests.length ≤ 1) :
    OneEffect d d.engineCheck := by
  unfold Device.engineCheck
  cases hq : d.port.requests with
  | nil => exact .refl d
  | cons f rest =>
    simp only [List.length_cons]
    unfold Device.runEngine
    rw [hq]
    dsimp only
    split
    · have stop : Device.runEngine rest.length (d.workOne f rest) = d.workOne f rest := by
        rcases d.workOne_port f rest with ⟨h1, h2⟩ | h1
        · rcases h with h | h
          · exact Device.runEngine_full (by omega) _
          · rw [hq] at h
            have : rest = [] := List.length_eq_zero_iff.1 (by simpa using h)
            exact Device.runEngine_empty (h2.trans this) _
        · exact Device.runEngine_empty h1 _
      rw [stop]
      exact d.workOne_effect f rest
    · exact .refl d

/-! ## Commands -/

theorem Device.access_elim {P : Device → Prop} {d : Device} {f : Device → Device} (h : P d) (hf : P (f d)) : P (d.access f) := by
  unfold Device.access
  split
  · exact h
  · exact hf

theorem Device.readAccess_elim {P : Device → Prop} {d : Device} {f : Device → Device} (h : P (d.returns 0)) (hf : P (f d)) :
    P (d.readAccess f) := by
  unfold Device.readAccess
  split
  · exact h
  · exact hf

theorem OneEffect.port {d : Device} (p : Port) (h : p.stream = d.port.stream) : OneEffect d (d.withPort p) := .of (.port p h)

theorem Device.readBody_effect (d : Device) : OneEffect d d.readBody := by
  unfold Device.readBody
  split
  · exact .port _ rfl
  · split <;> exact .port _ rfl

/-- What posting a frame does, when `K` relates the parts before and after the engine's check. -/
theorem Device.postFrame_elim {K : Device → Device → Prop} (hport : ∀ d p, p.stream = d.port.stream → K d (d.withPort p))
    {d : Device} (f : Frame)
    (hengine : d.port.requests.length < 4 →
      ∀ p, p = { d.port with frame := none, requests := d.port.requests ++ [f], postRefused := false } →
        K d (d.withPort p).engineCheck) : K d (d.postFrame f) := by
  unfold Device.postFrame
  split
  · exact hengine ‹_› _ rfl
  · exact hport _ _ rfl

/-- A request row sends its request through the port (log 1). -/
theorem exec_row {i : Instr} {tag : Byte} {r : Request} (h : i.request? = some (tag, r)) (s : State) :
    exec i s = .next { s with dev := s.dev.submit tag r } := by
  cases i <;> cases h <;> rfl

/-- The three ways a command can reach the request engine, and every other one, which has one effect. -/
theorem exec_effect {K : Device → Device → Prop} (hone : ∀ d e, OneEffect d e → K d e)
    (hpost : ∀ d f, K d (d.postFrame f)) (hnext : ∀ d, K d d.nextReply) (i : Instr) (s t : State)
    (h : exec i s = .next t) : K s.dev t.dev := by
  have same : K s.dev s.dev := hone _ _ (.refl _)
  cases hr : i.request? with
  | some x =>
    obtain ⟨tag, r⟩ := x
    rw [exec_row hr] at h
    cases h
    exact Device.access_elim (f := fun d => d.postFrame (requestFrame tag r)) same (hpost _ _)
  | none =>
    cases i with
    | reset =>
      cases h
      exact hone _ _ (.of (.reset true))
    | powerOn =>
      cases h
      exact hone _ _ (.of (.reset s.dev.resetInput))
    | frameWrite b =>
      cases h
      exact Device.access_elim (f := fun d => d.openFrame b) same (hone _ _ (.port (s.dev.openFrame b).port rfl))
    | bodyWrite b =>
      cases h
      exact Device.access_elim (f := fun d => d.writeBody b) same (hone _ _ (.port (s.dev.writeBody b).port rfl))
    | bodyRead =>
      cases h
      exact Device.readAccess_elim (hone _ _ (.port _ rfl)) (hone _ _ s.dev.readBody_effect)
    | post =>
      cases h
      refine Device.access_elim (f := Device.post) same ?_
      unfold Device.post
      split
      · exact same
      · exact hpost _ _
    | nextReply =>
      cases h
      exact Device.access_elim (f := Device.nextReply) same (hnext s.dev)
    | cancelFrame =>
      cases h
      exact Device.access_elim (f := Device.cancelFrame) same (hone _ _ (.port s.dev.cancelFrame.port rfl))
    | streamWrite v =>
      cases h
      exact Device.access_elim (f := fun d => d.writeStreamByte v) same (hone _ _ (.of (.written v)))
    | streamRead =>
      cases h
      exact Device.readAccess_elim (hone _ _ (.port _ rfl)) (hone _ _ (.of .read))
    | insertion c l =>
      cases h
      exact hone _ _ (.of (.insertion c l))
    | removal c l =>
      cases h
      exact hone _ _ (.of (.removal c l))
    | indexPulse c l time =>
      cases h
      exact hone _ _ (.of (.indexPulse c l time))
    | idBlock c a b n z hi lo =>
      cases h
      exact hone _ _ (.of (.idBlock c a b n z [hi, lo]))
    | dataBlock c m raw =>
      cases h
      exact hone _ _ (.of (.dataBlock c m raw))
    | revolutionBudget c l =>
      cases h
      exact hone _ _ (.of (.budget c l))
    | spinUpWait c l =>
      cases h
      exact hone _ _ (.of (.spinUp c l))
    | indexTimeout c l =>
      cases h
      exact hone _ _ (.of (.indexTimeout c l))
    | stepInterval c l =>
      cases h
      exact hone _ _ (.of (.stepInterval c l))
    | noTrack0 c l =>
      cases h
      exact hone _ _ (.of (.noTrack0 c l))
    | settle c l =>
      cases h
      exact hone _ _ (.of (.settle c l))
    | feedTimeout c l =>
      cases h
      exact hone _ _ (.of (.feedTimeout c l))
    | ejectTimeout c l =>
      cases h
      exact hone _ _ (.of (.ejectTimeout c l))
    | resetInputRelease =>
      cases h
      exact hone _ _ (.of .release)
    | _ => cases hr

theorem step_effect {K : Device → Device → Prop} (hone : ∀ d e, OneEffect d e → K d e)
    (hpost : ∀ d f, K d (d.postFrame f)) (hnext : ∀ d, K d d.nextReply) {s t : State} (h : step s = .next t) :
    K s.dev t.dev := by
  unfold step at h
  split at h
  · cases h; exact hone _ _ (.refl _)
  · rename_i c rest _
    exact exec_effect hone hpost hnext c { s with pending := rest } t h

/-- Every step is a chain of effects, from every state. -/
theorem step_chain {s t : State} (h : step s = .next t) : Relation.ReflTransGen Effect s.dev t.dev := by
  refine step_effect (fun _ _ => OneEffect.chain) (fun d f => ?_) (fun d => ?_) h
  · exact Device.postFrame_elim (fun _ _ hp => (OneEffect.port _ hp).chain) f fun _ p hp =>
      (Relation.ReflTransGen.single (.port p (by rw [hp]))).trans (Device.runEngine_chain _ _)
  · unfold Device.nextReply
    split
    · exact .refl
    · exact (Relation.ReflTransGen.single (.port _ rfl)).trans (Device.runEngine_chain _ _)

/-- From a port in order a step has one effect, because the engine then takes one request at most (R162). -/
theorem step_one {s t : State} (hs : PortOk s.dev.port) (h : step s = .next t) : OneEffect s.dev t.dev := by
  refine step_effect (K := fun d e => PortOk d.port → OneEffect d e) (fun _ _ h _ => h) (fun d f => ?_) (fun d => ?_) h hs
  · refine Device.postFrame_elim (K := fun d e => PortOk d.port → OneEffect d e) (fun _ _ hp _ => .port _ hp) f
      fun _ p hp hd => .after (by rw [hp]) (Device.engineCheck_one ?_)
    by_cases hq : d.port.requests = []
    · exact .inr (by simp [hp, hq])
    · exact .inl (by simp [hp, hd.held hq])
  · intro hd
    unfold Device.nextReply
    split
    · exact .refl d
    · rename_i r rest hr
      refine .after (p := { d.port with replies := rest, readPos := 0 }) rfl (Device.engineCheck_one ?_)
      by_cases hq : d.port.requests = []
      · exact .inr (by simp [hq])
      · have := hd.held hq
        rw [hr, List.length_cons] at this
        exact .inl (by simp; omega)

end Sys2Proof.Machine
end

section
/-! PROOFS. The page pool: every step keeps every page in one place (R5). -/

open Sys2Proof Sys2Proof.Machine

namespace Sys2Proof.Machine

/-- Amending or filling a record leaves every page where it is. -/
theorem PagesOk.keepPages {st st' : Store} (h : PagesOk st) (r : RecNo) (x : TrackRecord)
    (hp : x.track.pages = (st.record r).track.pages) (hf : x.state = (st.record r).state)
    (hfree : st'.freePages = st.freePages) (hrec : st'.records = (st.setRecord r x).records) : PagesOk st' :=
  (h.setRecord r x hp fun e => hp.trans (h.free r (hf ▸ e))).congr hfree hrec

theorem PagesOk.amend {st : Store} (h : PagesOk st) (r : RecNo) (j o : Nat) (bytes : List Byte) :
    PagesOk (st.amend r j o bytes) :=
  PagesOk.congr (h.setRecord r
    { st.record r with
      track := { (st.record r).track with
        sum := patchedSum (st.record r).track.sum (sectorBytes st.memory (st.record r).track j o bytes.length) bytes } }
    rfl (h.free r)) rfl rfl

theorem PagesOk.afterAbort {st : Store} (h : PagesOk st) (x : Stream) : PagesOk (st.afterAbort x) := by
  cases x with
  | closed => exact h
  | inbound r _ => exact h.release r
  | outbound r _ => exact h.unpinRead r

@[simp] theorem Store.record_reset (r : RecNo) : Store.reset.record r = TrackRecord.free := by
  simp [Store.reset, Store.record, Vector.get_eq_getElem]

@[simp] theorem Store.image_reset (i : ImageNo) : Store.reset.image i = Image.vacant := by
  simp [Store.reset, Store.image, Vector.get_eq_getElem]

theorem PagesOk.reset : PagesOk Store.reset where
  all := by
    have hheld : Store.reset.heldPages = [] := by
      have hrec : Store.reset.records.toList = List.replicate 512 TrackRecord.free := by
        simp only [Store.reset, Vector.toList_replicate]
      refine List.flatMap_eq_nil_iff.2 fun x hx => ?_
      rw [hrec] at hx
      rw [List.eq_of_mem_replicate hx]
      rfl
    have hfree : Store.reset.freePages = List.range 2048 := by simp only [Store.reset]
    rw [hheld, hfree, List.append_nil]
  ascending := by simpa only [Store.reset] using List.pairwise_lt_range
  free r _ := by simp [Store.record_reset, TrackRecord.free, Track.empty]

/-- A request of the host keeps every page in one place. -/
theorem Works.pages {d e : Device} (h : Works d e) (hd : PagesOk d.store) : PagesOk e.store := by
  cases h with
  | moves h => exact h.pages hd
  | profile => exact hd
  | deleted => exact hd
  | cleared => exact hd
  | enabled => exact hd
  | installed r i key t hr => exact (hd.grant hr .present (by simp) i key t).install r
  | loading r i key t p len hr => exact hd.grant hr .loading (by simp) i key t
  | removed i key => exact hd.remove i key
  | reading r len => exact hd.keepPages r { d.store.record r with readPin := true } rfl rfl rfl rfl
  | amended r j o bytes => exact hd.amend r j o bytes
  | aborted => exact hd.afterAbort _

theorem PagesOk.completeLoad {st : Store} (h : PagesOk st) (r : RecNo) : PagesOk (st.completeLoad r) :=
  PagesOk.install (h.setRecord r { st.record r with track := { (st.record r).track with
    sum := ((st.record r).track.sum + fillSum (st.record r).track.sectors) % 65536 } } rfl (h.free r)) r

theorem PagesOk.writeStreamByte {d : Device} (h : PagesOk d.store) (v : Byte) : PagesOk (d.writeStreamByte v).store := by
  have taken : ∀ r b, PagesOk (d.store.takeByte r b v) := fun r b =>
    h.keepPages r { d.store.record r with track := { (d.store.record r).track with
      sum := ((d.store.record r).track.sum + v.toNat) % 65536 } } rfl rfl rfl rfl
  unfold Device.writeStreamByte
  split
  · dsimp only
    split
    · exact (taken _ _).completeLoad _
    · exact taken _ _
  · exact h
  · exact h

theorem PagesOk.readStreamByte {d : Device} (h : PagesOk d.store) : PagesOk d.readStreamByte.store := by
  unfold Device.readStreamByte
  split
  · dsimp only
    split
    · exact h.unpinRead _
    · exact h
  · exact h
  · exact h

theorem Effect.pages {d e : Device} (h : Effect d e) (hd : PagesOk d.store) : PagesOk e.store := by
  cases h with
  | port => exact hd
  | request r hr => exact (work_works hr d).1.pages hd
  | reset => exact PagesOk.reset
  | release => exact hd
  | written v => exact hd.writeStreamByte v
  | read => exact hd.readStreamByte
  | insertion c l => exact (Device.insertion_moves c (Moves.refl.sample c l)).pages hd
  | removal c l => exact (Device.removal_moves c (Moves.refl.sample c l)).pages hd
  | indexPulse c l t => exact (Device.indexPulse_moves c t (Moves.refl.sample c l)).pages hd
  | idBlock c a b n z crc => exact (Device.idBlockRead_moves c a b n z crc .refl).pages hd
  | dataBlock c m raw => exact (Device.dataBlockRead_moves c m raw .refl).pages hd
  | budget c l => exact (Device.budgetPulse_moves c (Moves.refl.sample c l)).pages hd
  | spinUp c l => exact (Device.spinUpExpired_moves c (Moves.refl.sample c l)).pages hd
  | indexTimeout c l => exact (Device.indexExpired_moves c (Moves.refl.sample c l)).pages hd
  | stepInterval c l => exact (Device.stepExpired_moves c (Moves.refl.sample c l)).pages hd
  | noTrack0 c l => exact (Device.noTrack0Expired_moves c (Moves.refl.sample c l)).pages hd
  | settle c l => exact (Device.settleExpired_moves c (Moves.refl.sample c l)).pages hd
  | feedTimeout c l => exact (Device.feedExpired_moves c (Moves.refl.sample c l)).pages hd
  | ejectTimeout c l => exact (Device.ejectExpired_moves c (Moves.refl.sample c l)).pages hd

theorem effects_pages {d e : Device} (h : Relation.ReflTransGen Effect d e) (hd : PagesOk d.store) : PagesOk e.store := by
  induction h with
  | refl => exact hd
  | tail _ he ih => exact he.pages ih

theorem PagesOk.count {st : Store} (h : PagesOk st) : st.freePages.length + st.heldPages.length = 2048 := by
  rw [← List.length_append, h.all.length_eq, List.length_range]

/-- Settles O56: pages move between the pool and a record only together with the record's slot, effect by effect. -/
theorem pagesStayAccounted : Obligations.PagesStayAccounted := by
  intro s t h hs
  have kept : PagesOk t.dev.store := effects_pages (step_chain h) hs
  exact ⟨kept, kept.count⟩

end Sys2Proof.Machine
end

section
/-! PROOFS. What the events of the bays, the timers, the lots and the engines do to the accounts of copies, to the directories and to the
capture, said once for the invariants: a chain of `Deeds`. -/

open Sys2Proof Sys2Proof.Machine

namespace Sys2Proof.Machine

/-! ## The accounts of one copy end and of one capture end -/

/-- What a copy context says of whose copy it is: lot, image and serial (R80). -/
def CopyContext.ident (x : CopyContext) : LotNo × ImageNo × Option Nat := (x.lot, x.image, x.serial)

/-- A channel goes on with the same copy, and enters LOADED only without one. -/
def SameCopy (ch ch' : Channel) : Prop :=
  ch'.ctx.map CopyContext.ident = ch.ctx.map CopyContext.ident ∧
    (ch'.state = .loaded → ch.state = .loaded ∨ ch.ctx = none)

theorem SameCopy.ofCtx {ch ch' : Channel} (hc : ch'.ctx = ch.ctx) (hs : ch'.state = .loaded → ch.state = .loaded ∨ ch.ctx = none) :
    SameCopy ch ch' := ⟨by rw [hc], hs⟩

/-- The channel after a copy end, but for its next state (R94, R105). -/
def Channel.copyClosed (ch : Channel) (x : CopyContext) (o : CopyOutcome) (failedKey : Option Key) : Channel :=
  { ch.stopDrive with last := some (ch.closingOutcome x o failedKey), work := .none, ctx := none }

/-- The accounts of a copy end: the lot's, the image's and the channel's, before the channel takes its next state (R105, R139). -/
def Device.copyClosed (d : Device) (c : Chan) (x : CopyContext) (o : CopyOutcome) (failedKey : Option Key) : Device :=
  (((d.accountEnd x.lot o x.serial).unpin x.image).modChan c fun ch => ch.copyClosed x o failedKey).notify (noticeChDone c)

/-- The capture context after a capture end (R154). -/
def CaptureContext.over (x : CaptureContext) (reason : EndReason) : CaptureContext :=
  { x with state := .ended, phase := none, endReason := some reason, scanList := [], scanFound := 0,
           reader := CaptureReader.start, buffer := [] }

/-- The context's and the image's part of a capture end (R154). -/
def Device.captureOver (d : Device) (reason : EndReason) : Device :=
  (d.setCapture (d.capture.over reason)).clearOwner d.capture.image

/-- The capture goes on within its range: on the same key, on the next one, or on the first (R147). -/
def KeyMove (x y : CaptureContext) : Prop :=
  y.state = x.state ∧ y.channel = x.channel ∧ y.image = x.image ∧ y.firstCyl = x.firstCyl ∧ y.lastCyl = x.lastCyl ∧
    y.headCount = x.headCount ∧
      (y.key = x.key ∨ (∃ k, x.key = some k ∧ y.key = x.nextKey k) ∨ y.key = some ⟨x.firstCyl, 0⟩)

theorem KeyMove.sameKey {x y : CaptureContext} (h : (y.state, y.channel, y.image, y.firstCyl, y.lastCyl, y.headCount, y.key) =
    (x.state, x.channel, x.image, x.firstCyl, x.lastCyl, x.headCount, x.key)) : KeyMove x y := by
  simp only [Prod.mk.injEq] at h
  obtain ⟨h1, h2, h3, h4, h5, h6, h7⟩ := h
  exact ⟨h1, h2, h3, h4, h5, h6, .inl h7⟩

/-! ## The chain -/

/-- `Deeds d e`: the part can go from `d` to `e` within the events of the bays, the timers, the lots and the engines; each link says
what it does to copies, directories and the capture. -/
inductive Deeds (d : Device) : Device → Prop
  | refl : Deeds d d
  | tweak {e : Device} (c : Chan) (x : Channel) : SameCopy (e.chan c) x → Deeds d e → Deeds d (e.setChan c x)
  | notify {e : Device} (k : Nat) : Deeds d e → Deeds d (e.notify k)
  | count {e : Device} : Deeds d e → Deeds d { e with freeCount := e.freeCount + 1 }
  | reject {e : Device} (l : LotNo) : Deeds d e → Deeds d (e.setLot l (e.lot l).protectedReject)
  | granted {e : Device} (c : Chan) (l : LotNo) : (e.chan c).state = .loaded → Deeds d e → Deeds d (e.requestAdmission c l)
  | closed {e : Device} (c : Chan) (x : CopyContext) (o : CopyOutcome) (key : Option Key) : (e.chan c).ctx = some x →
      Deeds d e → Deeds d (e.copyClosed c x o key)
  | capture {e : Device} (y : CaptureContext) : KeyMove e.capture y → Deeds d e → Deeds d (e.setCapture y)
  | captured {e : Device} (r : RecNo) (i : ImageNo) (key : Key) (t : Track) (p : Nat) (bytes : List Byte) :
      e.capture.state = .running → e.capture.image = some i → e.capture.key = some key → e.store.claim p = some r →
      Deeds d e → Deeds d { e with store := e.store.captured r i key t p bytes }
  | ended {e : Device} (reason : EndReason) : Deeds d e → Deeds d (e.captureOver reason)

theorem Deeds.modChan {d e : Device} {c : Chan} {f : Channel → Channel} (h : Deeds d e)
    (hs : SameCopy (e.chan c) (f (e.chan c))) : Deeds d (e.modChan c f) := h.tweak c _ hs

/-- A change of a channel that leaves its context and does not enter LOADED. -/
theorem Deeds.quiet {d e : Device} {c : Chan} {f : Channel → Channel} (h : Deeds d e)
    (hc : ∀ ch, (f ch).ctx = ch.ctx := by intro _; rfl) (hs : ∀ ch, (f ch).state = .loaded → ch.state = .loaded := by
      first | (intro _ h; exact h) | (intro _ h; cases h)) : Deeds d (e.modChan c f) :=
  h.modChan (.ofCtx (hc _) fun hl => .inl (hs _ hl))

theorem Deeds.sample {d e : Device} (h : Deeds d e) (c : Chan) (l : Lines) : Deeds d (e.sample c l) := h.quiet

theorem Deeds.setCtx {d e : Device} {c : Chan} {x y : CopyContext} (h : Deeds d e) (hx : (e.chan c).ctx = some x)
    (hy : y.ident = x.ident := by rfl) : Deeds d (e.setCtx c y) :=
  h.modChan ⟨by simp [hx, hy], fun hl => .inl hl⟩

theorem Deeds.beginEject {d e : Device} (h : Deeds d e) (c : Chan) (b : Bin) : Deeds d (e.beginEject c b) := h.quiet

/-! ## Channels and lots -/

theorem Device.evalFeed_deeds {d e : Device} (c : Chan) (h : Deeds d e) : Deeds d (e.evalFeed c) := by
  unfold Device.evalFeed
  split
  · exact h.quiet
  · exact h

theorem Device.enterIdle_deeds {d e : Device} (c : Chan) (h : Deeds d e) : Deeds d (e.enterIdle c) :=
  Device.evalFeed_deeds c h.quiet

theorem Device.completeEject_deeds {d e : Device} (c : Chan) (h : Deeds d e) : Deeds d (e.completeEject c) := by
  unfold Device.completeEject
  dsimp only
  split
  · exact .notify _ (.quiet (.quiet h))
  · exact Device.enterIdle_deeds c (.quiet h)

theorem Device.admissionLot_loaded {d : Device} {c : Chan} {l : LotNo} (h : d.admissionLot c = some l) :
    (d.chan c).state = .loaded := by
  unfold Device.admissionLot at h
  split at h
  · rename_i hl; exact hl.1
  · cases h

theorem Device.admissionPoint_deeds {d e : Device} (c : Chan) (h : Deeds d e) : Deeds d (e.admissionPoint c) := by
  unfold Device.admissionPoint
  split
  · exact h
  · rename_i l hl
    split
    · exact .beginEject (.notify _ (.quiet (h.reject l))) c .reject
    · exact h.granted c l (Device.admissionLot_loaded hl)

theorem Device.enterLoaded_deeds {d e : Device} {c : Chan} (hc : (e.chan c).ctx = none) (h : Deeds d e) :
    Deeds d (e.enterLoaded c) :=
  Device.admissionPoint_deeds c (h.modChan (.ofCtx rfl fun _ => .inr hc))

theorem Device.answerSignal_deeds {d e : Device} (c : Chan) (h : Deeds d e) : Deeds d (e.answerSignal c) := by
  unfold Device.answerSignal
  split
  · exact Device.evalFeed_deeds c h
  · exact Device.admissionPoint_deeds c h
  all_goals exact h

theorem Device.signalOpen_deeds {d e : Device} (l : LotNo) (h : Deeds d e) : Deeds d (e.signalOpen l) := by
  unfold Device.signalOpen
  have fold : ∀ (cs : List Chan) (g : Device), Deeds d g → Deeds d (cs.foldl Device.answerSignal g) := by
    intro cs
    induction cs with
    | nil => intro g hg; exact hg
    | cons c cs ih => intro g hg; exact ih _ (Device.answerSignal_deeds c hg)
  exact fold _ _ h.count

theorem Device.enterService_deeds {d e : Device} {c : Chan} (hc : (e.chan c).ctx = none) (h : Deeds d e) :
    Deeds d (e.enterService c) := by
  unfold Device.enterService
  split
  · exact Device.enterLoaded_deeds hc h
  · exact Device.enterIdle_deeds c h

theorem Device.afterResume_deeds {d e : Device} (l : LotNo) (h : Deeds d e) : Deeds d (e.afterResume l) := by
  unfold Device.afterResume
  split
  · exact h.notify _
  · exact h.notify _
  · split
    · exact Device.signalOpen_deeds l h
    · exact h
  all_goals exact h

/-! ## The copy engine -/

theorem Device.copyEnd_deeds {d e : Device} (c : Chan) (o : CopyOutcome) (key : Option Key) (h : Deeds d e) :
    Deeds d (e.copyEnd c o key) := by
  unfold Device.copyEnd
  split
  · exact h
  · rename_i x hx
    have hclosed : Deeds d (e.copyClosed c x o key) := h.closed c x o key hx
    dsimp only
    split
    · refine Device.evalFeed_deeds c ?_
      split
      · exact Device.signalOpen_deeds _ (.quiet hclosed)
      · exact .quiet hclosed
    · split
      · exact Device.signalOpen_deeds _ (.beginEject hclosed c o.bin)
      · exact .beginEject hclosed c o.bin

theorem Device.copyCut_deeds {d e : Device} (c : Chan) (r : RejectReason) (h : Deeds d e) : Deeds d (e.copyCut c r) :=
  Device.copyEnd_deeds c _ _ h

theorem Channel.position_sameCopy {ch : Channel} {x y : CopyContext} (hx : ch.ctx = some x) (hy : y.ident = x.ident) (key : Key) :
    SameCopy ch (ch.position y key) := by
  unfold Channel.position
  split
  · exact ⟨by rw [hx]; exact congrArg some hy, fun hl => .inl hl⟩
  · exact ⟨by rw [hx]; exact congrArg some hy, fun hl => .inl hl⟩

theorem Device.beginTrack_deeds {d e : Device} (c : Chan) (k : Key) (h : Deeds d e) : Deeds d (e.beginTrack c k) := by
  unfold Device.beginTrack
  split
  · exact h
  · rename_i x hx
    dsimp only
    split
    · exact Device.copyEnd_deeds c _ _ (h.setCtx hx)
    · refine h.modChan (Channel.position_sameCopy hx ?_ k)
      rfl

theorem Device.enterCopying_deeds {d e : Device} (c : Chan) (h : Deeds d e) : Deeds d (e.enterCopying c) :=
  Device.beginTrack_deeds c _ h.quiet

theorem Device.beginNext_deeds {d e : Device} (c : Chan) (h : Deeds d e) : Deeds d (e.beginNext c) := by
  unfold Device.beginNext
  repeat' split
  all_goals first | exact h | exact Device.beginTrack_deeds c _ h

theorem Device.resumeCopy_deeds {d e : Device} (c : Chan) (h : Deeds d e) : Deeds d (e.resumeCopy c) :=
  Device.beginNext_deeds c h.quiet

theorem Device.released_deeds {d e : Device} (c : Chan) (h : Deeds d e) : Deeds d (e.released c) := by
  unfold Device.released
  dsimp only
  split
  · exact Device.resumeCopy_deeds c h.quiet
  · exact Device.answerSignal_deeds c h.quiet

theorem Device.trackDone_deeds {d e : Device} (c : Chan) (h : Deeds d e) : Deeds d (e.trackDone c) := by
  unfold Device.trackDone
  split
  · exact h
  · rename_i x hx
    have hdone : Deeds d (e.setCtx c { x with written := x.written + 1, plan := none, counter := none }) := h.setCtx hx
    dsimp only
    split
    · exact Device.copyEnd_deeds c _ _ hdone
    · split
      · exact hdone.modChan ⟨by simp [Device.setCtx, CopyContext.ident], fun hl => nomatch hl⟩
      · exact Device.beginTrack_deeds c _ hdone

theorem Device.timeLimit_deeds {d e : Device} {c : Chan} {x : CopyContext} (hx : (e.chan c).ctx = some x) (h : Deeds d e) :
    Deeds d (e.timeLimit c x) := Device.copyEnd_deeds c _ _ (h.setCtx hx)

theorem Device.passFailed_deeds {d e : Device} {c : Chan} {x : CopyContext} (f : VerifyFault) (hx : (e.chan c).ctx = some x)
    (h : Deeds d e) : Deeds d (e.passFailed c x f) := by
  unfold Device.passFailed
  dsimp only
  split
  · exact Device.copyEnd_deeds c _ _ (h.setCtx hx)
  · split
    · exact Device.copyEnd_deeds c _ _ (h.setCtx hx)
    · split
      · refine h.modChan ⟨by rw [hx]; rfl, fun hl => .inl ?_⟩
        unfold Channel.startRecal Channel.recalFound at hl
        dsimp only at hl
        split at hl
        · split at hl <;> exact hl
        · exact hl
      · exact h.setCtx hx

theorem Device.endVerify_deeds {d e : Device} {c : Chan} {x : CopyContext} (hx : (e.chan c).ctx = some x) (h : Deeds d e) :
    Deeds d (e.endVerify c x) := by
  unfold Device.endVerify
  split
  · exact h
  · split
    · exact Device.trackDone_deeds c (h.setCtx hx)
    · exact Device.passFailed_deeds _ hx h

theorem Device.endWrite_deeds {d e : Device} {c : Chan} {x : CopyContext} (hx : (e.chan c).ctx = some x) (h : Deeds d e) :
    Deeds d (e.endWrite c x) := by
  unfold Device.endWrite
  have hd1 : Deeds d (e.modChan c Channel.closeWrite) := h.quiet
  have hx1 : ((e.modChan c Channel.closeWrite).chan c).ctx = some x := by rw [Device.modChan_chan_self]; exact hx
  dsimp only
  split
  · exact Device.trackDone_deeds c (hd1.setCtx hx1)
  · split
    · exact Device.timeLimit_deeds hx1 hd1
    · exact hd1.setCtx hx1

theorem Channel.openWrite_sameCopy {ch : Channel} {x : CopyContext} (hx : ch.ctx = some x) (m : List Host.Cell) (n : Nat) :
    SameCopy ch (ch.openWrite x m n) := ⟨by rw [hx]; rfl, fun hl => .inl hl⟩

theorem Device.copyPulse_deeds {d e : Device} (c : Chan) (h : Deeds d e) : Deeds d (e.copyPulse c) := by
  unfold Device.copyPulse
  split
  · exact h
  · rename_i x hx
    split
    · exact h
    · exact h
    · split
      · exact h.modChan (Channel.openWrite_sameCopy hx _ _)
      · split
        · exact Device.timeLimit_deeds hx h
        · exact h.modChan (Channel.openWrite_sameCopy hx _ _)
    · split
      · exact Device.timeLimit_deeds hx h
      · exact h.setCtx hx
    · exact Device.endWrite_deeds hx h
    · exact Device.endVerify_deeds hx h

theorem Device.copyIdBlock_deeds {d e : Device} (c : Chan) (id crcRead : List Byte) (h : Deeds d e) :
    Deeds d (e.copyIdBlock c id crcRead) := by
  unfold Device.copyIdBlock
  split
  · exact h
  · rename_i x hx
    split
    · exact h.setCtx hx
    · exact h

theorem Device.copyDataBlock_deeds {d e : Device} (c : Chan) (m : Mark) (raw : List Byte) (h : Deeds d e) :
    Deeds d (e.copyDataBlock c m raw) := by
  unfold Device.copyDataBlock
  split
  · exact h
  · rename_i x hx
    split
    · exact h.setCtx hx
    · exact h

theorem Channel.copyPositioned_sameCopy (ch : Channel) : SameCopy ch ch.copyPositioned := by
  unfold Channel.copyPositioned
  split
  · exact .ofCtx rfl .inl
  · rename_i x hx
    split
    · exact ⟨by rw [hx]; rfl, .inl⟩
    · exact ⟨by rw [hx]; rfl, .inl⟩
    · exact .ofCtx rfl .inl

/-! ## The capture engine -/

theorem Deeds.modCapture {d e : Device} {y : CaptureContext} (h : Deeds d e)
    (hy : (y.state, y.channel, y.image, y.firstCyl, y.lastCyl, y.headCount, y.key) =
      (e.capture.state, e.capture.channel, e.capture.image, e.capture.firstCyl, e.capture.lastCyl, e.capture.headCount,
        e.capture.key) := by rfl) : Deeds d (e.setCapture y) := h.capture y (.sameKey hy)

theorem Device.clearOwner_chan (d : Device) (i : Option ImageNo) (c : Chan) : (d.clearOwner i).chan c = d.chan c := by
  cases i <;> rfl

theorem Device.captureChannelEnd_deeds {d e : Device} {c : Chan} (reason : EndReason) (hc : (e.chan c).ctx = none)
    (h : Deeds d e) : Deeds d (e.captureChannelEnd c reason) := by
  have hstop : Deeds d (e.modChan c fun ch => { ch.stopDrive with work := .none }) := h.quiet
  have loaded : Deeds d (((e.modChan c fun ch => { ch.stopDrive with work := .none }).modChan c fun ch =>
      { ch with master := true }).enterLoaded c) :=
    Device.enterLoaded_deeds (by simpa [Channel.stopDrive] using hc) hstop.quiet
  unfold Device.captureChannelEnd
  cases reason with
  | complete => exact loaded
  | aborted => exact loaded
  | noSpace => exact loaded
  | mediaLost => exact Device.enterIdle_deeds c hstop.quiet
  | driveFault => exact .notify _ hstop.quiet

theorem Device.captureEnd_eq (d : Device) (c : Chan) (reason : EndReason) :
    d.captureEnd c reason = ((d.captureOver reason).captureChannelEnd c reason).notify noticeCaptureEnd := rfl

theorem Device.captureEnd_deeds {d e : Device} {c : Chan} (reason : EndReason) (hc : (e.chan c).ctx = none) (h : Deeds d e) :
    Deeds d (e.captureEnd c reason) := by
  rw [Device.captureEnd_eq]
  refine .notify _ (Device.captureChannelEnd_deeds reason ?_ (h.ended reason))
  rw [Device.captureOver, Device.clearOwner_chan]
  exact hc

theorem Device.beginKey_deeds {d e : Device} (c : Chan) (k : Key)
    (hk : (∃ k', e.capture.key = some k' ∧ e.capture.nextKey k' = some k) ∨ k = ⟨e.capture.firstCyl, 0⟩) (h : Deeds d e) :
    Deeds d (e.beginKey c k) := by
  have hmove : ∀ y : CaptureContext,
      y = { e.capture with key := some k, scans := 0, reads := 0, phase := y.phase } → KeyMove e.capture y := by
    intro y hy
    rw [hy]
    refine ⟨rfl, rfl, rfl, rfl, rfl, rfl, .inr ?_⟩
    rcases hk with ⟨k', h1, h2⟩ | h1
    · exact .inl ⟨k', h1, h2.symm⟩
    · exact .inr (congrArg some h1)
  unfold Device.beginKey
  dsimp only
  split
  · exact .quiet (h.capture _ (hmove _ rfl))
  · exact .quiet (h.capture _ (hmove _ rfl))

theorem Device.enterCapturing_deeds {d e : Device} (c : Chan) (h : Deeds d e) : Deeds d (e.enterCapturing c) :=
  Device.beginKey_deeds c _ (.inr rfl) h.quiet

theorem Device.keySettled_deeds {d e : Device} {c : Chan} (hc : (e.chan c).ctx = none) (h : Deeds d e) :
    Deeds d (e.keySettled c) := by
  unfold Device.keySettled
  split
  · rename_i k hk
    obtain ⟨k', hk', hn⟩ := Option.bind_eq_some_iff.1 hk
    exact Device.beginKey_deeds c k (.inl ⟨k', hk', hn⟩) h
  · exact Device.captureEnd_deeds _ hc h

theorem Device.keyFailed_deeds {d e : Device} {c : Chan} (reason : FailReason) (hc : (e.chan c).ctx = none) (h : Deeds d e) :
    Deeds d (e.keyFailed c reason) := by
  refine Device.keySettled_deeds (e := e.setCapture (e.capture.fail reason)) hc (h.modCapture ?_)
  unfold CaptureContext.fail
  split
  · rfl
  · split <;> rfl

theorem Device.judgeScan_deeds {d e : Device} {c : Chan} (hc : (e.chan c).ctx = none) (h : Deeds d e) :
    Deeds d (e.judgeScan c) := by
  unfold Device.judgeScan
  dsimp only
  split
  · exact Device.keyFailed_deeds _ hc h
  · split
    · split
      · exact h.modCapture
      · exact Device.keyFailed_deeds _ hc h
    · split
      · exact Device.keySettled_deeds hc h.modCapture
      · split
        · exact Device.keyFailed_deeds _ hc h
        · split
          · exact Device.keyFailed_deeds _ hc h
          · exact h.modCapture

theorem Device.installCapture_deeds {d e : Device} {c : Chan} (hrun : e.capture.state = .running) (hc : (e.chan c).ctx = none)
    (h : Deeds d e) : Deeds d (e.installCapture c) := by
  unfold Device.installCapture
  split
  · rename_i i key hi hk
    dsimp only
    split
    · exact Device.captureEnd_deeds _ hc h
    · rename_i r hr
      exact Device.keySettled_deeds hc ((h.captured r i key _ _ _ hrun hi hk hr).modCapture)
  · exact h

theorem Device.judgeRead_deeds {d e : Device} {c : Chan} (hrun : e.capture.state = .running) (hc : (e.chan c).ctx = none)
    (h : Deeds d e) : Deeds d (e.judgeRead c) := by
  unfold Device.judgeRead
  split
  · exact Device.installCapture_deeds hrun hc h
  · split
    · exact h.modCapture
    · exact Device.keyFailed_deeds _ hc h

theorem Device.capturePulse_deeds {d e : Device} {c : Chan} (hrun : e.capture.state = .running) (hc : (e.chan c).ctx = none)
    (h : Deeds d e) : Deeds d (e.capturePulse c) := by
  unfold Device.capturePulse
  split
  · exact h.modCapture
  · exact Device.judgeScan_deeds hc h
  · exact Device.judgeRead_deeds hrun hc h
  all_goals exact h

theorem Device.captureIdBlock_deeds {d e : Device} (a b n s : Byte) (crcRead : List Byte) (h : Deeds d e) :
    Deeds d (e.captureIdBlock a b n s crcRead) := by
  unfold Device.captureIdBlock
  split
  · exact h.modCapture
  · exact h.modCapture
  all_goals exact h

theorem CaptureContext.readDataBlock_keeps (x : CaptureContext) (m : Mark) (raw : List Byte) :
    KeyMove x (x.readDataBlock m raw) := by
  refine .sameKey ?_
  unfold CaptureContext.readDataBlock
  dsimp only
  repeat' split
  all_goals rfl

theorem Device.captureDataBlock_deeds {d e : Device} (m : Mark) (raw : List Byte) (h : Deeds d e) :
    Deeds d (e.captureDataBlock m raw) := by
  unfold Device.captureDataBlock
  split
  · exact h.capture _ (CaptureContext.readDataBlock_keeps _ _ _)
  all_goals exact h

theorem Device.capturePositioned_deeds {d e : Device} (c : Chan) (h : Deeds d e) : Deeds d (e.capturePositioned c) := by
  unfold Device.capturePositioned
  split
  · exact .quiet h.modCapture
  · exact h

theorem Device.abortCapture_deeds {d e : Device} (hc : ∀ c, e.capture.channel = some c → (e.chan c).ctx = none) (h : Deeds d e) :
    Deeds d e.abortCapture := by
  unfold Device.abortCapture
  split
  · exact h
  · rename_i c hch
    exact Device.captureEnd_deeds _ (hc c hch) h

end Sys2Proof.Machine
end

section
/-! PROOFS. The events of a bay in order are chains of `Deeds`: a channel that can enter LOADED has no copy context (R92, R119). -/

open Sys2Proof Sys2Proof.Machine

namespace Sys2Proof.Machine

/-- A channel whose work is not COPY has no copy context (R119). -/
theorem ChannelOk.noContext {ch : Channel} (h : ChannelOk ch) (hw : ch.work ≠ .copy) : ch.ctx = none := by
  have hctx := h.context
  rw [beq_eq_false_iff_ne.2 hw] at hctx
  exact Option.isNone_iff_eq_none.1 (by rw [← Option.not_isSome, hctx]; rfl)

/-- A channel at rest has no copy context (R92). -/
theorem ChannelOk.rest {ch : Channel} (h : ChannelOk ch) (hs : ch.state.works = false) : ch.ctx = none := by
  have hw : ch.work = .none := by
    have := h.work
    unfold WorkOk at this
    revert this hs
    cases ch.state <;> intro hs hw <;> first | exact hw | cases hs
  exact h.noContext (by rw [hw]; decide)

theorem ChannelOk.capturing {ch : Channel} (h : ChannelOk ch) (hs : ch.state = .capturing) : ch.work = .capture := by
  have := h.work
  rw [WorkOk, hs] at this
  exact this

theorem ChannelOk.setLines {ch : Channel} (h : ChannelOk ch) (l : Lines) : ChannelOk { ch with lines := l } :=
  ⟨h.work, h.context, h.motor, h.monitored, h.spinUp, h.feed, h.feedTimer, h.eject, h.ejectTimer, h.bin, h.pendingFault,
    h.faulted, h.seated, h.master, h.gate, h.held, h.calibration, h.plan⟩

theorem BaysOk.sample {d : Device} (h : BaysOk d) (c : Chan) (l : Lines) : BaysOk (d.sample c l) := by
  have keep : ∀ c', ChannelOk ((d.sample c l).chan c') ∧ ((d.sample c l).chan c').work = (d.chan c').work := by
    intro c'
    unfold Device.sample
    rw [Device.modChan_chan]
    split
    · rename_i e
      exact e ▸ ⟨(h.channel c).setLines l, rfl⟩
    · exact ⟨h.channel c', rfl⟩
  exact ⟨fun c' => (keep c').1, fun c' => by rw [(keep c').2]; exact h.capture c'⟩

/-- Where the capture engine works there is a running capture, and no copy context (R92, R143). -/
theorem BaysOk.onCapture {d : Device} (h : BaysOk d) {c : Chan} (hw : (d.chan c).work = .capture) :
    d.capture.state = .running ∧ (d.chan c).ctx = none :=
  ⟨((h.capture c).1 hw).1, (h.channel c).noContext (by rw [hw]; decide)⟩

/-! ## Drive faults, insertion and removal -/

theorem Device.driveFault_deeds {d : Device} (h : BaysOk d) (c : Chan) (f : FaultRecord) : Deeds d (d.driveFault c f) := by
  unfold Device.driveFault
  split
  · exact Device.copyCut_deeds c _ Deeds.refl.quiet
  · rename_i hw
    exact Device.captureEnd_deeds _ (by rw [Device.modChan_chan_self]; exact (h.onCapture hw).2) Deeds.refl.quiet
  · exact .refl

theorem Device.insertion_deeds {d : Device} (h : BaysOk d) (c : Chan) : Deeds d (d.insertion c) := by
  have hrest : (d.chan c).state.works = false → (d.chan c).ctx = none := (h.channel c).rest
  have hmedia : Deeds d (d.modChan c fun ch => { ch with media := true }) := Deeds.refl.quiet
  unfold Device.insertion
  dsimp only
  split
  · exact .refl
  · split <;> rename_i hs
    · exact Device.enterLoaded_deeds (by simpa using hrest (by rw [hs]; rfl)) hmedia
    · exact Device.enterLoaded_deeds (by simpa using hrest (by rw [hs]; rfl)) hmedia
    · exact Device.enterLoaded_deeds (by simpa using hrest (by rw [hs]; rfl)) hmedia.quiet
    all_goals exact hmedia

theorem Device.removal_deeds {d : Device} (h : BaysOk d) (c : Chan) : Deeds d (d.removal c) := by
  have hmedia : Deeds d (d.modChan c fun ch => { ch with media := false, master := false }) := Deeds.refl.quiet
  have cut : Deeds d (match (d.chan c).work with
      | .copy => (d.modChan c fun ch => { ch with media := false, master := false }).copyCut c .mediaLost
      | .capture => (d.modChan c fun ch => { ch with media := false, master := false }).captureEnd c .mediaLost
      | .none => d.modChan c fun ch => { ch with media := false, master := false }) := by
    split
    · exact Device.copyCut_deeds c _ hmedia
    · rename_i hw
      exact Device.captureEnd_deeds _ (by rw [Device.modChan_chan_self]; exact (h.onCapture hw).2) hmedia
    · exact hmedia
  unfold Device.removal
  dsimp only
  split
  · exact .refl
  · split
    all_goals first | exact cut | exact hmedia | exact Device.enterIdle_deeds c hmedia | exact Device.completeEject_deeds c hmedia

/-! ## Index pulses -/

theorem Channel.enterCalibrating_keeps (ch : Channel) : ch.enterCalibrating.ctx = ch.ctx ∧ ch.enterCalibrating.state = .calibrating := by
  unfold Channel.enterCalibrating
  dsimp only
  split <;> exact ⟨rfl, rfl⟩

/-- Restarting the index timer leaves the bay in order, but for the timer. -/
theorem Device.pulseTaken_deeds {d : Device} (h : BaysOk d) (c : Chan) (time : Nat) : Deeds d (d.pulseTaken c time) := by
  have hd1 : Deeds d (d.modChan c Channel.restartIndex) := Deeds.refl.quiet
  have hch : (d.modChan c Channel.restartIndex).chan c = (d.chan c).restartIndex := Device.modChan_chan_self ..
  unfold Device.pulseTaken
  dsimp only
  split <;> rename_i hs
  · split
    · exact hd1
    · exact hd1.quiet
    · exact hd1.quiet
    · unfold Device.measured
      split
      · refine hd1.modChan (.ofCtx (Channel.enterCalibrating_keeps _).1 fun hl => ?_)
        rw [(Channel.enterCalibrating_keeps _).2] at hl
        cases hl
      · unfold Device.driveFault
        rw [hch]
        split
        · exact Device.copyCut_deeds c _ hd1.quiet
        · rename_i hw
          refine Device.captureEnd_deeds _ ?_ hd1.quiet
          rw [Device.modChan_chan_self, hch]
          exact (h.onCapture hw).2
        · exact hd1
  · exact Device.copyPulse_deeds c hd1
  · obtain ⟨hrun, hctx⟩ := h.onCapture ((h.channel c).capturing hs)
    exact Device.capturePulse_deeds hrun (by rw [hch]; exact hctx) hd1
  all_goals exact hd1

theorem Device.indexPulse_deeds {d : Device} (h : BaysOk d) (c : Chan) (time : Nat) : Deeds d (d.indexPulse c time) := by
  unfold Device.indexPulse
  split
  · exact Device.pulseTaken_deeds h c time
  · exact .refl

/-! ## Timer expiries -/

theorem Channel.recalFound_keeps (ch : Channel) (back : Nat) :
    (ch.recalFound back).ctx = ch.ctx ∧ (ch.recalFound back).state = ch.state := by
  unfold Channel.recalFound
  split <;> exact ⟨rfl, rfl⟩

theorem Device.stepExpired_deeds {d : Device} (h : BaysOk d) (c : Chan) : Deeds d (d.stepExpired c) := by
  unfold Device.stepExpired
  split
  · exact .refl
  · split
    · split
      · exact Deeds.refl.quiet
      · split
        · exact Device.driveFault_deeds h c _
        · exact Deeds.refl.quiet
    · split
      · exact Deeds.refl.modChan (.ofCtx (Channel.recalFound_keeps _ _).1 fun hl =>
          .inl ((Channel.recalFound_keeps _ _).2.symm.trans hl))
      · split
        · exact Device.driveFault_deeds h c _
        · exact Deeds.refl.quiet
    · split <;> exact Deeds.refl.quiet
    · split <;> exact Deeds.refl.quiet
    all_goals exact .refl

theorem Device.settleExpired_deeds (d : Device) (c : Chan) : Deeds d (d.settleExpired c) := by
  have hd1 : Deeds d (d.modChan c fun ch => { ch with timers := { ch.timers with settle := none }, motion := .none }) :=
    Deeds.refl.quiet
  have positioned : Deeds d ((d.modChan c fun ch =>
      { ch with timers := { ch.timers with settle := none }, motion := .none }).positioned c) := by
    unfold Device.positioned
    split
    · exact hd1.modChan (Channel.copyPositioned_sameCopy _)
    · exact Device.capturePositioned_deeds c hd1
    · exact hd1
  unfold Device.settleExpired
  split
  · exact .refl
  · dsimp only
    split
    · unfold Device.calibrationDone
      split
      · exact Device.enterCopying_deeds c hd1
      · exact Device.enterCapturing_deeds c hd1
      · exact hd1
    · exact positioned
    · exact positioned
    all_goals exact hd1

theorem Device.idBlockRead_deeds (d : Device) (c : Chan) (a b n s : Byte) (crcRead : List Byte) :
    Deeds d (d.idBlockRead c a b n s crcRead) := by
  unfold Device.idBlockRead
  split
  · exact Device.copyIdBlock_deeds c _ _ .refl
  · exact Device.captureIdBlock_deeds _ _ _ _ _ .refl
  all_goals exact .refl

theorem Device.dataBlockRead_deeds (d : Device) (c : Chan) (m : Mark) (raw : List Byte) :
    Deeds d (d.dataBlockRead c m raw) := by
  unfold Device.dataBlockRead
  split
  · exact Device.copyDataBlock_deeds c _ _ .refl
  · exact Device.captureDataBlock_deeds _ _ .refl
  all_goals exact .refl

theorem Deeds.trans {d e f : Device} (h : Deeds d e) (g : Deeds e f) : Deeds d f := by
  induction g with
  | refl => exact h
  | tweak c x hs _ ih => exact ih.tweak c x hs
  | notify k _ ih => exact ih.notify k
  | count _ ih => exact ih.count
  | reject l _ ih => exact ih.reject l
  | granted c l hl _ ih => exact ih.granted c l hl
  | closed c x o key hx _ ih => exact ih.closed c x o key hx
  | capture y hy _ ih => exact ih.capture y hy
  | captured r i key t p bytes hs hi hk hr _ ih => exact ih.captured r i key t p bytes hs hi hk hr
  | ended reason _ ih => exact ih.ended reason

/-- An effect of a bay is a chain of deeds; the other effects are the host's. -/
inductive HostEffect (d : Device) : Device → Prop
  | port (p : Port) : p.stream = d.port.stream → HostEffect d (d.withPort p)
  | request (r : Request) : r ≠ .partReset → HostEffect d (work r d).1
  | reset (b : Bool) : HostEffect d { d.afterReset with resetInput := b }
  | release : HostEffect d { d with resetInput := false }
  | written (v : Byte) : HostEffect d (d.writeStreamByte v)
  | read : HostEffect d d.readStreamByte

theorem Effect.cases_deeds {d e : Device} (hd : BaysOk d) (h : Effect d e) : HostEffect d e ∨ Deeds d e := by
  have sampled : ∀ c l {f}, Deeds (d.sample c l) f → Deeds d f := fun _ _ _ h => (Deeds.refl.sample _ _).trans h
  cases h with
  | port p hp => exact .inl (.port p hp)
  | request r hr => exact .inl (.request r hr)
  | reset b => exact .inl (.reset b)
  | release => exact .inl .release
  | written v => exact .inl (.written v)
  | read => exact .inl .read
  | insertion c l => exact .inr (sampled c l (Device.insertion_deeds (hd.sample c l) c))
  | removal c l => exact .inr (sampled c l (Device.removal_deeds (hd.sample c l) c))
  | indexPulse c l t => exact .inr (sampled c l (Device.indexPulse_deeds (hd.sample c l) c t))
  | idBlock c a b n z crcRead => exact .inr (d.idBlockRead_deeds c a b n z crcRead)
  | dataBlock c m raw => exact .inr (d.dataBlockRead_deeds c m raw)
  | budget c l =>
    refine .inr (sampled c l ?_)
    unfold Device.budgetPulse
    split
    · exact Device.indexPulse_deeds (hd.sample c l) c 0
    · exact .refl
  | spinUp c l =>
    refine .inr (sampled c l ?_)
    unfold Device.spinUpExpired
    split
    · exact Deeds.refl.quiet
    · exact .refl
  | indexTimeout c l =>
    refine .inr (sampled c l ?_)
    unfold Device.indexExpired
    split
    · exact Device.driveFault_deeds (hd.sample c l) c _
    · exact .refl
  | stepInterval c l => exact .inr (sampled c l (Device.stepExpired_deeds (hd.sample c l) c))
  | noTrack0 c l =>
    refine .inr (sampled c l ?_)
    unfold Device.noTrack0Expired
    split
    · exact Device.stepExpired_deeds (hd.sample c l) c
    · exact .refl
  | settle c l => exact .inr (sampled c l (Device.settleExpired_deeds _ c))
  | feedTimeout c l =>
    refine .inr (sampled c l ?_)
    unfold Device.feedExpired
    split
    · exact .notify _ Deeds.refl.quiet
    · exact .refl
  | ejectTimeout c l =>
    refine .inr (sampled c l ?_)
    unfold Device.ejectExpired
    split
    · exact .notify _ Deeds.refl.quiet
    · exact .refl

end Sys2Proof.Machine
end

section
/-! PROOFS. The image store's own operations, slot by slot: what a claim, a grant, a release, a disposal, an installation, a removal and
a vacating leave in each record, in each image, in the pool and in memory (R5 to R9, R15). -/

open Sys2Proof Sys2Proof.Machine

namespace Sys2Proof.Machine

/-! ## Claims and grants (R5) -/

theorem Store.lowestFree_none {st : Store} : st.lowestFree = none ↔ ∀ r, (st.record r).state ≠ .free := by
  simp [Store.lowestFree]

theorem Store.claim_none (st : Store) (p : Nat) :
    st.claim p = none ↔ st.freePages.length < p ∨ ∀ r, (st.record r).state ≠ .free := by
  unfold Store.claim
  split
  · simp [*]
  · simp [*, Store.lowestFree_none]

theorem Store.claim_iff (st : Store) (p : Nat) (r : RecNo) : st.claim p = some r ↔
    p ≤ st.freePages.length ∧ (st.record r).state = .free ∧ ∀ r', r' < r → (st.record r').state ≠ .free := by
  constructor
  · intro h
    obtain ⟨h1, h2, h3⟩ := Store.claim_some h
    exact ⟨h3, h1, h2⟩
  · rintro ⟨hp, hf, hl⟩
    cases hc : st.claim p with
    | none => exact ((st.claim_none p).1 hc).elim (by omega) fun h => absurd hf (h r)
    | some r' =>
      obtain ⟨h1, h2, _⟩ := Store.claim_some hc
      rcases lt_trichotomy r' r with h | h | h
      · exact absurd h1 (hl r' h)
      · rw [h]
      · exact absurd hf (h2 r h)

theorem Store.grant_record (st : Store) (r : RecNo) (s : RecState) (i : ImageNo) (key : Key) (t : Track) (p : Nat) (r' : RecNo) :
    (st.grant r s i key t p).record r' =
      if r = r' then ⟨s, .linked, false, i, key, { t with pages := st.freePages.take p }⟩ else st.record r' :=
  Store.setRecord_record st r r' _

theorem Store.grant_image (st : Store) (r : RecNo) (s : RecState) (i : ImageNo) (key : Key) (t : Track) (p : Nat) (j : ImageNo) :
    (st.grant r s i key t p).image j =
      if i = j then { st.image i with pagesHeld := (st.image i).pagesHeld + p } else st.image j := by
  unfold Store.grant
  exact Store.setImage_image _ _ _ _

@[simp] theorem Store.grant_freePages (st : Store) (r : RecNo) (s : RecState) (i : ImageNo) (key : Key) (t : Track) (p : Nat) :
    (st.grant r s i key t p).freePages = st.freePages.drop p := rfl

@[simp] theorem Store.grant_memory (st : Store) (r : RecNo) (s : RecState) (i : ImageNo) (key : Key) (t : Track) (p : Nat) :
    (st.grant r s i key t p).memory = st.memory := rfl

/-! ## Releases and disposals (R5, R6) -/

theorem Store.dropPages_image (st : Store) (i j : ImageNo) (k : Nat) : (st.dropPages i k).image j =
    if i = j then { st.image i with pagesHeld := (st.image i).pagesHeld - k } else st.image j := Store.setImage_image ..

theorem Store.mem_returnPages {pool pages : List Nat} {p : Nat} : p ∈ returnPages pool pages ↔ p ∈ pool ∨ p ∈ pages := by
  rw [(returnPages_perm pool pages).mem_iff, List.mem_append, or_comm]

@[simp] theorem Store.release_memory (st : Store) (r : RecNo) : (st.release r).memory = st.memory := by
  unfold Store.release; dsimp only; split <;> rfl

theorem Store.release_image (st : Store) (r : RecNo) (j : ImageNo) : (st.release r).image j =
    if j = (st.record r).image ∧ (st.record r).link = .linked then
      { st.image j with pagesHeld := (st.image j).pagesHeld - (st.record r).track.pages.length }
    else st.image j := by
  unfold Store.release
  dsimp only
  cases hl : (st.record r).link with
  | linked =>
    rw [Store.setRecord_image, Store.dropPages_image]
    by_cases hj : (st.record r).image = j
    · subst hj; rw [if_pos rfl, if_pos ⟨rfl, rfl⟩]; rfl
    · rw [if_neg hj, if_neg fun h => hj h.1.symm]; rfl
  | unlinked =>
    rw [if_neg fun h => nomatch h.2]; rfl

theorem Store.unlink_record (st : Store) (r r' : RecNo) :
    (st.unlink r).record r' = if r = r' then { st.record r with link := .unlinked } else st.record r' :=
  Store.setRecord_record (st.dropPages _ _) r r' _

theorem Store.unlink_image (st : Store) (r : RecNo) (j : ImageNo) : (st.unlink r).image j =
    if (st.record r).image = j then
      { st.image j with pagesHeld := (st.image j).pagesHeld - (st.record r).track.pages.length }
    else st.image j := by
  change (st.dropPages _ _).image j = _
  rw [Store.dropPages_image]
  split
  · rename_i h; rw [h]
  · rfl

/-- A record that its entry no longer names (R6): UNLINKED while it is read, FREE otherwise. -/
def TrackRecord.disposed (x : TrackRecord) : TrackRecord := if x.readPin then { x with link := .unlinked } else TrackRecord.free

theorem TrackRecord.disposed_pinned {x : TrackRecord} (h : x.readPin = true) : x.disposed = { x with link := .unlinked } := if_pos h

theorem TrackRecord.disposed_unpinned {x : TrackRecord} (h : x.readPin = false) : x.disposed = TrackRecord.free := by
  rw [TrackRecord.disposed, h]; rfl

@[simp] theorem TrackRecord.disposed_disposed (x : TrackRecord) : x.disposed.disposed = x.disposed := by
  cases h : x.readPin with
  | true =>
    rw [TrackRecord.disposed_pinned h]
    exact TrackRecord.disposed_pinned h
  | false =>
    rw [TrackRecord.disposed_unpinned h]
    rfl

theorem Store.dispose_record (st : Store) (r r' : RecNo) :
    (st.dispose r).record r' = if r = r' then (st.record r).disposed else st.record r' := by
  unfold Store.dispose
  cases h : (st.record r).readPin with
  | true => rw [if_pos rfl, Store.unlink_record, TrackRecord.disposed_pinned h]
  | false => rw [if_neg (by decide), Store.release_record, TrackRecord.disposed_unpinned h]

@[simp] theorem Store.dispose_memory (st : Store) (r : RecNo) : (st.dispose r).memory = st.memory := by
  unfold Store.dispose
  split
  · rfl
  · exact st.release_memory r

/-- Disposing of a record of image `i` (R6) leaves every other image, and of `i` changes the pages held alone. -/
theorem Store.dispose_image (st : Store) (r : RecNo) (hl : (st.record r).link = .linked) (j : ImageNo) :
    (st.dispose r).image j =
      if j = (st.record r).image then
        { st.image j with pagesHeld := (st.image j).pagesHeld - (st.record r).track.pages.length }
      else st.image j := by
  unfold Store.dispose
  split
  · rw [Store.unlink_image]; simp only [eq_comm]
  · rw [Store.release_image]; simp [hl]

/-- A disposal changes the pages held alone of an image record, whatever the record's link. -/
theorem Store.dispose_image_pages (st : Store) (r : RecNo) (j : ImageNo) :
    ∃ n, (st.dispose r).image j = { st.image j with pagesHeld := n } := by
  unfold Store.dispose
  split
  · rw [Store.unlink_image]
    split
    · exact ⟨_, rfl⟩
    · exact ⟨_, rfl⟩
  · rw [Store.release_image]
    split
    · exact ⟨_, rfl⟩
    · exact ⟨_, rfl⟩

/-- A disposal leaves an image to which the record does not belong, or from which it takes no page. -/
theorem Store.dispose_image_ne (st : Store) (r : RecNo) (j : ImageNo)
    (h : (st.record r).image ≠ j ∨ (st.record r).track.pages = []) : (st.dispose r).image j = st.image j := by
  unfold Store.dispose
  rcases h with h | h
  · split
    · rw [Store.unlink_image, if_neg h]
    · rw [Store.release_image, if_neg fun e => h e.1.symm]
  · split
    · rw [Store.unlink_image, h]; split <;> rfl
    · rw [Store.release_image, h]; split <;> rfl

theorem Store.dispose_freePages_pinned {st : Store} {r : RecNo} (h : (st.record r).readPin = true) :
    (st.dispose r).freePages = st.freePages := by
  rw [Store.dispose, if_pos h]; rfl

theorem Store.dispose_freePages_unpinned {st : Store} {r : RecNo} (h : (st.record r).readPin = false) :
    (st.dispose r).freePages = returnPages st.freePages (st.record r).track.pages := by
  rw [Store.dispose, if_neg (by simp [h]), Store.release_freePages]

theorem Store.mem_dispose_freePages (st : Store) (r : RecNo) (p : Nat) : p ∈ (st.dispose r).freePages ↔
    p ∈ st.freePages ∨ ((st.record r).readPin = false ∧ p ∈ (st.record r).track.pages) := by
  cases h : (st.record r).readPin with
  | true => simp [Store.dispose_freePages_pinned h]
  | false => simp [Store.dispose_freePages_unpinned h, Store.mem_returnPages]

/-- What a disposal does to the record and to the pool (R6). -/
theorem Store.dispose_outcome (st : Store) (r : RecNo) :
    ((st.record r).readPin = true →
      (st.dispose r).record r = { st.record r with link := .unlinked } ∧ (st.dispose r).freePages = st.freePages) ∧
    ((st.record r).readPin = false → (st.dispose r).record r = TrackRecord.free ∧
      ∀ p, p ∈ (st.dispose r).freePages ↔ p ∈ st.freePages ∨ p ∈ (st.record r).track.pages) := by
  refine ⟨fun h => ⟨?_, Store.dispose_freePages_pinned h⟩, fun h => ⟨?_, fun p => ?_⟩⟩
  · rw [Store.dispose_record, if_pos rfl, TrackRecord.disposed_pinned h]
  · rw [Store.dispose_record, if_pos rfl, TrackRecord.disposed_unpinned h]
  · rw [Store.dispose_freePages_unpinned h, Store.mem_returnPages]

/-! ## Installation and removal (R7, R8) -/

/-- An image with the entry of a key set, and its count of present tracks. -/
def Image.withEntry (im : Image) (key : Key) (o : Option RecNo) (present : Nat) : Image :=
  { im with directory := im.directory.set (im.entryAt key) o, presentTracks := present }

/-- The store with record `r` PRESENT and LINKED and named by its entry, before the record named there is disposed of (R7). -/
def Store.named (st : Store) (r : RecNo) : Store :=
  (st.setRecord r { st.record r with state := .present, link := .linked }).setImage (st.record r).image
    ((st.image (st.record r).image).withEntry (st.record r).key (some r)
      (match (st.image (st.record r).image).entry (st.record r).key with
        | none => (st.image (st.record r).image).presentTracks + 1
        | some _ => (st.image (st.record r).image).presentTracks))

theorem Store.install_absent {st : Store} {r : RecNo}
    (h : (st.image (st.record r).image).entry (st.record r).key = none) : st.install r = st.named r := by
  unfold Store.install Store.named
  dsimp only
  rw [h]
  rfl

theorem Store.install_replace {st : Store} {r o : RecNo}
    (h : (st.image (st.record r).image).entry (st.record r).key = some o) : st.install r = (st.named r).dispose o := by
  unfold Store.install Store.named
  dsimp only
  rw [h]
  rfl

theorem Store.named_record (st : Store) (r r' : RecNo) : (st.named r).record r' =
    if r = r' then { st.record r with state := .present, link := .linked } else st.record r' :=
  Store.setRecord_record st r r' _

theorem Store.named_image (st : Store) (r : RecNo) (j : ImageNo) : (st.named r).image j =
    if (st.record r).image = j then
      (st.image (st.record r).image).withEntry (st.record r).key (some r)
        (match (st.image (st.record r).image).entry (st.record r).key with
          | none => (st.image (st.record r).image).presentTracks + 1
          | some _ => (st.image (st.record r).image).presentTracks)
    else st.image j :=
  Store.setImage_image (st.setRecord r _) _ j _

theorem Store.remove_absent {st : Store} {i : ImageNo} {key : Key} (h : (st.image i).entry key = none) : st.remove i key = st := by
  unfold Store.remove
  dsimp only
  rw [h]

theorem Store.remove_present {st : Store} {i : ImageNo} {key : Key} {r : RecNo} (h : (st.image i).entry key = some r) :
    st.remove i key =
      (st.setImage i ((st.image i).withEntry key none ((st.image i).presentTracks - 1))).dispose r := by
  unfold Store.remove
  dsimp only
  rw [h]
  rfl

/-! ## Vacating (R15) -/

theorem Store.disposeAll_record (l : List (Option RecNo)) : ∀ (st : Store) (r : RecNo),
    (st.disposeAll l).record r = if some r ∈ l then (st.record r).disposed else st.record r := by
  induction l with
  | nil => intro st r; simp [Store.disposeAll]
  | cons o os ih =>
    intro st r
    cases o with
    | none => simp [Store.disposeAll, ih]
    | some o =>
      rw [Store.disposeAll, ih, Store.dispose_record]
      by_cases h : o = r
      · subst h; simp
      · simp [h, Ne.symm h]

@[simp] theorem Store.disposeAll_memory (l : List (Option RecNo)) : ∀ st : Store, (st.disposeAll l).memory = st.memory := by
  induction l with
  | nil => intro st; rfl
  | cons o os ih =>
    intro st
    cases o with
    | none => exact ih st
    | some o => exact (ih _).trans (st.dispose_memory o)

theorem Store.disposeAll_image_pages (l : List (Option RecNo)) (j : ImageNo) : ∀ st : Store,
    ∃ n, (st.disposeAll l).image j = { st.image j with pagesHeld := n } := by
  induction l with
  | nil => intro st; exact ⟨_, rfl⟩
  | cons o os ih =>
    intro st
    cases o with
    | none => exact ih st
    | some o =>
      obtain ⟨n, hn⟩ := ih (st.dispose o)
      obtain ⟨m, hm⟩ := st.dispose_image_pages o j
      exact ⟨n, by rw [Store.disposeAll, hn, hm]⟩

/-- Disposing of records none of which takes pages from image `j` leaves it as it was. -/
theorem Store.disposeAll_image_ne (j : ImageNo) (l : List (Option RecNo)) : ∀ st : Store,
    (∀ r, some r ∈ l → (st.record r).image ≠ j ∨ (st.record r).track.pages = []) →
      (st.disposeAll l).image j = st.image j := by
  induction l with
  | nil => intro st _; rfl
  | cons o os ih =>
    intro st h
    cases o with
    | none => exact ih st fun r hr => h r (List.mem_cons_of_mem _ hr)
    | some o =>
      rw [Store.disposeAll, ih, st.dispose_image_ne o j (h o List.mem_cons_self)]
      intro r hr
      rw [Store.dispose_record]
      split
      · rename_i e
        subst e
        unfold TrackRecord.disposed
        split
        · exact h o List.mem_cons_self
        · exact .inr rfl
      · exact h r (List.mem_cons_of_mem _ hr)

theorem Store.mem_disposeAll_freePages (p : Nat) (l : List (Option RecNo)) : ∀ st : Store,
    p ∈ (st.disposeAll l).freePages ↔
      p ∈ st.freePages ∨ ∃ r, some r ∈ l ∧ (st.record r).readPin = false ∧ p ∈ (st.record r).track.pages := by
  induction l with
  | nil => intro st; simp [Store.disposeAll]
  | cons o os ih =>
    intro st
    cases o with
    | none => simp [Store.disposeAll, ih]
    | some o =>
      rw [Store.disposeAll, ih, Store.mem_dispose_freePages, or_assoc]
      refine or_congr_right ⟨?_, ?_⟩
      · rintro (h | ⟨r, hr, hpin, hp⟩)
        · exact ⟨o, List.mem_cons_self, h⟩
        · rw [Store.dispose_record] at hpin hp
          split at hpin
          · rename_i e
            subst e
            rw [if_pos rfl] at hp
            unfold TrackRecord.disposed at hpin hp
            split at hp
            · rename_i h; rw [if_pos h] at hpin; exact absurd (h.symm.trans hpin) (by decide)
            · exact absurd hp (List.not_mem_nil)
          · rename_i e
            rw [if_neg e] at hp
            exact ⟨r, List.mem_cons_of_mem _ hr, hpin, hp⟩
      · rintro ⟨r, hr, hpin, hp⟩
        by_cases e : o = r
        · subst e; exact .inl ⟨hpin, hp⟩
        · refine .inr ⟨r, (List.mem_cons.1 hr).resolve_left (fun h => e (Option.some.inj h).symm), ?_⟩
          rw [Store.dispose_record, if_neg e]
          exact ⟨hpin, hp⟩

theorem Store.vacate_record (st : Store) (i : ImageNo) (r : RecNo) : (st.vacate i).record r =
    if some r ∈ (st.image i).directory then (st.record r).disposed else st.record r :=
  Store.disposeAll_record _ st r

theorem Store.vacate_image (st : Store) (i j : ImageNo) : (st.vacate i).image j =
    if i = j then Image.vacant else (st.disposeAll (st.image i).directory).image j := Store.setImage_image _ _ _ _

/-! ## Claims, grants, releases, installations and removals as the manual tells them -/

/-- Settles O15, from what each operation leaves in each slot. -/
theorem claimGrantRelease : Obligations.ClaimGrantRelease := by
  intro st
  refine ⟨st.claim_none, st.claim_iff, fun r s i key t p => ⟨rfl, rfl, fun r' => ?_, fun j => ?_⟩,
    fun r => ⟨fun p => ?_, st.release_memory r, fun r' => ?_, st.release_image r, fun h => h.release r⟩⟩
  · rw [Store.grant_record]; simp only [eq_comm]
  · rw [Store.grant_image]; simp only [eq_comm]
  · rw [Store.release_freePages, Store.mem_returnPages]
  · rw [Store.release_record]; simp only [eq_comm]

/-- Settles O16: with the entry absent the record is named and no more; otherwise the record named before is disposed of. -/
theorem installAndRemove : Obligations.InstallAndRemove := by
  intro st
  refine ⟨fun r => ?_, fun i key => ⟨Store.remove_absent, fun o ho himage hlink => ?_⟩⟩
  · intro x im g _ hold
    cases hentry : im.entry x.key with
    | none =>
      have hg : g = st.named r := Store.install_absent hentry
      have himg := st.named_image r
      rw [show (st.image (st.record r).image).entry (st.record r).key = none from hentry] at himg
      rw [hg]
      refine ⟨by rw [Store.named_record, if_pos rfl], rfl, fun j hj => by rw [himg, if_neg hj.symm],
        fun o ho _ => by rw [Store.named_record, if_neg ho.symm], fun _ => ⟨rfl, by rw [himg, if_pos rfl]; rfl⟩,
        fun o ho => nomatch ho⟩
    | some o =>
      have hg : g = (st.named r).dispose o := Store.install_replace hentry
      obtain ⟨hne, himage, hlink⟩ := hold o hentry
      have himg := st.named_image r
      rw [show (st.image (st.record r).image).entry (st.record r).key = some o from hentry] at himg
      have hrec : (st.named r).record o = st.record o := by rw [Store.named_record, if_neg hne.symm]
      have hdisposed := Store.dispose_image (st.named r) o (by rw [hrec]; exact hlink)
      rw [hrec, himage] at hdisposed
      obtain ⟨hpinned, hunpinned⟩ := (st.named r).dispose_outcome o
      rw [hrec] at hpinned hunpinned
      rw [hg]
      refine ⟨by rw [Store.dispose_record, if_neg hne, Store.named_record, if_pos rfl],
        Store.dispose_memory _ _, fun j hj => by rw [hdisposed, if_neg hj, himg, if_neg hj.symm],
        fun o' ho' hne' => by
          rw [Store.dispose_record, if_neg (fun e => hne' (congrArg some e)), Store.named_record, if_neg ho'.symm],
        fun h => (nomatch h), fun o' ho' => ?_⟩
      obtain rfl := Option.some.inj ho'
      exact ⟨by rw [hdisposed, if_pos rfl, himg, if_pos rfl]; rfl, hpinned, hunpinned⟩
  · rw [Store.remove_present ho]
    generalize hst : st.setImage i ((st.image i).withEntry key none ((st.image i).presentTracks - 1)) = st1
    have hrec : ∀ r, st1.record r = st.record r := fun r => by rw [← hst]; rfl
    have himg := st1.dispose_image o (by rw [hrec]; exact hlink)
    rw [hrec, himage] at himg
    obtain ⟨hpinned, hunpinned⟩ := st1.dispose_outcome o
    have hpool : st1.freePages = st.freePages := by rw [← hst]; rfl
    rw [hrec, hpool] at hpinned hunpinned
    refine ⟨by rw [st1.dispose_memory, ← hst]; rfl, fun j hj => ?_, fun o' ho' => ?_, ?_, hpinned, hunpinned⟩
    · rw [himg, if_neg hj, ← hst, Store.setImage_image_ne _ _ hj.symm]
    · rw [Store.dispose_record, if_neg ho'.symm, hrec]
    · rw [himg, if_pos rfl, ← hst, Store.setImage_image_self]; rfl

end Sys2Proof.Machine
end

section
/-! PROOFS. The directories of the image store (R4): the invariant without the capture, over what each image and each record tells the
others, and how the operations of the store keep it. -/

open Sys2Proof Sys2Proof.Machine

namespace Sys2Proof.Machine

/-! ## What images and records tell the directories -/

/-- An image record with the fields alone on which the directories depend. -/
def Image.shape (im : Image) : Image :=
  { Image.vacant with
    state := im.state, cylinders := im.cylinders, heads := im.heads, directory := im.directory,
    presentTracks := im.presentTracks }

/-- A track record without its track. -/
def TrackRecord.tie (x : TrackRecord) : TrackRecord := { x with track := Track.empty }

/-- A record that an entry may name: PRESENT and LINKED (R4). -/
def TrackRecord.Entered (x : TrackRecord) : Prop := x.state = .present ∧ x.link = .linked

/-- `DirectoriesOk` but for its last clause, over the image records, the track records and the stream. -/
structure DirsOk (image : ImageNo → Image) (record : RecNo → TrackRecord) (x : Stream) : Prop where
  size : ∀ i, (image i).directory.length = (image i).cylinders * (image i).heads
  named : ∀ i k r, (image i).directory[k]? = some (some r) →
    (record r).Entered ∧ (record r).image = i ∧ (image i).hasKey (record r).key = true ∧ (image i).entryAt (record r).key = k
  entered : ∀ r, (record r).Entered → (image (record r).image).entry (record r).key = some r
  loading : ∀ r, (record r).state = .loading ↔ ∃ k, x = .inbound r k
  loadingKey : ∀ r, (record r).state = .loading → (record r).link = .linked ∧ (record r).readPin = false ∧
    (image (record r).image).state = .building ∧ (image (record r).image).hasKey (record r).key = true
  reading : ∀ r, (record r).readPin = true ↔ ∃ k, x = .outbound r k
  readPresent : ∀ r, (record r).readPin = true → (record r).state = .present
  unlinked : ∀ r, (record r).link = .unlinked → (record r).readPin = true
  present : ∀ i, (image i).presentTracks = (image i).directory.countP Option.isSome
  vacant : ∀ i, (image i).state = .vacant → (image i).cylinders = 0

/-- The last clause of `DirectoriesOk`: a running capture stays within its image's geometry. -/
def CaptureInRange (d : Device) : Prop :=
  ∀ i, d.capture.state = .running → d.capture.image = some i →
    (d.image i).state = .building ∧ (d.image i).captureOwner.isSome = true ∧
      d.capture.lastCyl < (d.image i).cylinders ∧ d.capture.firstCyl ≤ d.capture.lastCyl ∧
      d.capture.headCount ≤ (d.image i).heads ∧ 0 < d.capture.headCount ∧
      ∀ k, d.capture.key = some k → k.cyl ≤ d.capture.lastCyl ∧ k.head < d.capture.headCount

theorem directoriesOk_iff (d : Device) :
    DirectoriesOk d ↔ DirsOk d.store.image d.store.record d.port.stream ∧ CaptureInRange d := by
  constructor
  · intro h
    refine ⟨⟨h.size, fun i k r hk => ?_, fun r hr => h.entered r hr.1 hr.2, h.loading, h.loadingKey, h.reading, h.readPresent,
      h.unlinked, h.present, h.vacant⟩, h.capture⟩
    obtain ⟨h1, h2, h3, h4, h5⟩ := h.named i k r hk
    exact ⟨⟨h1, h2⟩, h3, h4, h5⟩
  · rintro ⟨h, hc⟩
    refine ⟨h.size, fun i k r hk => ?_, fun r h1 h2 => h.entered r ⟨h1, h2⟩, h.loading, h.loadingKey, h.reading, h.readPresent,
      h.unlinked, h.present, h.vacant, hc⟩
    obtain ⟨⟨h1, h2⟩, h3, h4, h5⟩ := h.named i k r hk
    exact ⟨h1, h2, h3, h4, h5⟩

/-- The directories depend on the shapes of the images and the ties of the records alone. -/
theorem dirsOk_shape (image : ImageNo → Image) (record : RecNo → TrackRecord) (x : Stream) :
    DirsOk (fun i => (image i).shape) (fun r => (record r).tie) x ↔ DirsOk image record x :=
  ⟨fun h => ⟨h.size, h.named, h.entered, h.loading, h.loadingKey, h.reading, h.readPresent, h.unlinked, h.present, h.vacant⟩,
    fun h => ⟨h.size, h.named, h.entered, h.loading, h.loadingKey, h.reading, h.readPresent, h.unlinked, h.present, h.vacant⟩⟩

theorem DirsOk.congr {image image' : ImageNo → Image} {record record' : RecNo → TrackRecord} {x : Stream}
    (h : DirsOk image record x) (hi : ∀ i, (image' i).shape = (image i).shape) (hr : ∀ r, (record' r).tie = (record r).tie) :
    DirsOk image' record' x := by
  rw [← dirsOk_shape, funext hi, funext hr, dirsOk_shape]
  exact h

/-- Two streams with the same record at the same end agree for the directories. -/
theorem DirsOk.stream {image : ImageNo → Image} {record : RecNo → TrackRecord} {x y : Stream} (h : DirsOk image record x)
    (hin : ∀ r, (∃ k, y = .inbound r k) ↔ ∃ k, x = .inbound r k) (hout : ∀ r, (∃ k, y = .outbound r k) ↔ ∃ k, x = .outbound r k) :
    DirsOk image record y :=
  ⟨h.size, h.named, h.entered, fun r => (h.loading r).trans (hin r).symm, h.loadingKey,
    fun r => (h.reading r).trans (hout r).symm, h.readPresent, h.unlinked, h.present, h.vacant⟩

/-! ## Facts of directories in order -/

section
variable {image : ImageNo → Image} {record : RecNo → TrackRecord} {x : Stream}

theorem entry_some_iff {im : Image} {key : Key} {r : RecNo} :
    im.entry key = some r ↔ im.directory[im.entryAt key]? = some (some r) := by
  unfold Image.entry
  rw [List.getD_eq_getElem?_getD]
  cases im.directory[im.entryAt key]? with
  | none => simp
  | some o => simp

/-- The entry of a key of the geometry stands in the directory. -/
theorem DirsOk.entryAt_lt (h : DirsOk image record x) {i : ImageNo} {key : Key} (hk : (image i).hasKey key = true) :
    (image i).entryAt key < (image i).directory.length := by
  rw [Image.hasKey, Bool.and_eq_true, decide_eq_true_iff, decide_eq_true_iff] at hk
  rw [h.size i, Image.entryAt]
  calc key.cyl * (image i).heads + key.head
      < key.cyl * (image i).heads + (image i).heads := by omega
    _ = (key.cyl + 1) * (image i).heads := by ring
    _ ≤ (image i).cylinders * (image i).heads := Nat.mul_le_mul_right _ hk.1

/-- A record that is not PRESENT stands in no directory. -/
theorem DirsOk.not_named (h : DirsOk image record x) {r : RecNo} (hr : ¬ (record r).Entered) (i : ImageNo) (k : Nat) :
    (image i).directory[k]? ≠ some (some r) := fun hk => hr (h.named i k r hk).1

/-- A record stands in one entry of one directory at most. -/
theorem DirsOk.named_once (h : DirsOk image record x) {i j : ImageNo} {k n : Nat} {r : RecNo}
    (hi : (image i).directory[k]? = some (some r)) (hj : (image j).directory[n]? = some (some r)) : i = j ∧ k = n := by
  obtain ⟨_, hi1, _, hi2⟩ := h.named i k r hi
  obtain ⟨_, hj1, _, hj2⟩ := h.named j n r hj
  have hij : i = j := hi1.symm.trans hj1
  subst hij
  exact ⟨rfl, hi2.symm.trans hj2⟩

/-- A record that is not PRESENT is LINKED and not read. -/
theorem DirsOk.idle (h : DirsOk image record x) {r : RecNo} (hr : (record r).state ≠ .present) :
    (record r).link = .linked ∧ (record r).readPin = false := by
  have hpin : (record r).readPin = false := by
    cases hp : (record r).readPin with
    | false => rfl
    | true => exact absurd (h.readPresent r hp) hr
  refine ⟨?_, hpin⟩
  cases hl : (record r).link with
  | linked => rfl
  | unlinked => exact absurd (h.unlinked r hl) (by simp [hpin])

end

/-! ## One record changes, no directory does -/

/-- One record changes; it stands in its entry after the change exactly if it did before, under the same key. -/
theorem DirsOk.setOne {image : ImageNo → Image} {record record' : RecNo → TrackRecord} {x y : Stream} (h : DirsOk image record x)
    (r : RecNo) (hother : ∀ r', r' ≠ r → record' r' = record r')
    (hentered : (record' r).Entered ↔ (record r).Entered)
    (hkey : (record r).Entered → (record' r).image = (record r).image ∧ (record' r).key = (record r).key)
    (hload : (record' r).state = .loading → (record' r).link = .linked ∧ (record' r).readPin = false ∧
      (image (record' r).image).state = .building ∧ (image (record' r).image).hasKey (record' r).key = true)
    (hpin : (record' r).readPin = true → (record' r).state = .present)
    (hlink : (record' r).link = .unlinked → (record' r).readPin = true)
    (hin : ∀ r', (∃ k, y = .inbound r' k) ↔ (record' r').state = .loading)
    (hout : ∀ r', (∃ k, y = .outbound r' k) ↔ (record' r').readPin = true) : DirsOk image record' y where
  size := h.size
  named i k r' hk := by
    obtain ⟨h1, h2, h3, h4⟩ := h.named i k r' hk
    by_cases e : r' = r
    · subst e
      obtain ⟨hi, hk'⟩ := hkey h1
      rw [hi, hk']
      exact ⟨hentered.2 h1, h2, h3, h4⟩
    · rw [hother r' e]
      exact ⟨h1, h2, h3, h4⟩
  entered r' hr' := by
    by_cases e : r' = r
    · subst e
      obtain ⟨hi, hk'⟩ := hkey (hentered.1 hr')
      rw [hi, hk']
      exact h.entered r' (hentered.1 hr')
    · rw [hother r' e] at hr' ⊢
      exact h.entered r' hr'
  loading r' := (hin r').symm
  loadingKey r' hr' := by
    by_cases e : r' = r
    · subst e; exact hload hr'
    · rw [hother r' e] at hr' ⊢
      exact h.loadingKey r' hr'
  reading r' := (hout r').symm
  readPresent r' hr' := by
    by_cases e : r' = r
    · subst e; exact hpin hr'
    · rw [hother r' e] at hr' ⊢
      exact h.readPresent r' hr'
  unlinked r' hr' := by
    by_cases e : r' = r
    · subst e; exact hlink hr'
    · rw [hother r' e] at hr' ⊢
      exact h.unlinked r' hr'
  present := h.present
  vacant := h.vacant

section
variable {st : Store}

/-- A grant for a LOADING record, with the inbound stream opened on it (R49). -/
theorem DirsOk.grantLoading (h : DirsOk st.image st.record .closed) {r : RecNo} (hr : (st.record r).state = .free) (i : ImageNo)
    (key : Key) (t : Track) (p len : Nat) (hb : (st.image i).state = .building) (hk : (st.image i).hasKey key = true) :
    DirsOk (st.grant r .loading i key t p).image (st.grant r .loading i key t p).record (.inbound r len) := by
  have hself : (st.grant r .loading i key t p).record r = ⟨.loading, .linked, false, i, key, { t with pages := st.freePages.take p }⟩ := by
    rw [Store.grant_record, if_pos rfl]
  have hother : ∀ r', r' ≠ r → (st.grant r .loading i key t p).record r' = st.record r' := fun r' e => by
    rw [Store.grant_record, if_neg e.symm]
  have himage : ∀ j, ((st.grant r .loading i key t p).image j).shape = (st.image j).shape := fun j => by
    rw [Store.grant_image]; split
    · rename_i e; subst e; rfl
    · rfl
  have hnot : ¬ (st.record r).Entered := fun e => by rw [TrackRecord.Entered, hr] at e; exact nomatch e.1
  refine DirsOk.congr (image := st.image) (h.setOne r hother ?_ (fun e => absurd e hnot) (fun _ => ?_) ?_ ?_ (fun r' => ?_)
    (fun r' => ?_)) himage fun _ => rfl
  · exact ⟨fun e => (by rw [TrackRecord.Entered, hself] at e; exact nomatch e.1), fun e => absurd e hnot⟩
  · rw [hself]; exact ⟨rfl, rfl, hb, hk⟩
  · rw [hself]; exact fun e => nomatch e
  · rw [hself]; exact fun e => nomatch e
  · by_cases e : r' = r
    · subst e; rw [hself]; simp
    · rw [hother r' e, h.loading r']; simp [Ne.symm e]
  · by_cases e : r' = r
    · subst e; rw [hself]; simp
    · rw [hother r' e, h.reading r']; simp

/-- The read pin of a record that an entry names is set with the outbound stream opened on it (R61). -/
theorem DirsOk.pinRead (h : DirsOk st.image st.record .closed) {r : RecNo} (hr : (st.record r).Entered) (len : Nat) :
    DirsOk (st.pinRead r).image (st.pinRead r).record (.outbound r len) := by
  have hself : (st.pinRead r).record r = { st.record r with readPin := true } := Store.setRecord_record_self ..
  have hother : ∀ r', r' ≠ r → (st.pinRead r).record r' = st.record r' := fun r' e => Store.setRecord_record_ne _ _ e.symm
  refine h.setOne r hother ?_ (fun _ => ?_) (fun e => ?_) (fun _ => ?_) (fun _ => ?_) (fun r' => ?_) (fun r' => ?_)
  · rw [hself]; exact Iff.rfl
  · rw [hself]; exact ⟨rfl, rfl⟩
  · rw [hself] at e; exact nomatch hr.1.symm.trans e
  · rw [hself]; exact hr.1
  · rw [hself]
  · by_cases e : r' = r
    · subst e; rw [hself]; simp [hr.1]
    · rw [hother r' e, h.loading r']; simp
  · by_cases e : r' = r
    · subst e; rw [hself]; simp
    · rw [hother r' e, h.reading r']; simp [Ne.symm e]

/-- The record of the outbound stream when the stream has closed: FREE if it was UNLINKED, else without its read pin (R9, R62). -/
theorem Store.unpinRead_record (st : Store) (r r' : RecNo) : (st.unpinRead r).record r' =
    if r = r' then (match (st.record r).link with
      | .linked => { st.record r with readPin := false }
      | .unlinked => TrackRecord.free) else st.record r' := by
  unfold Store.unpinRead
  cases hl : (st.record r).link with
  | linked => exact Store.setRecord_record ..
  | unlinked =>
    refine (Store.release_record _ _ _).trans ?_
    split
    · rfl
    · rename_i e; exact Store.setRecord_record_ne _ _ e

theorem Store.unpinRead_image (st : Store) (r : RecNo) (j : ImageNo) : (st.unpinRead r).image j = st.image j := by
  unfold Store.unpinRead
  cases hl : (st.record r).link with
  | linked => rfl
  | unlinked =>
    refine (Store.release_image _ _ _).trans ?_
    rw [Store.setRecord_record_self, if_neg fun e => absurd (hl.symm.trans (show (st.record r).link = .linked from e.2)) (by decide)]
    rfl

theorem DirsOk.unpinRead {r : RecNo} {k : Nat} (h : DirsOk st.image st.record (.outbound r k)) :
    DirsOk (st.unpinRead r).image (st.unpinRead r).record .closed := by
  have hpres : (st.record r).state = .present := h.readPresent r ((h.reading r).2 ⟨k, rfl⟩)
  have hself := st.unpinRead_record r r
  rw [if_pos rfl] at hself
  have hother : ∀ r', r' ≠ r → (st.unpinRead r).record r' = st.record r' := fun r' e => by
    rw [Store.unpinRead_record, if_neg e.symm]
  refine DirsOk.congr (image := st.image) (h.setOne r hother ?_ (fun e => ?_) (fun e => ?_) (fun e => ?_) (fun e => ?_)
    (fun r' => ?_) (fun r' => ?_)) (fun j => by rw [Store.unpinRead_image]) fun _ => rfl
  · rw [hself]; cases hl : (st.record r).link <;> simp [TrackRecord.Entered, TrackRecord.free, hl]
  · rw [hself, e.2]; exact ⟨rfl, rfl⟩
  · rw [hself] at e; cases hl : (st.record r).link <;> simp [hl, TrackRecord.free, hpres] at e
  · rw [hself] at e; cases hl : (st.record r).link <;> simp [hl, TrackRecord.free] at e
  · rw [hself] at e; cases hl : (st.record r).link <;> simp [hl, TrackRecord.free] at e
  · by_cases e : r' = r
    · subst e; rw [hself]; cases hl : (st.record r').link <;> simp [TrackRecord.free, hpres]
    · rw [hother r' e, h.loading r']; simp
  · by_cases e : r' = r
    · subst e; rw [hself]; cases hl : (st.record r').link <;> simp [TrackRecord.free]
    · rw [hother r' e, h.reading r']; simp [Ne.symm e]

/-- The LOADING record is released when its stream is cut off (R54). -/
theorem DirsOk.releaseLoading {r : RecNo} {k : Nat} (h : DirsOk st.image st.record (.inbound r k)) :
    DirsOk (st.release r).image (st.release r).record .closed := by
  have hload : (st.record r).state = .loading := (h.loading r).2 ⟨k, rfl⟩
  have hself : (st.release r).record r = TrackRecord.free := by rw [Store.release_record, if_pos rfl]
  have hother : ∀ r', r' ≠ r → (st.release r).record r' = st.record r' := fun r' e => by
    rw [Store.release_record, if_neg e.symm]
  have hnot : ¬ (st.record r).Entered := fun e => nomatch hload.symm.trans e.1
  refine DirsOk.congr (image := st.image) (h.setOne r hother ?_ (fun e => absurd e hnot) (fun e => ?_) (fun e => ?_) (fun e => ?_)
    (fun r' => ?_) (fun r' => ?_)) (fun j => ?_) fun _ => rfl
  · rw [hself]; exact ⟨fun e => (nomatch e.1), fun e => absurd e hnot⟩
  · rw [hself] at e; exact nomatch e
  · rw [hself] at e; exact nomatch e
  · rw [hself] at e; exact nomatch e
  · by_cases e : r' = r
    · subst e; rw [hself]; simp [TrackRecord.free]
    · rw [hother r' e, h.loading r']; simp [Ne.symm e]
  · by_cases e : r' = r
    · subst e; rw [hself]; simp [TrackRecord.free]
    · rw [hother r' e, h.reading r']; simp
  · rw [Store.release_image]
    split <;> rfl

end

/-! ## Images change their state -/

/-- An image changes its state (R10 to R14), when no record is LOADING for it or it is BUILDING afterwards. -/
theorem DirsOk.setState {st : Store} {x : Stream} (h : DirsOk st.image st.record x) (i : ImageNo) {y : Image}
    (hshape : { y.shape with state := (st.image i).state } = (st.image i).shape) (hv : y.state ≠ .vacant)
    (hl : y.state = .building ∨ ∀ r, (st.record r).state = .loading → (st.record r).image ≠ i) :
    DirsOk (st.setImage i y).image (st.setImage i y).record x := by
  obtain ⟨hcyl, hheads, hdir, hpresent⟩ : y.cylinders = (st.image i).cylinders ∧ y.heads = (st.image i).heads ∧
      y.directory = (st.image i).directory ∧ y.presentTracks = (st.image i).presentTracks := by
    simpa [Image.shape] using hshape
  have hkey : ∀ key, y.hasKey key = (st.image i).hasKey key := fun key => by rw [Image.hasKey, Image.hasKey, hcyl, hheads]
  have hat : ∀ key, y.entryAt key = (st.image i).entryAt key := fun key => by rw [Image.entryAt, Image.entryAt, hheads]
  have himage : ∀ j, j ≠ i → (st.setImage i y).image j = st.image j := fun j e => Store.setImage_image_ne _ _ e.symm
  have hself : (st.setImage i y).image i = y := Store.setImage_image_self ..
  have hdirs : ∀ j, ((st.setImage i y).image j).directory = (st.image j).directory ∧
      (∀ key, ((st.setImage i y).image j).hasKey key = (st.image j).hasKey key) ∧
      (∀ key, ((st.setImage i y).image j).entryAt key = (st.image j).entryAt key) := by
    intro j
    by_cases e : j = i
    · subst e; rw [hself]; exact ⟨hdir, hkey, hat⟩
    · rw [himage j e]; exact ⟨rfl, fun _ => rfl, fun _ => rfl⟩
  refine ⟨fun j => ?_, fun j k r hk => ?_, fun r hr => ?_, h.loading, fun r hr => ?_, h.reading, h.readPresent, h.unlinked,
    fun j => ?_, fun j hj => ?_⟩
  · by_cases e : j = i
    · subst e; rw [hself, hdir, hcyl, hheads]; exact h.size j
    · rw [himage j e]; exact h.size j
  · obtain ⟨h1, h2, h3⟩ := hdirs j
    rw [h1] at hk
    rw [h2, h3]
    exact h.named j k r hk
  · obtain ⟨h1, _, h3⟩ := hdirs (st.record r).image
    have := h.entered r hr
    rw [Image.entry] at this
    rw [Store.setImage_record, Image.entry, h1, h3]
    exact this
  · obtain ⟨h1, h2, h3, h4⟩ := h.loadingKey r hr
    refine ⟨h1, h2, ?_, ?_⟩
    · by_cases e : (st.record r).image = i
      · rw [Store.setImage_record, e, hself]
        exact hl.resolve_right fun hn => hn r hr e
      · rw [Store.setImage_record, himage _ e]; exact h3
    · rw [Store.setImage_record, (hdirs _).2.1]; exact h4
  · by_cases e : j = i
    · subst e; rw [hself, hdir, hpresent]; exact h.present j
    · rw [himage j e]; exact h.present j
  · by_cases e : j = i
    · subst e; rw [hself] at hj; exact absurd hj hv
    · rw [himage j e] at hj ⊢; exact h.vacant j hj

/-- A VACANT image has no record: no entry names one and none is LOADING for it. -/
theorem DirsOk.vacant_unused {image : ImageNo → Image} {record : RecNo → TrackRecord} {x : Stream} (h : DirsOk image record x)
    {i : ImageNo} (hi : (image i).state = .vacant) (r : RecNo) :
    (record r).image ≠ i ∨ (¬ (record r).Entered ∧ (record r).state ≠ .loading) := by
  by_cases e : (record r).image = i
  · right
    constructor
    · intro hr
      have hentry := h.entered r hr
      rw [e, entry_some_iff] at hentry
      have hlen : (image i).directory = [] := List.length_eq_zero_iff.1 (by rw [h.size, h.vacant i hi, Nat.zero_mul])
      rw [hlen] at hentry
      cases hentry
    · intro hr
      obtain ⟨_, _, hb, _⟩ := h.loadingKey r hr
      rw [e, hi] at hb
      cases hb
  · exact .inl e

/-- IMAGE CREATE on a VACANT image (R10). -/
theorem DirsOk.create {st : Store} {x : Stream} (h : DirsOk st.image st.record x) {i : ImageNo}
    (hi : (st.image i).state = .vacant) (p : Profile) (cyls heads : Nat) (label : List Byte) :
    DirsOk (st.setImage i (Image.created p cyls heads label)).image (st.setImage i (Image.created p cyls heads label)).record x := by
  have hself : (st.setImage i (Image.created p cyls heads label)).image i = Image.created p cyls heads label :=
    Store.setImage_image_self ..
  have himage : ∀ j, j ≠ i → (st.setImage i (Image.created p cyls heads label)).image j = st.image j := fun j e =>
    Store.setImage_image_ne _ _ e.symm
  have hdir : (Image.created p cyls heads label).directory = List.replicate (cyls * heads) none := rfl
  refine ⟨fun j => ?_, fun j k r hk => ?_, fun r hr => ?_, h.loading, fun r hr => ?_, h.reading, h.readPresent, h.unlinked,
    fun j => ?_, fun j hj => ?_⟩
  · by_cases e : j = i
    · subst e; rw [hself, hdir, List.length_replicate]; rfl
    · rw [himage j e]; exact h.size j
  · by_cases e : j = i
    · subst e
      rw [hself, hdir] at hk
      have := List.eq_of_mem_replicate (List.mem_of_getElem? hk)
      cases this
    · rw [himage j e] at hk ⊢; exact h.named j k r hk
  · have hne := (h.vacant_unused hi r).resolve_right fun hn => hn.1 hr
    rw [Store.setImage_record, himage _ hne]
    exact h.entered r hr
  · have hne := (h.vacant_unused hi r).resolve_right fun hn => hn.2 hr
    rw [Store.setImage_record, himage _ hne]
    exact h.loadingKey r hr
  · by_cases e : j = i
    · subst e; rw [hself, hdir]; simp [Image.created, Image.vacant, List.countP_replicate]
    · rw [himage j e]; exact h.present j
  · by_cases e : j = i
    · subst e; rw [hself] at hj; exact nomatch hj
    · rw [himage j e] at hj ⊢; exact h.vacant j hj

end Sys2Proof.Machine
end

section
/-! PROOFS. Installing, removing and vacating keep the directories in order (R7, R8, R15). -/

open Sys2Proof Sys2Proof.Machine

namespace Sys2Proof.Machine

theorem TrackRecord.disposed_not_entered (x : TrackRecord) : ¬ x.disposed.Entered := by
  unfold TrackRecord.disposed TrackRecord.Entered
  split
  · exact fun h => (nomatch h.2)
  · exact fun h => (nomatch h.1)

theorem TrackRecord.disposed_not_loading {x : TrackRecord} (h : x.state ≠ .loading) : x.disposed.state ≠ .loading := by
  unfold TrackRecord.disposed
  split
  · exact h
  · exact fun h => (nomatch h)

theorem TrackRecord.disposed_readPin (x : TrackRecord) : x.disposed.readPin = x.readPin := by
  unfold TrackRecord.disposed
  split
  · rfl
  · rename_i h; exact ((Bool.not_eq_true _).mp h).symm

theorem TrackRecord.disposed_state {x : TrackRecord} (h : x.readPin = true) : x.disposed.state = x.state := by
  rw [TrackRecord.disposed_pinned h]

/-- A free or loading disposition: what is UNLINKED after a disposal is being read. -/
theorem TrackRecord.disposed_unlinked {x : TrackRecord} (h : x.disposed.link = .unlinked) : x.disposed.readPin = true := by
  unfold TrackRecord.disposed at h ⊢
  split
  · assumption
  · rename_i hp; rw [if_neg hp] at h; cases h

section
variable {image image' : ImageNo → Image} {record record' : RecNo → TrackRecord} {x y : Stream}

/-- One entry changes: the record it names afterwards was in no entry, the one it named before has been disposed of (R6 to R8). -/
theorem DirsOk.setEntry (h : DirsOk image record x) {i : ImageNo} {key : Key} (hk : (image i).hasKey key = true)
    (new : Option RecNo)
    (himage : ∀ j, (image' j).shape = if j = i then
      ((image i).withEntry key new (((image i).directory.set ((image i).entryAt key) new).countP Option.isSome)).shape
      else (image j).shape)
    (hnew : ∀ r, new = some r → ¬ (record r).Entered ∧ (record' r).Entered ∧ (record' r).image = i ∧ (record' r).key = key ∧
      (record' r).readPin = false)
    (hold : ∀ r, new ≠ some r → record' r = if (image i).entry key = some r then (record r).disposed else record r)
    (hin : ∀ r, (∃ k, y = .inbound r k) ↔ (record' r).state = .loading)
    (hout : ∀ r, (∃ k, y = .outbound r k) ↔ (record' r).readPin = true) : DirsOk image' record' y := by
  generalize hn : ((image i).directory.set ((image i).entryAt key) new).countP Option.isSome = n at himage
  -- the images with the entry set, up to their shapes
  let set (j : ImageNo) : Image := if j = i then (image i).withEntry key new n else image j
  have hset_i : set i = (image i).withEntry key new n := if_pos rfl
  have hset_j : ∀ j, j ≠ i → set j = image j := fun j e => if_neg e
  have hdir_i : (set i).directory = (image i).directory.set ((image i).entryAt key) new := by rw [hset_i]; rfl
  have hsame : ∀ j, (set j).cylinders = (image j).cylinders ∧ (set j).heads = (image j).heads ∧ (set j).state = (image j).state := by
    intro j
    by_cases e : j = i
    · subst e; rw [hset_i]; exact ⟨rfl, rfl, rfl⟩
    · rw [hset_j j e]; exact ⟨rfl, rfl, rfl⟩
  have hkeys : ∀ j key', (set j).hasKey key' = (image j).hasKey key' := fun j key' => by
    rw [Image.hasKey, Image.hasKey, (hsame j).1, (hsame j).2.1]
  have hats : ∀ j key', (set j).entryAt key' = (image j).entryAt key' := fun j key' => by
    rw [Image.entryAt, Image.entryAt, (hsame j).2.1]
  have hlt := h.entryAt_lt hk
  -- a record in another entry is as it was
  have hkept : ∀ j k r, (image j).directory[k]? = some (some r) → (j = i → k ≠ (image i).entryAt key) → record' r = record r := by
    intro j k r hr hjk
    have hne : new ≠ some r := fun e => (hnew r e).1 (h.named j k r hr).1
    rw [hold r hne, if_neg]
    intro hentry
    obtain ⟨h1, h2⟩ := h.named_once hr (entry_some_iff.1 hentry)
    exact hjk h1 h2
  refine DirsOk.congr (image := set) ⟨fun j => ?_, fun j k r hr => ?_, fun r hr => ?_, fun r => (hin r).symm, fun r hr => ?_,
    fun r => (hout r).symm, fun r hr => ?_, fun r hr => ?_, fun j => ?_, fun j hj => ?_⟩ (fun j => ?_) fun _ => rfl
  · rw [(hsame j).1, (hsame j).2.1, ← h.size j]
    by_cases e : j = i
    · subst e; rw [hdir_i, List.length_set]
    · rw [hset_j j e]
  · rw [hkeys, hats]
    by_cases e : j = i
    · subst e
      rw [hdir_i] at hr
      by_cases ek : k = (image j).entryAt key
      · rw [ek, List.getElem?_set_self hlt] at hr
        obtain ⟨_, h2, h3, h4, _⟩ := hnew r (Option.some.inj hr)
        rw [h4]
        exact ⟨h2, h3, hk, ek.symm⟩
      · rw [List.getElem?_set_ne (Ne.symm ek)] at hr
        rw [hkept j k r hr fun _ => ek]
        exact h.named j k r hr
    · rw [hset_j j e] at hr
      rw [hkept j k r hr fun e' => absurd e' e]
      exact h.named j k r hr
  · rw [entry_some_iff, hats]
    by_cases en : new = some r
    · obtain ⟨_, _, h3, h4, _⟩ := hnew r en
      rw [h3, h4, hdir_i, List.getElem?_set_self hlt, en]
    · rw [hold r en] at hr ⊢
      split at hr
      · exact absurd hr (TrackRecord.disposed_not_entered _)
      · rename_i hentry
        rw [if_neg hentry]
        have hr' := entry_some_iff.1 (h.entered r hr)
        by_cases e : (record r).image = i
        · rw [e] at hr' ⊢
          rw [hdir_i, List.getElem?_set_ne]
          · exact hr'
          · intro ek
            rw [← ek] at hr'
            exact hentry (entry_some_iff.2 hr')
        · rw [hset_j _ e]; exact hr'
  · have hrecord : record' r = record r := by
      have en : new ≠ some r := fun en => nomatch (hnew r en).2.1.1.symm.trans hr
      rw [hold r en] at hr ⊢
      split at hr
      · rename_i hentry
        have hpresent := (h.named _ _ _ (entry_some_iff.1 hentry)).1.1
        exact absurd hr (TrackRecord.disposed_not_loading (by rw [hpresent]; decide))
      · rename_i hentry; rw [if_neg hentry]
    rw [hrecord] at hr ⊢
    rw [(hsame _).2.2, hkeys]
    exact h.loadingKey r hr
  · have en : new ≠ some r := fun en => nomatch hr.symm.trans (hnew r en).2.2.2.2
    rw [hold r en] at hr ⊢
    split at hr
    · rename_i hentry
      rw [TrackRecord.disposed_readPin] at hr
      rw [if_pos hentry, TrackRecord.disposed_state hr]
      exact h.readPresent r hr
    · rename_i hentry
      rw [if_neg hentry]
      exact h.readPresent r hr
  · have en : new ≠ some r := fun en => nomatch hr.symm.trans (hnew r en).2.1.2
    rw [hold r en] at hr ⊢
    split at hr
    · rename_i hentry
      rw [if_pos hentry]
      exact TrackRecord.disposed_unlinked hr
    · rename_i hentry
      rw [if_neg hentry]
      exact h.unlinked r hr
  · by_cases e : j = i
    · subst e; rw [hdir_i, hn, hset_i]; rfl
    · rw [hset_j j e]; exact h.present j
  · rw [(hsame j).1]
    exact h.vacant j ((hsame j).2.2 ▸ hj)
  · rw [himage j]
    by_cases e : j = i
    · subst e; rw [if_pos rfl, hset_i]
    · rw [if_neg e, hset_j j e]

end

section
variable {st : Store} {x : Stream}

theorem countP_set_some {l : List (Option RecNo)} {k : Nat} {o : Option RecNo} (hk : l[k]? = some o) (r : RecNo) :
    (l.set k (some r)).countP Option.isSome = if o.isSome then l.countP Option.isSome else l.countP Option.isSome + 1 := by
  obtain ⟨hlt, hget⟩ := List.getElem?_eq_some_iff.1 hk
  have hpos : o.isSome = true → 0 < l.countP Option.isSome := fun ho =>
    List.countP_pos_iff.2 ⟨o, hget ▸ List.getElem_mem hlt, ho⟩
  rw [List.countP_set hlt, hget]
  cases o with
  | none => simp
  | some o =>
    have := hpos rfl
    simp
    omega

theorem countP_set_none {l : List (Option RecNo)} {k : Nat} {o : RecNo} (hk : l[k]? = some (some o)) :
    (l.set k none).countP Option.isSome = l.countP Option.isSome - 1 := by
  obtain ⟨hlt, hget⟩ := List.getElem?_eq_some_iff.1 hk
  rw [List.countP_set hlt, hget]
  simp

theorem Image.entry_of_shape {a b : Image} (h : a.shape = b.shape) (key : Key) : a.entry key = b.entry key := by
  change a.shape.entry key = b.shape.entry key
  rw [h]

theorem Image.presentTracks_of_shape {a b : Image} (h : a.shape = b.shape) : a.presentTracks = b.presentTracks := by
  change a.shape.presentTracks = b.shape.presentTracks
  rw [h]

theorem Image.withEntry_shape_of_shape {a b : Image} (h : a.shape = b.shape) (key : Key) (o : Option RecNo) (n : Nat) :
    (a.withEntry key o n).shape = (b.withEntry key o n).shape := by
  change (a.shape.withEntry key o n).shape = (b.shape.withEntry key o n).shape
  rw [h]

/-- The store after an installation, record by record: the record is PRESENT and LINKED, the one it replaces is disposed of (R7). -/
theorem Store.install_record (st : Store) (r r' : RecNo) (hself : (st.image (st.record r).image).entry (st.record r).key ≠ some r) :
    (st.install r).record r' =
      if r = r' then { st.record r with state := .present, link := .linked }
      else if (st.image (st.record r).image).entry (st.record r).key = some r' then (st.record r').disposed
      else st.record r' := by
  cases hentry : (st.image (st.record r).image).entry (st.record r).key with
  | none => rw [Store.install_absent hentry, Store.named_record]; simp
  | some o =>
    have hne : o ≠ r := fun e => hself (hentry.trans (congrArg some e))
    rw [Store.install_replace hentry, Store.dispose_record, Store.named_record, Store.named_record, if_neg hne.symm]
    by_cases e : o = r'
    · subst e; simp [hne.symm]
    · simp [e]

/-- The shapes of the images after an installation (R7). -/
theorem Store.install_shape (st : Store) (r : RecNo) (j : ImageNo) : ((st.install r).image j).shape =
    if (st.record r).image = j then
      ((st.image (st.record r).image).withEntry (st.record r).key (some r)
        (if ((st.image (st.record r).image).entry (st.record r).key).isSome then (st.image (st.record r).image).presentTracks
          else (st.image (st.record r).image).presentTracks + 1)).shape
    else (st.image j).shape := by
  have hnamed : ((st.named r).image j).shape = _ := congrArg Image.shape (st.named_image r j)
  rw [apply_ite Image.shape] at hnamed
  cases hentry : (st.image (st.record r).image).entry (st.record r).key with
  | none =>
    rw [hentry] at hnamed
    rw [Store.install_absent hentry, hnamed]
    rfl
  | some o =>
    obtain ⟨n, hn⟩ := Store.dispose_image_pages (st.named r) o j
    rw [hentry] at hnamed
    rw [Store.install_replace hentry, hn]
    exact hnamed

/-- A record that stood in no entry is installed under its key; the stream lets go of it, if it was LOADING (R7, R52). -/
theorem DirsOk.install (h : DirsOk st.image st.record x) {st1 : Store} {r : RecNo} {y : Stream}
    (hfresh : (st.record r).state ≠ .present) (hother : ∀ r', r' ≠ r → st1.record r' = st.record r')
    (hpin : (st1.record r).readPin = false) (himage : ∀ j, (st1.image j).shape = (st.image j).shape)
    (hkey : (st.image (st1.record r).image).hasKey (st1.record r).key = true)
    (hin : ∀ r', (∃ k, y = .inbound r' k) ↔ r' ≠ r ∧ ∃ k, x = .inbound r' k)
    (hout : ∀ r', (∃ k, y = .outbound r' k) ↔ ∃ k, x = .outbound r' k) :
    DirsOk (st1.install r).image (st1.install r).record y := by
  have hnot : ¬ (st.record r).Entered := fun e => hfresh e.1
  generalize hx : st1.record r = x1 at hpin hkey
  have hentry : ∀ key, (st1.image x1.image).entry key = (st.image x1.image).entry key := Image.entry_of_shape (himage x1.image)
  have hself : (st1.image (st1.record r).image).entry (st1.record r).key ≠ some r := by
    rw [hx, hentry]
    exact fun e => h.not_named hnot _ _ (entry_some_iff.1 e)
  have hrecord := fun r' => st1.install_record r r' hself
  have hr : (st1.install r).record r = { x1 with state := .present, link := .linked } := by rw [hrecord, if_pos rfl, hx]
  have hold : ∀ r', some r ≠ some r' → (st1.install r).record r' =
      if (st.image x1.image).entry x1.key = some r' then (st.record r').disposed else st.record r' := by
    intro r' e
    have e' : r ≠ r' := fun e' => e (congrArg some e')
    rw [hrecord, if_neg e', hx, hentry, hother r' e'.symm]
  refine h.setEntry hkey (some r) (fun j => ?_) (fun r' e => ?_) hold (fun r' => ?_) (fun r' => ?_)
  · rw [Store.install_shape, hx]
    by_cases e : x1.image = j
    · subst e
      have hat := List.getElem?_eq_getElem (h.entryAt_lt hkey)
      have hget : (st.image x1.image).directory[(st.image x1.image).entryAt x1.key]'(h.entryAt_lt hkey) =
          (st.image x1.image).entry x1.key := by
        rw [Image.entry, List.getD_eq_getElem?_getD, hat]; rfl
      rw [if_pos rfl, if_pos rfl, hentry, countP_set_some hat, hget, ← h.present x1.image,
        Image.presentTracks_of_shape (himage x1.image)]
      exact Image.withEntry_shape_of_shape (himage x1.image) ..
    · rw [if_neg e, if_neg (Ne.symm e), himage]
  · obtain rfl := Option.some.inj e
    rw [hr]
    exact ⟨hnot, ⟨rfl, rfl⟩, rfl, rfl, hpin⟩
  · rw [hin]
    by_cases e : r = r'
    · subst e; rw [hr]; simp
    · rw [hold r' fun e' => e (Option.some.inj e'), ← h.loading r']
      split
      · rename_i hn
        have hpresent := (h.named _ _ _ (entry_some_iff.1 hn)).1.1
        have hl : (st.record r').state ≠ .loading := by rw [hpresent]; decide
        simp [hl, TrackRecord.disposed_not_loading hl]
      · simp [Ne.symm e]
  · rw [hout]
    by_cases e : r = r'
    · subst e
      rw [hr, ← h.reading r, (h.idle hfresh).2, hpin]
    · rw [hold r' fun e' => e (Option.some.inj e'), ← h.reading r']
      split
      · rw [TrackRecord.disposed_readPin]
      · rfl

/-- Removing the record of a key of the geometry (R8). -/
theorem DirsOk.remove (h : DirsOk st.image st.record x) {i : ImageNo} {key : Key} (hk : (st.image i).hasKey key = true) :
    DirsOk (st.remove i key).image (st.remove i key).record x := by
  cases hentry : (st.image i).entry key with
  | none => rw [Store.remove_absent hentry]; exact h
  | some r =>
    have hat := entry_some_iff.1 hentry
    have hpresent := (h.named i _ r hat).1.1
    have hl : (st.record r).state ≠ .loading := by rw [hpresent]; decide
    rw [Store.remove_present hentry]
    have hrecord : ∀ r', ((st.setImage i ((st.image i).withEntry key none ((st.image i).presentTracks - 1))).dispose r).record r' =
        if (st.image i).entry key = some r' then (st.record r').disposed else st.record r' := by
      intro r'
      rw [Store.dispose_record, hentry]
      by_cases e : r = r'
      · subst e; simp
      · simp [e]
    refine h.setEntry hk none (fun j => ?_) (fun r' e => nomatch e) (fun r' _ => hrecord r') (fun r' => ?_) (fun r' => ?_)
    · obtain ⟨n, hn⟩ := Store.dispose_image_pages (st.setImage i ((st.image i).withEntry key none ((st.image i).presentTracks - 1))) r j
      rw [hn, countP_set_none hat, ← h.present i, Store.setImage_image]
      by_cases e : i = j
      · subst e; rw [if_pos rfl, if_pos rfl]; rfl
      · rw [if_neg e, if_neg (Ne.symm e)]; rfl
    · rw [← h.loading r', hrecord]
      split
      · rename_i e
        obtain rfl := Option.some.inj (hentry.symm.trans e)
        simp [hl, TrackRecord.disposed_not_loading hl]
      · rfl
    · rw [← h.reading r', hrecord]
      split
      · rw [TrackRecord.disposed_readPin]
      · rfl

/-- Vacating an image for which no record is LOADING (R15). -/
theorem DirsOk.vacate (h : DirsOk st.image st.record x) {i : ImageNo}
    (hl : ∀ r, (st.record r).state = .loading → (st.record r).image ≠ i) :
    DirsOk (st.vacate i).image (st.vacate i).record x := by
  have hrecord := st.vacate_record i
  have hnamed : ∀ r, some r ∈ (st.image i).directory → (st.record r).Entered ∧ (st.record r).image = i := by
    intro r hr
    obtain ⟨k, hk⟩ := List.mem_iff_getElem?.1 hr
    exact ⟨(h.named i k r hk).1, (h.named i k r hk).2.1⟩
  have himage : ∀ j, ((st.vacate i).image j).shape = if i = j then Image.vacant.shape else (st.image j).shape := by
    intro j
    obtain ⟨n, hn⟩ := Store.disposeAll_image_pages (st.image i).directory j st
    rw [Store.vacate_image, hn]
    split <;> rfl
  let img (j : ImageNo) : Image := if i = j then Image.vacant else st.image j
  have himg_i : img i = Image.vacant := if_pos rfl
  have himg_j : ∀ j, i ≠ j → img j = st.image j := fun j e => if_neg e
  -- a record that no entry of the image names is as it was
  have hkept : ∀ r, some r ∉ (st.image i).directory → (st.vacate i).record r = st.record r := fun r hr => by
    rw [hrecord, if_neg hr]
  refine DirsOk.congr (image := img) ⟨fun j => ?_, fun j k r hr => ?_, fun r hr => ?_, fun r => ?_, fun r hr => ?_, fun r => ?_,
    fun r hr => ?_, fun r hr => ?_, fun j => ?_, fun j hj => ?_⟩ (fun j => by rw [himage, ← apply_ite Image.shape]) fun _ => rfl
  · by_cases e : i = j
    · subst e; rw [himg_i]; rfl
    · rw [himg_j j e]; exact h.size j
  · by_cases e : i = j
    · subst e; rw [himg_i] at hr; cases hr
    · rw [himg_j j e] at hr ⊢
      rw [hkept r fun hm => e ((hnamed r hm).2.symm.trans (h.named j k r hr).2.1)]
      exact h.named j k r hr
  · by_cases hm : some r ∈ (st.image i).directory
    · rw [hrecord, if_pos hm] at hr
      exact absurd hr (TrackRecord.disposed_not_entered _)
    · rw [hkept r hm] at hr ⊢
      have hentry := h.entered r hr
      have e : i ≠ (st.record r).image := fun e =>
        hm (List.mem_of_getElem? (e ▸ entry_some_iff.1 hentry))
      rw [himg_j _ e]
      exact hentry
  · rw [hrecord, ← h.loading r]
    split
    · rename_i hm
      have hn : (st.record r).state ≠ .loading := by rw [(hnamed r hm).1.1]; decide
      simp [hn, TrackRecord.disposed_not_loading hn]
    · rfl
  · have hm : some r ∉ (st.image i).directory := fun hm => by
      rw [hrecord, if_pos hm] at hr
      exact absurd hr (TrackRecord.disposed_not_loading (by rw [(hnamed r hm).1.1]; decide))
    rw [hkept r hm] at hr ⊢
    rw [himg_j _ (hl r hr).symm]
    exact h.loadingKey r hr
  · rw [hrecord, ← h.reading r]
    split
    · rw [TrackRecord.disposed_readPin]
    · rfl
  · rw [hrecord] at hr ⊢
    split at hr
    · rename_i hm
      rw [TrackRecord.disposed_readPin] at hr
      rw [if_pos hm, TrackRecord.disposed_state hr]
      exact h.readPresent r hr
    · rename_i hm
      rw [if_neg hm]
      exact h.readPresent r hr
  · rw [hrecord] at hr ⊢
    split at hr
    · rename_i hm
      rw [if_pos hm]
      exact TrackRecord.disposed_unlinked hr
    · rename_i hm
      rw [if_neg hm]
      exact h.unlinked r hr
  · by_cases e : i = j
    · subst e; rw [himg_i]; rfl
    · rw [himg_j j e]; exact h.present j
  · by_cases e : i = j
    · subst e; rw [himg_i]; rfl
    · rw [himg_j j e] at hj ⊢; exact h.vacant j hj

end

end Sys2Proof.Machine
end

section
/-! PROOFS. What a request does to the accounts of copies, to the directories and to the capture, with what its checks have found; said
once for the invariants. -/

open Sys2Proof Sys2Proof.Machine

namespace Sys2Proof.Machine

/-- `Opening d e`: a request, its checks passed, takes the part from `d` to `e`; deeds may follow. -/
inductive Opening (d : Device) : Device → Prop
  | same : Opening d d
  | profile (p : ProfileNo) (x : Profile) : Opening d (d.setProfile p x)
  | cleared (m : BitVec 24) : Opening d (d.clearNotices m)
  | enabled (m : BitVec 24) (high : Bool) : Opening d (d.enableNotices m high)
  | created (i : ImageNo) (p : Profile) (cylinders heads : Nat) (label : List Byte) : (d.image i).state = .vacant →
      Opening d (d.setImage i (Image.created p cylinders heads label))
  | sealed (i : ImageNo) (sum : Nat) : (d.image i).state = .building → (d.image i).captureOwner = none → d.streamOn i = false →
      Opening d (d.setImage i { d.image i with state := .sealed, checksum := sum, checksumValid := true })
  | unsealed (i : ImageNo) : (d.image i).state = .sealed → (d.image i).bindings = 0 → (d.image i).pins = 0 →
      Opening d (d.setImage i { d.image i with state := .building, checksumValid := false })
  | retiring (i : ImageNo) : (d.image i).state = .sealed → (d.image i).bindings = 0 → (d.image i).pins ≠ 0 →
      Opening d (d.setImage i { d.image i with state := .retiring })
  | retired (i : ImageNo) : (d.image i).state = .sealed → (d.image i).bindings = 0 → (d.image i).pins = 0 →
      Opening d { d with store := d.store.vacate i }
  | discarded (i : ImageNo) : (d.image i).state = .building → (d.image i).captureOwner = none → d.streamOn i = false →
      Opening d { d with store := d.store.vacate i }
  | loading (r : RecNo) (i : ImageNo) (key : Key) (t : Track) (p len : Nat) : (d.image i).state = .building →
      (d.image i).hasKey key = true → d.store.claim p = some r → d.port.stream = .closed →
      Opening d (({ d with store := d.store.grant r .loading i key t p }).openStream (.inbound r len))
  | installed (r : RecNo) (i : ImageNo) (key : Key) (t : Track) : (d.image i).hasKey key = true → d.store.claim 0 = some r →
      Opening d { d with store := (d.store.grant r .present i key t 0).install r }
  | removed (i : ImageNo) (key : Key) : (d.image i).hasKey key = true → Opening d { d with store := d.store.remove i key }
  | amended (r : RecNo) (j o : Nat) (bytes : List Byte) : Opening d { d with store := d.store.amend r j o bytes }
  | reading (i : ImageNo) (key : Key) (r : RecNo) (len : Nat) : (d.image i).entry key = some r → d.port.stream = .closed →
      Opening d (({ d with store := d.store.pinRead r }).openStream (.outbound r len))
  | aborted : Opening d ({ d with store := d.store.afterAbort d.port.stream }).closeStream
  | lotCreated (l : LotNo) (i : ImageNo) (ps : LotParams) : (d.lot l).state = .vacant → (d.image i).state = .sealed →
      Opening d ((d.setLot l (createdLot ps i)).bind i)
  | lotStarted (l : LotNo) : (d.lot l).state = .ready → Opening d (d.setLot l { d.lot l with state := .running })
  | lotHeld (l : LotNo) : (d.lot l).state = .running ∨ (d.lot l).state = .exhausted →
      Opening d (d.setLot l { d.lot l with state := .held })
  | lotResumed (l : LotNo) : (d.lot l).state = .held → Opening d (d.setLot l { d.lot l with state := (d.lot l).resumed })
  | lotMarked (l : LotNo) (m : Nat) : Opening d (d.setLot l { d.lot l with mark := m })
  | lotClosed (l : LotNo) : (d.lot l).state.binds = true →
      Opening d ((d.unbind (d.lot l).image).setLot l
        { d.lot l with state := if (d.lot l).inFlight = 0 then .closed else .closing })
  | lotDeleted (l : LotNo) : (d.lot l).state = .closed → Opening d ((d.setLot l Lot.vacant).unassign l)
  | capture (c : Chan) (i : ImageNo) (firstCyl lastCyl heads : Nat) : d.capture.state ≠ .running →
      (d.image i).state = .building → firstCyl ≤ lastCyl → lastCyl < (d.image i).cylinders → 0 < heads →
      heads ≤ (d.image i).heads →
      Opening d ((d.setCapture (startedCapture c i firstCyl lastCyl heads)).setImage i
        { d.image i with captureOwner := some c })

/-- A request takes the part through an opening and the deeds that follow it. -/
def Requested (d e : Device) : Prop := ∃ f, Opening d f ∧ Deeds f e

theorem Requested.opened {d e : Device} (h : Opening d e) : Requested d e := ⟨e, h, .refl⟩

theorem Requested.deeds {d e : Device} (h : Deeds d e) : Requested d e := ⟨d, .same, h⟩

theorem Requested.refused (d : Device) (code : Completion) : Requested d (refuse d code).1 := .deeds .refl

theorem Requested.same (d : Device) (bs : List Byte) : Requested d (answerOk d bs).1 := .deeds .refl

theorem Requested.slot {n : Nat} {b : Byte} {d : Device} {k : Fin n → Device × Response} (h : ∀ i, Requested d (k i).1) :
    Requested d (withSlot n b d k).1 :=
  withSlot_elim (P := fun x => Requested d x.1) (Requested.refused d) fun i _ => h i

theorem Requested.checks {d : Device} {cs : List (Bool × Completion)} {k : Device × Response}
    (h : (∀ c ∈ cs, c.1 = true) → Requested d k.1) : Requested d (checked d cs k).1 :=
  checked_elim (P := fun x => Requested d x.1) (Requested.refused d) h

section
variable (d : Device)

/-! ## Images and tracks -/

theorem unheld_of_checks {d : Device} {i : ImageNo} (h : ∀ c ∈ unheldChecks d i, c.1 = true) :
    (d.image i).state = .building ∧ (d.image i).captureOwner = none ∧ d.streamOn i = false := by
  simpa [unheldChecks] using h

theorem building_of_checks {d : Device} {i : ImageNo} {key : Key} {cs : List (Bool × Completion)}
    (h : ∀ c ∈ changeChecks d i key ++ cs, c.1 = true) :
    (d.image i).state = .building ∧ (d.image i).captureOwner = none ∧ (d.image i).hasKey key = true := by
  have h' : ∀ c ∈ changeChecks d i key, c.1 = true := fun c hc => h c (List.mem_append_left _ hc)
  simpa [changeChecks] using h'

theorem workImageCreate_requested (i p c n : Byte) (l : List Byte) : Requested d (workImageCreate i p c n l d).1 :=
  .slot fun i => .slot fun _ => .checks fun h => .opened (.created i _ _ _ _ (by simpa using h _ (List.mem_cons_self ..)))

theorem workImageSeal_requested (i : Byte) : Requested d (workImageSeal i d).1 :=
  .slot fun i => .checks fun h => by
    obtain ⟨h1, h2, h3⟩ := unheld_of_checks h
    exact .opened (.sealed i _ h1 h2 h3)

theorem workImageUnseal_requested (i : Byte) : Requested d (workImageUnseal i d).1 :=
  .slot fun i => .checks fun h => by
    simp at h
    obtain ⟨h1, h2, h3⟩ := h
    exact .opened (.unsealed i h1 h2 h3)

theorem workImageRetire_requested (i : Byte) : Requested d (workImageRetire i d).1 :=
  .slot fun i => .checks fun h => by
    simp at h
    obtain ⟨h1, h2⟩ := h
    split
    · rename_i h3
      exact ⟨_, .retired i h1 h2 h3, .notify _ .refl⟩
    · rename_i h3
      exact .opened (.retiring i h1 h2 h3)

theorem workImageDiscard_requested (i : Byte) : Requested d (workImageDiscard i d).1 :=
  .slot fun i => .checks fun h => by
    obtain ⟨h1, h2, h3⟩ := unheld_of_checks h
    exact .opened (.discarded i h1 h2 h3)

theorem workTrackLoad_requested (ps : LoadParams) : Requested d (workTrackLoad ps d).1 :=
  .slot fun i => .checks fun h => by
    obtain ⟨h1, _, h3⟩ := building_of_checks h
    split
    · exact .refused d _
    · rename_i r hr
      split
      · rename_i h0
        rw [h0] at hr
        exact .opened (.installed r i _ _ h3 hr)
      · exact .checks fun hc =>
          .opened (.loading r i _ _ _ _ h1 h3 hr (Device.streamOpen_false (hc _ (List.mem_singleton.2 rfl))))

theorem workTrackFill_requested (ps : FillParams) : Requested d (workTrackFill ps d).1 :=
  .slot fun i => .checks fun h => by
    obtain ⟨_, _, h3⟩ := building_of_checks h
    split
    · exact .refused d _
    · rename_i r hr
      exact .opened (.installed r i _ _ h3 hr)

theorem workTrackRemove_requested (i c n : Byte) : Requested d (workTrackRemove i c n d).1 :=
  .slot fun i => .checks fun h => by
    obtain ⟨_, _, h3⟩ := building_of_checks (cs := []) (by simpa using h)
    split
    · exact .same d _
    · exact .opened (.removed i _ h3)

theorem workTrackRead_requested (i c n : Byte) : Requested d (workTrackRead i c n d).1 :=
  .slot fun i => .checks fun _ => by
    split
    · exact .same d _
    · rename_i r hr
      split
      · exact .same d _
      · exact .checks fun hc => .opened (.reading i _ r _ hr (Device.streamOpen_false (hc _ (List.mem_singleton.2 rfl))))

theorem workSectorAmend_requested (i c n j : Byte) (o : Half) (m : Byte) (bs : List Byte) :
    Requested d (workSectorAmend i c n j o m bs d).1 :=
  .slot fun _ => .checks fun _ => by
    split
    · exact .refused d _
    · exact .checks fun _ => .opened (.amended _ _ _ _)

theorem workProfileSet_requested (ps : ProfileParams) : Requested d (workProfileSet ps d).1 :=
  .slot fun _ => .checks fun _ => by
    split
    · exact .opened (.profile _ _)
    · exact .checks fun _ => .opened (.profile _ _)

/-! ## Lots -/

theorem workLotCreate_requested (ps : LotParams) : Requested d (workLotCreate ps d).1 :=
  .slot fun l => .checks fun h => .slot fun i => .checks fun h' => by
    simp at h h'
    exact .opened (.lotCreated l i ps h h'.2.1)

theorem workLotStart_requested (l : Byte) : Requested d (workLotStart l d).1 :=
  .slot fun l => .checks fun h =>
    ⟨_, .lotStarted l (by simpa using h), Device.signalOpen_deeds l .refl⟩

theorem workLotHold_requested (l : Byte) : Requested d (workLotHold l d).1 :=
  .slot fun l => .checks fun h => .opened (.lotHeld l (by simpa using h))

theorem workLotResume_requested (l : Byte) : Requested d (workLotResume l d).1 :=
  .slot fun l => .checks fun h => ⟨_, .lotResumed l (by simpa using h), Device.afterResume_deeds l .refl⟩

theorem workLotClose_requested (l : Byte) : Requested d (workLotClose l d).1 :=
  .slot fun l => .checks fun h => by
    have hc := Opening.lotClosed (d := d) l (by simpa using h)
    split
    · rename_i h0
      rw [if_pos h0] at hc
      exact ⟨_, hc, .notify _ .refl⟩
    · rename_i h0
      rw [if_neg h0] at hc
      exact .opened hc

theorem workLotDelete_requested (l : Byte) : Requested d (workLotDelete l d).1 :=
  .slot fun l => .checks fun h => .opened (.lotDeleted l (by simpa using h))

theorem workLotMark_requested (l : Byte) (m : Half) : Requested d (workLotMark l m d).1 :=
  .slot fun l => .checks fun _ => .opened (.lotMarked l _)

/-! ## Channels and captures -/

section
variable {d}

theorem Device.cleared_deeds {e : Device} {c : Chan} (hd : BaysOk d) (h : d.cleared c = some e) : Deeds d e := by
  unfold Device.cleared at h
  split at h <;> cases h
  · exact Device.enterIdle_deeds c .refl
  · exact Deeds.refl.beginEject c _
  · rename_i hs
    refine Device.enterService_deeds ?_ Deeds.refl.quiet
    simpa [Device.modChan] using (hd.channel c).rest (by rw [hs]; rfl)

theorem workChannelEnable_requested (hd : BaysOk d) (c : Byte) : Requested d (workChannelEnable c d).1 :=
  .slot fun c => .checks fun h => by
    have hs : (d.chan c).state = .offline := by simpa using h
    exact .deeds (Device.enterService_deeds ((hd.channel c).rest (by rw [hs]; rfl)) .refl)

theorem workChannelDisable_requested (c : Byte) : Requested d (workChannelDisable c d).1 :=
  .slot fun _ => .checks fun _ => .deeds Deeds.refl.quiet

theorem workChannelAssign_requested (c l : Byte) : Requested d (workChannelAssign c l d).1 :=
  .slot fun c => by
    split
    · exact .refused d _
    · exact .checks fun _ => .deeds (Device.answerSignal_deeds c Deeds.refl.quiet)

theorem workChannelClear_requested (hd : BaysOk d) (c : Byte) : Requested d (workChannelClear c d).1 :=
  .slot fun c => by
    split
    · exact .refused d _
    · rename_i e he
      exact .deeds (Device.cleared_deeds hd he)

theorem workChannelTiming_requested (c s e : Byte) : Requested d (workChannelTiming c s e d).1 :=
  .slot fun c => .checks fun _ =>
    .deeds (Deeds.refl.quiet (c := c) (f := fun ch => { ch with stepInterval := s.toNat, settle := e.toNat }))

theorem workCaptureStart_requested (c i f l k : Byte) : Requested d (workCaptureStart c i f l k d).1 :=
  .slot fun c => .slot fun i => .checks fun h => by
    simp [within] at h
    obtain ⟨h1, h2, _, _, _, ⟨⟨h6, h7⟩, h8, _⟩, h9⟩ := h
    exact ⟨_, .capture c i _ _ _ h1 h2 h6 h7 h8 h9,
      Deeds.refl.quiet (c := c) (f := fun ch => ch.enterSpinup .capture)⟩

theorem workCaptureAbort_requested (hd : BaysOk d) : Requested d (workCaptureAbort d).1 :=
  .checks fun h => by
    have hs : d.capture.state = .running := by simpa using h
    refine .deeds (Device.abortCapture_deeds (fun c hc => ?_) .refl)
    exact (hd.onCapture ((hd.capture c).2 ⟨hs, hc⟩)).2

end

end

/-- What every request but PART RESET does to a part whose channels are in order. -/
theorem work_requested {d : Device} (hd : BaysOk d) {r : Request} (hr : r ≠ .partReset) : Requested d (work r d).1 := by
  cases r with
  | imageCreate => exact workImageCreate_requested d ..
  | imageSeal => exact workImageSeal_requested d ..
  | imageUnseal => exact workImageUnseal_requested d ..
  | imageRetire => exact workImageRetire_requested d ..
  | imageDiscard => exact workImageDiscard_requested d ..
  | imageQuery => exact .slot fun _ => .same d _
  | trackLoad => exact workTrackLoad_requested d ..
  | trackFill => exact workTrackFill_requested d ..
  | trackRemove => exact workTrackRemove_requested d ..
  | trackRead => exact workTrackRead_requested d ..
  | trackQuery => exact .slot fun _ => .checks fun _ => .same d _
  | sectorPeek => exact .slot fun _ => .checks fun _ => .same d _
  | sectorAmend => exact workSectorAmend_requested d ..
  | streamAbort => exact .opened .aborted
  | profileSet => exact workProfileSet_requested d ..
  | profileQuery => exact .slot fun _ => .same d _
  | lotCreate => exact workLotCreate_requested d ..
  | lotStart => exact workLotStart_requested d ..
  | lotHold => exact workLotHold_requested d ..
  | lotResume => exact workLotResume_requested d ..
  | lotClose => exact workLotClose_requested d ..
  | lotDelete => exact workLotDelete_requested d ..
  | lotMark => exact workLotMark_requested d ..
  | lotQuery => exact .slot fun _ => .same d _
  | channelEnable => exact workChannelEnable_requested hd ..
  | channelDisable => exact workChannelDisable_requested ..
  | channelAssign => exact workChannelAssign_requested ..
  | channelHold => exact .slot fun c => .deeds (Deeds.refl.quiet (c := c) (f := fun ch => { ch with hold := true }))
  | channelRelease => exact .slot fun c => .deeds (Device.released_deeds c .refl)
  | channelAbort => exact .slot fun c => .checks fun _ => .deeds (Device.copyCut_deeds c _ .refl)
  | channelEject => exact .slot fun c => .checks fun _ => .deeds (Deeds.refl.beginEject c _)
  | channelClear => exact workChannelClear_requested hd ..
  | channelTiming => exact workChannelTiming_requested ..
  | channelQuery => exact .slot fun _ => .same d _
  | captureStart => exact workCaptureStart_requested ..
  | captureAbort => exact workCaptureAbort_requested hd
  | captureQuery => exact .deeds .refl
  | noticeRead => exact .deeds .refl
  | noticeClear => exact .opened (.cleared _)
  | noticeEnable => exact .checks fun _ => .opened (.enabled _ _)
  | storeStatus => exact .deeds .refl
  | partReset => exact absurd rfl hr

end Sys2Proof.Machine
end

section
/-! PROOFS. Every step keeps the directories in agreement with the records, the stream and the running capture (O60). -/

open Sys2Proof Sys2Proof.Machine

namespace Sys2Proof.Machine

/-! ## The capture's range -/

/-- The fields of an image record that a running capture relies on. -/
def Image.scope (im : Image) : ImageState × Option Chan × Nat × Nat := (im.state, im.captureOwner, im.cylinders, im.heads)

theorem CaptureContext.nextKey_within {x : CaptureContext} {k n : Key} (h : x.nextKey k = some n)
    (hk : k.cyl ≤ x.lastCyl ∧ k.head < x.headCount) : n.cyl ≤ x.lastCyl ∧ n.head < x.headCount := by
  unfold CaptureContext.nextKey at h
  split at h
  · rename_i hn
    cases h
    exact ⟨hk.1, hn⟩
  · split at h
    · rename_i hn
      cases h
      exact ⟨hn, Nat.zero_lt_of_lt hk.2⟩
    · cases h

/-- A capture that goes on stays in range when the image it fills keeps its geometry. -/
theorem CaptureInRange.keep {d e : Device} (h : CaptureInRange d) (hc : KeyMove d.capture e.capture)
    (hi : ∀ i, (d.image i).state = .building → (d.image i).captureOwner.isSome = true → (e.image i).scope = (d.image i).scope) :
    CaptureInRange e := by
  intro i hs him
  obtain ⟨c1, _, c3, c4, c5, c6, c7⟩ := hc
  rw [c1] at hs
  rw [c3] at him
  obtain ⟨h1, h2, h3, h4, h5, h6, h7⟩ := h i hs him
  have hscope := hi i h1 h2
  simp only [Image.scope, Prod.mk.injEq] at hscope
  obtain ⟨s1, s2, s3, s4⟩ := hscope
  rw [s1, s2, s3, s4, c4, c5, c6]
  refine ⟨h1, h2, h3, h4, h5, h6, fun k hk => ?_⟩
  rcases c7 with c7 | ⟨n, hn, c7⟩ | c7
  · exact h7 k (c7 ▸ hk)
  · exact CaptureContext.nextKey_within (c7 ▸ hk) (h7 n hn)
  · rw [c7] at hk
    cases hk
    exact ⟨h4, h6⟩

theorem KeyMove.refl (x : CaptureContext) : KeyMove x x := .sameKey rfl

theorem CaptureInRange.images {d e : Device} (h : CaptureInRange d) (hc : e.capture = d.capture)
    (hi : ∀ i, (d.image i).state = .building → (d.image i).captureOwner.isSome = true → (e.image i).scope = (d.image i).scope) :
    CaptureInRange e := h.keep (hc ▸ .refl _) hi

theorem CaptureInRange.idle {d : Device} (h : d.capture.state ≠ .running) : CaptureInRange d := fun _ hs => absurd hs h

/-- The key of a running capture lies in its image. -/
theorem CaptureInRange.hasKey {d : Device} (h : CaptureInRange d) {i : ImageNo} {key : Key} (hs : d.capture.state = .running)
    (hi : d.capture.image = some i) (hk : d.capture.key = some key) : (d.image i).hasKey key = true := by
  obtain ⟨_, _, h3, _, h5, _, h7⟩ := h i hs hi
  obtain ⟨k1, k2⟩ := h7 key hk
  rw [Image.hasKey, Bool.and_eq_true, decide_eq_true_iff, decide_eq_true_iff]
  omega

/-! ## What the operations of the store leave in an image record -/

/-- An image record without its directory, its present tracks and its pages held: what installing, removing and releasing leave. -/
def Image.bare (im : Image) : Image := { im with directory := [], presentTracks := 0, pagesHeld := 0 }

theorem Image.scope_of_bare {a b : Image} (h : a.bare = b.bare) : a.scope = b.scope := by
  change a.bare.scope = b.bare.scope
  rw [h]


section
variable (st : Store)

theorem Store.grant_bare (r : RecNo) (s : RecState) (i : ImageNo) (key : Key) (t : Track) (p : Nat) (j : ImageNo) :
    ((st.grant r s i key t p).image j).bare = (st.image j).bare := by
  rw [Store.grant_image]
  split
  · rename_i e; subst e; rfl
  · rfl

theorem Store.dispose_bare (r : RecNo) (j : ImageNo) : ((st.dispose r).image j).bare = (st.image j).bare := by
  obtain ⟨n, hn⟩ := Store.dispose_image_pages st r j
  rw [hn]
  rfl

theorem Store.named_bare (r : RecNo) (j : ImageNo) : ((st.named r).image j).bare = (st.image j).bare := by
  rw [Store.named_image]
  split
  · rename_i e; subst e; rfl
  · rfl

theorem Store.install_bare (r : RecNo) (j : ImageNo) : ((st.install r).image j).bare = (st.image j).bare := by
  cases hentry : (st.image (st.record r).image).entry (st.record r).key with
  | none => rw [Store.install_absent hentry, Store.named_bare]
  | some o => rw [Store.install_replace hentry, Store.dispose_bare, Store.named_bare]

theorem Store.remove_bare (i : ImageNo) (key : Key) (j : ImageNo) : ((st.remove i key).image j).bare = (st.image j).bare := by
  cases hentry : (st.image i).entry key with
  | none => rw [Store.remove_absent hentry]
  | some r =>
    rw [Store.remove_present hentry, Store.dispose_bare, Store.setImage_image]
    split
    · rename_i e; subst e; rfl
    · rfl

theorem Store.vacate_bare {i j : ImageNo} (hij : i ≠ j) : ((st.vacate i).image j).bare = (st.image j).bare := by
  obtain ⟨n, hn⟩ := Store.disposeAll_image_pages (st.image i).directory j st
  rw [Store.vacate_image, if_neg hij, hn]
  rfl

theorem Store.release_bare (r : RecNo) (j : ImageNo) : ((st.release r).image j).bare = (st.image j).bare := by
  rw [Store.release_image]
  split <;> rfl

end

/-! ## Operations of the store on directories in order -/

section
variable {st : Store} {x : Stream}

/-- A granted record that is PRESENT is installed at once (R49, R55, R152). -/
theorem DirsOk.grantInstall (h : DirsOk st.image st.record x) {r : RecNo} (hr : (st.record r).state = .free) (i : ImageNo) (key : Key)
    (t : Track) (p : Nat) (bytes : List Byte) (hk : (st.image i).hasKey key = true) :
    DirsOk (st.captured r i key t p bytes).image (st.captured r i key t p bytes).record x := by
  have hself : ((st.grant r .present i key t p).fillPages r bytes).record r =
      ⟨.present, .linked, false, i, key, { t with pages := st.freePages.take p }⟩ :=
    (Store.grant_record ..).trans (if_pos rfl)
  have hload : (st.record r).state ≠ .loading := by rw [hr]; decide
  have hread : (st.record r).readPin ≠ true := by
    rw [(h.idle (by rw [hr]; decide : (st.record r).state ≠ .present)).2]; decide
  refine h.install (st1 := (st.grant r .present i key t p).fillPages r bytes) (by rw [hr]; decide)
    (fun r' e => (Store.grant_record ..).trans (if_neg e.symm)) (by rw [hself]) (fun j => ?_) (by rw [hself]; exact hk)
    (fun r' => ?_) (fun r' => Iff.rfl)
  · refine (congrArg Image.shape (Store.grant_image ..)).trans ?_
    split
    · rename_i e; subst e; rfl
    · rfl
  · refine ⟨fun e => ⟨fun e' => hload ((h.loading r).2 (e' ▸ e)), e⟩, fun e => e.2⟩

/-- One more byte of a LOADING record: only its track sum changes (R51). -/
theorem Store.takeByte_tie (st : Store) (r : RecNo) (b : Nat) (v : Byte) (r' : RecNo) :
    ((st.takeByte r b v).record r').tie = (st.record r').tie := by
  refine (congrArg TrackRecord.tie (Store.setRecord_record ..)).trans ?_
  split
  · rename_i e; subst e; rfl
  · rfl

/-- Load completion (R52). -/
theorem DirsOk.completeLoad {r : RecNo} {k : Nat} (h : DirsOk st.image st.record (.inbound r k)) (b : Nat) (v : Byte) :
    DirsOk ((st.takeByte r b v).completeLoad r).image ((st.takeByte r b v).completeLoad r).record .closed := by
  have hload : (st.record r).state = .loading := (h.loading r).2 ⟨k, rfl⟩
  obtain ⟨_, hpin, _, hkey⟩ := h.loadingKey r hload
  have htie : ∀ r', ((st.takeByte r b v).record r').tie = (st.record r').tie := st.takeByte_tie r b v
  have hr := htie r
  simp only [TrackRecord.tie, TrackRecord.mk.injEq] at hr
  obtain ⟨_, _, hr3, hr4, hr5, _⟩ := hr
  have hself : ((st.takeByte r b v).setRecord r { (st.takeByte r b v).record r with
      track := { ((st.takeByte r b v).record r).track with
        sum := (((st.takeByte r b v).record r).track.sum + fillSum ((st.takeByte r b v).record r).track.sectors) % 65536 } }).record r = _ :=
    Store.setRecord_record_self ..
  refine h.install (by rw [hload]; decide) (fun r' e => ?_) ?_ (fun j => rfl) ?_ (fun r' => ?_) (fun r' => ?_)
  · exact (Store.setRecord_record_ne _ _ e.symm).trans (Store.setRecord_record_ne _ _ e.symm)
  · rw [hself]; exact hr3.trans hpin
  · rw [hself]
    change (st.image ((st.takeByte r b v).record r).image).hasKey ((st.takeByte r b v).record r).key = true
    rw [hr4, hr5]
    exact hkey
  · simp only [reduceCtorEq, exists_false, Stream.inbound.injEq, false_iff, not_and, not_exists]
    exact fun e _ e' _ => e e'.symm
  · simp

/-- STREAM ABORT (R54). -/
theorem DirsOk.afterAbort (h : DirsOk st.image st.record x) :
    DirsOk (st.afterAbort x).image (st.afterAbort x).record .closed := by
  cases x with
  | closed => exact h
  | inbound r k => exact h.releaseLoading
  | outbound r k => exact h.unpinRead

end

/-- No record is LOADING for an image that no stream is open on (R11). -/
theorem DirsOk.not_loading {d : Device} (h : DirsOk d.store.image d.store.record d.port.stream) {i : ImageNo}
    (hs : d.streamOn i = false) (r : RecNo) (hr : (d.store.record r).state = .loading) : (d.store.record r).image ≠ i := by
  obtain ⟨k, hk⟩ := (h.loading r).1 hr
  intro e
  rw [Device.streamOn, hk] at hs
  simp [e] at hs

/-- No record is LOADING for an image that is not BUILDING (R4). -/
theorem DirsOk.not_building {image : ImageNo → Image} {record : RecNo → TrackRecord} {x : Stream} (h : DirsOk image record x)
    {i : ImageNo} (hs : (image i).state ≠ .building) (r : RecNo) (hr : (record r).state = .loading) : (record r).image ≠ i :=
  fun e => hs (e ▸ (h.loadingKey r hr).2.2.1)

/-! ## The whole invariant, deed by deed -/

theorem DirectoriesOk.of {d : Device} (h : DirsOk d.store.image d.store.record d.port.stream) (hc : CaptureInRange d) :
    DirectoriesOk d := (directoriesOk_iff d).2 ⟨h, hc⟩

theorem DirectoriesOk.dirs {d : Device} (h : DirectoriesOk d) : DirsOk d.store.image d.store.record d.port.stream :=
  ((directoriesOk_iff d).1 h).1

theorem DirectoriesOk.range {d : Device} (h : DirectoriesOk d) : CaptureInRange d := ((directoriesOk_iff d).1 h).2

/-- A change that leaves the store, the capture and the stream. -/
theorem DirectoriesOk.aside {d e : Device} (h : DirectoriesOk d) (hs : e.store = d.store) (hc : e.capture = d.capture)
    (hp : e.port.stream = d.port.stream) : DirectoriesOk e :=
  .of (by rw [hs, hp]; exact h.dirs) (h.range.images hc fun i _ _ => by rw [Device.image, hs]; rfl)

/-- Counts, labels and checksums of images change alone. -/
theorem DirectoriesOk.setImage {d : Device} (h : DirectoriesOk d) (i : ImageNo) {y : Image} (hy : y.shape = (d.image i).shape)
    (ho : y.captureOwner = (d.image i).captureOwner) : DirectoriesOk (d.setImage i y) := by
  have himage : ∀ j, ((d.setImage i y).image j).shape = (d.image j).shape ∧
      ((d.setImage i y).image j).captureOwner = (d.image j).captureOwner := by
    intro j
    rw [Device.setImage_image]
    split
    · rename_i e; subst e; exact ⟨hy, ho⟩
    · exact ⟨rfl, rfl⟩
  refine .of (h.dirs.congr (fun j => (himage j).1) fun _ => rfl) (h.range.images rfl fun j _ _ => ?_)
  obtain ⟨h1, h2⟩ := himage j
  simp only [Image.shape, Image.mk.injEq] at h1
  obtain ⟨s1, _, s3, s4, _⟩ := h1
  rw [Image.scope, s1, s3, s4, h2]
  rfl

theorem DirectoriesOk.vacate {d : Device} (h : DirectoriesOk d) {i : ImageNo}
    (hl : ∀ r, (d.store.record r).state = .loading → (d.store.record r).image ≠ i)
    (hb : (d.image i).state = .building → (d.image i).captureOwner = none) :
    DirectoriesOk { d with store := d.store.vacate i } :=
  .of (h.dirs.vacate hl) (h.range.images rfl fun j hj ho => Image.scope_of_bare <| d.store.vacate_bare fun e => by
    subst e
    rw [hb hj] at ho
    cases ho)

theorem DirectoriesOk.unpin {d : Device} (h : DirectoriesOk d) (i : ImageNo) : DirectoriesOk (d.unpin i) := by
  have hpin : DirectoriesOk (d.setImage i { d.image i with pins := (d.image i).pins - 1 }) := h.setImage i rfl rfl
  unfold Device.unpin
  dsimp only
  split
  · rename_i hr
    have hs : ((d.setImage i { d.image i with pins := (d.image i).pins - 1 }).image i).state ≠ .building := by
      rw [Device.setImage_image, if_pos rfl]
      change (d.image i).state ≠ .building
      rw [hr.1]; decide
    exact (hpin.vacate (hpin.dirs.not_building hs) fun e => absurd e hs).aside rfl rfl rfl
  · exact hpin

theorem DirectoriesOk.requestAdmission {d : Device} (h : DirectoriesOk d) (c : Chan) (l : LotNo) :
    DirectoriesOk (d.requestAdmission c l) := by
  unfold Device.requestAdmission
  dsimp only
  split
  · exact ((h.setImage (d.lot l).image (y := { d.image (d.lot l).image with pins := (d.image (d.lot l).image).pins + 1 })
      rfl rfl).aside rfl rfl rfl)
  · split
    · exact h.aside rfl rfl rfl
    · exact h.aside rfl rfl rfl
  all_goals exact h.aside rfl rfl rfl

theorem DirectoriesOk.accountEnd {d : Device} (h : DirectoriesOk d) (l : LotNo) (o : CopyOutcome) (n : Option Nat) :
    DirectoriesOk (d.accountEnd l o n) := by
  unfold Device.accountEnd
  dsimp only
  split
  · exact h.aside rfl rfl rfl
  · exact h.aside rfl rfl rfl

theorem DirectoriesOk.captureOver {d : Device} (h : DirectoriesOk d) (reason : EndReason) : DirectoriesOk (d.captureOver reason) := by
  unfold Device.captureOver Device.clearOwner
  split
  · exact .of h.dirs (.idle nofun)
  · rename_i i _
    refine .of (h.dirs.congr (fun j => ?_) fun _ => rfl) (.idle nofun)
    refine (congrArg Image.shape (Device.setImage_image ..)).trans ?_
    split
    · rename_i e; subst e; rfl
    · rfl

theorem DirectoriesOk.captured {d : Device} (h : DirectoriesOk d) {r : RecNo} {i : ImageNo} {key : Key} (t : Track) {p : Nat}
    (bytes : List Byte) (hs : (d.store.record r).state = .free) (hk : (d.image i).hasKey key = true) :
    DirectoriesOk { d with store := d.store.captured r i key t p bytes } :=
  .of (h.dirs.grantInstall hs i key t p bytes hk) (h.range.images rfl fun _ _ _ =>
    Image.scope_of_bare ((Store.install_bare ..).trans (Store.grant_bare ..)))

theorem Store.claim_free {st : Store} {p : Nat} {r : RecNo} (h : st.claim p = some r) : (st.record r).state = .free :=
  ((Store.claim_iff st p r).1 h).2.1

theorem Deeds.directories {d e : Device} (h : Deeds d e) (hd : DirectoriesOk d) : DirectoriesOk e := by
  induction h with
  | refl => exact hd
  | tweak => rename_i ih; exact ih.aside rfl rfl rfl
  | notify => rename_i ih; exact ih.aside rfl rfl rfl
  | count => rename_i ih; exact ih.aside rfl rfl rfl
  | reject => rename_i ih; exact ih.aside rfl rfl rfl
  | granted c l _ _ ih => exact ih.requestAdmission c l
  | closed c x o key _ _ ih => exact ((ih.accountEnd x.lot o x.serial).unpin x.image).aside rfl rfl rfl
  | capture y hy _ ih => exact .of ih.dirs (ih.range.keep hy fun _ _ _ => rfl)
  | captured r i key t p bytes hs hi hk hr _ ih => exact ih.captured t bytes (Store.claim_free hr) (ih.range.hasKey hs hi hk)
  | ended reason _ ih => exact ih.captureOver reason

/-! ## The requests -/

theorem DirectoriesOk.changeState {d : Device} (h : DirectoriesOk d) (i : ImageNo) {y : Image}
    (hy : { y.shape with state := (d.image i).state } = (d.image i).shape) (hv : y.state ≠ .vacant)
    (hl : y.state = .building ∨ ∀ r, (d.store.record r).state = .loading → (d.store.record r).image ≠ i)
    (hb : (d.image i).state = .building → (d.image i).captureOwner = none) : DirectoriesOk (d.setImage i y) :=
  .of (h.dirs.setState i hy hv hl) (h.range.images rfl fun j hj ho => by
    have hij : i ≠ j := fun e => by subst e; rw [hb hj] at ho; cases ho
    rw [Device.setImage_image, if_neg hij])

theorem Opening.directories {d e : Device} (h : Opening d e) (hd : DirectoriesOk d) : DirectoriesOk e := by
  have hrec := hd.dirs
  cases h with
  | same => exact hd
  | profile => exact hd.aside rfl rfl rfl
  | cleared => exact hd.aside rfl rfl rfl
  | enabled => exact hd.aside rfl rfl rfl
  | created i p n k label hi =>
    refine .of (hrec.create hi p n k label) (hd.range.images rfl fun j hj _ => ?_)
    have hij : i ≠ j := fun e => by subst e; exact nomatch hi.symm.trans hj
    rw [Device.setImage_image, if_neg hij]
  | sealed i sum hb ho hs => exact hd.changeState i rfl nofun (.inr (hrec.not_loading hs)) fun _ => ho
  | unsealed i hs _ _ => exact hd.changeState i rfl nofun (.inl rfl) fun e => nomatch hs.symm.trans e
  | retiring i hs _ _ =>
    have hnb : (d.image i).state ≠ .building := by rw [hs]; decide
    exact hd.changeState i rfl nofun (.inr (hrec.not_building hnb)) fun e => absurd e hnb
  | retired i hs _ _ =>
    have hnb : (d.image i).state ≠ .building := by rw [hs]; decide
    exact hd.vacate (hrec.not_building hnb) fun e => absurd e hnb
  | discarded i _ ho hs => exact hd.vacate (hrec.not_loading hs) fun _ => ho
  | loading r i key t p len hb hk hr hx =>
    rw [hx] at hrec
    exact .of (hrec.grantLoading (Store.claim_free hr) i key t p len hb hk) (hd.range.images rfl fun _ _ _ => Image.scope_of_bare (Store.grant_bare ..))
  | installed r i key t hk hr => exact hd.captured t (p := 0) [] (Store.claim_free hr) hk
  | removed i key hk => exact .of (hrec.remove hk) (hd.range.images rfl fun _ _ _ => Image.scope_of_bare (Store.remove_bare ..))
  | amended r j o bytes =>
    refine .of (hrec.congr (fun _ => rfl) fun r' => ?_) (hd.range.images rfl fun j _ _ => rfl)
    refine (congrArg TrackRecord.tie (Store.setRecord_record ..)).trans ?_
    split
    · rename_i e; subst e; rfl
    · rfl
  | reading i key r len hr hx =>
    rw [hx] at hrec
    exact .of (hrec.pinRead (hrec.named i _ r (entry_some_iff.1 hr)).1 len) (hd.range.images rfl fun _ _ _ => rfl)
  | aborted =>
    refine .of hrec.afterAbort (hd.range.images rfl fun j _ _ => ?_)
    change ((d.store.afterAbort d.port.stream).image j).scope = _
    unfold Store.afterAbort
    split
    · rfl
    · exact Image.scope_of_bare (Store.release_bare ..)
    · rw [Store.unpinRead_image]; rfl
  | lotCreated l i ps _ _ =>
    exact (hd.aside (e := d.setLot l (createdLot ps i)) rfl rfl rfl).setImage i
      (y := { d.image i with bindings := (d.image i).bindings + 1 }) rfl rfl
  | lotStarted => exact hd.aside rfl rfl rfl
  | lotHeld => exact hd.aside rfl rfl rfl
  | lotResumed => exact hd.aside rfl rfl rfl
  | lotMarked => exact hd.aside rfl rfl rfl
  | lotClosed l _ =>
    exact (hd.setImage (d.lot l).image (y := { d.image (d.lot l).image with
      bindings := (d.image (d.lot l).image).bindings - 1 }) rfl rfl).aside rfl rfl rfl
  | lotDeleted => exact hd.aside rfl rfl rfl
  | capture c i f l n _ hb h1 h2 h3 h4 =>
    refine .of (hrec.congr (fun j => ?_) fun _ => rfl) fun j _ hj => ?_
    · refine (congrArg Image.shape (Device.setImage_image ..)).trans ?_
      split
      · rename_i e; subst e; rfl
      · rfl
    · cases hj
      rw [Device.setImage_image, if_pos rfl]
      exact ⟨hb, rfl, h2, h1, h4, h3, nofun⟩

theorem Requested.directories {d e : Device} (h : Requested d e) (hd : DirectoriesOk d) : DirectoriesOk e := by
  obtain ⟨f, hf, he⟩ := h
  exact he.directories (hf.directories hd)

/-! ## The stream and the reset -/

theorem DirectoriesOk.writeStreamByte {d : Device} (h : DirectoriesOk d) (v : Byte) : DirectoriesOk (d.writeStreamByte v) := by
  unfold Device.writeStreamByte
  split
  · rename_i r k hx
    have hrec := h.dirs
    rw [hx] at hrec
    dsimp only
    split
    · refine .of (hrec.completeLoad _ v) (h.range.images rfl fun _ _ _ => Image.scope_of_bare (Store.install_bare ..))
    · exact .of ((hrec.congr (fun _ => rfl) (d.store.takeByte_tie r _ v)).stream (fun r' => by simp) fun r' => by simp)
        (h.range.images rfl fun _ _ _ => rfl)
  · exact h.aside rfl rfl rfl
  · exact h.aside rfl rfl rfl

theorem DirectoriesOk.readStreamByte {d : Device} (h : DirectoriesOk d) : DirectoriesOk d.readStreamByte := by
  unfold Device.readStreamByte
  split
  · rename_i r k hx
    have hrec := h.dirs
    rw [hx] at hrec
    dsimp only
    split
    · refine .of hrec.unpinRead (h.range.images rfl fun j _ _ => congrArg Image.scope (Store.unpinRead_image ..))
    · exact .of (hrec.stream (fun r' => by simp) fun r' => by simp) (h.range.images rfl fun _ _ _ => rfl)
  · exact h.aside rfl rfl rfl
  · exact h.aside rfl rfl rfl

theorem DirsOk.reset : DirsOk Store.reset.image Store.reset.record .closed where
  size i := by rw [Store.image_reset]; rfl
  named i k r h := by rw [Store.image_reset] at h; exact nomatch h
  entered r h := by rw [Store.record_reset] at h; exact nomatch h.1
  loading r := by rw [Store.record_reset]; simp [TrackRecord.free]
  loadingKey r h := by rw [Store.record_reset] at h; exact nomatch h
  reading r := by rw [Store.record_reset]; simp [TrackRecord.free]
  readPresent r h := by rw [Store.record_reset] at h; exact nomatch h
  unlinked r h := by rw [Store.record_reset] at h; exact nomatch h
  present i := by rw [Store.image_reset]; rfl
  vacant i _ := by rw [Store.image_reset]; rfl

theorem DirectoriesOk.afterReset (d : Device) : DirectoriesOk d.afterReset := .of DirsOk.reset (.idle nofun)

theorem HostEffect.directories {d e : Device} (hb : BaysOk d) (h : HostEffect d e) (hd : DirectoriesOk d) : DirectoriesOk e := by
  cases h with
  | port p hp => exact hd.aside rfl rfl hp
  | request r hr => exact (work_requested hb hr).directories hd
  | reset b => exact (DirectoriesOk.afterReset d).aside rfl rfl rfl
  | release => exact hd.aside rfl rfl rfl
  | written v => exact hd.writeStreamByte v
  | read => exact hd.readStreamByte

/-- Settles O60. Every step has one effect; an effect is a request, an access of the stream, a reset, or a chain of deeds, and each of
these keeps the directories. -/
theorem directoriesStay : Obligations.DirectoriesStay := by
  intro s t h hs
  obtain ⟨p, q, f, hp, hf, hq, ht⟩ := step_one hs.host.1 h
  have hbays : BaysOk (s.dev.withPort p) := ⟨hs.bays.channel, hs.bays.capture⟩
  have hd : DirectoriesOk (s.dev.withPort p) := hs.directories.aside rfl rfl hp
  have hdf : DirectoriesOk f := by
    rcases hf.cases_deeds hbays with hf | hf
    · exact hf.directories hbays hd
    · exact hf.directories hd
  rw [ht]
  exact hdf.aside rfl rfl hq

end Sys2Proof.Machine
end

section
/-! PROOFS. The accounts of copies: what it means for one lot and for one image to balance, and how the lot's own operations keep the
balance. -/

open Sys2Proof Sys2Proof.Machine

namespace Sys2Proof.Machine

/-! ## Counting over slots -/

theorem countP_one_more {α : Type} {p q : α → Bool} {a : α} (hp : p a = false) (hq : q a = true) (h : ∀ b, b ≠ a → q b = p b) :
    ∀ {l : List α}, l.Nodup → a ∈ l → l.countP q = l.countP p + 1 := by
  intro l
  induction l with
  | nil => intro _ ha; cases ha
  | cons b l ih =>
    intro hn ha
    obtain ⟨hb, hl⟩ := List.nodup_cons.1 hn
    by_cases e : b = a
    · subst e
      have hsame : l.countP q = l.countP p :=
        List.countP_congr fun x hx => by rw [h x fun e => hb (e ▸ hx)]
      simp [hp, hq, hsame]
    · have hal : a ∈ l := (List.mem_cons.1 ha).resolve_left (Ne.symm e)
      rw [List.countP_cons, List.countP_cons, ih hl hal, h b e]
      omega

/-- One slot of `n` more than before has a property. -/
theorem countP_slots_one_more {n : Nat} {p q : Fin n → Bool} (a : Fin n) (hp : p a = false) (hq : q a = true)
    (h : ∀ b, b ≠ a → q b = p b) : (List.finRange n).countP q = (List.finRange n).countP p + 1 :=
  countP_one_more hp hq h (List.nodup_finRange n) (List.mem_finRange a)

/-! ## The balance of one lot -/

/-- A lot's counts in order, for a number of copies that name it. -/
structure Lot.Balanced (x : Lot) (copies : Nat) : Prop where
  inFlight : x.inFlight = copies
  state : InFlightOk x
  target : x.good + x.inFlight ≤ x.target
  filled : x.state = .filled → x.good = x.target
  serials : x.serialized = true → x.next = x.first + x.good + x.inFlight + x.reissue.length + x.void

theorem lotOk_iff (d : Device) (l : LotNo) : LotOk d l ↔ (d.lot l).Balanced (d.copiesOfLot l) :=
  ⟨fun h => ⟨h.inFlight, h.state, h.target, h.filled, h.serials⟩, fun h => ⟨h.inFlight, h.state, h.target, h.filled, h.serials⟩⟩

/-- What of a lot decides whether it binds an image, and which. -/
def Lot.binding (x : Lot) : Bool × ImageNo := (x.state.binds, x.image)

section
variable {x : Lot} {n : Nat}

theorem Lot.Balanced.vacant : Lot.vacant.Balanced 0 := ⟨rfl, rfl, Nat.le_refl _, nofun, nofun⟩

/-- A lot of whose copies none is left. -/
theorem Lot.Balanced.none_of_state (h : x.Balanced n) (hs : x.state = .vacant ∨ x.state = .ready ∨ x.state = .closed) : n = 0 := by
  have hstate := h.state
  rw [← h.inFlight]
  unfold InFlightOk at hstate
  rcases hs with hs | hs | hs <;> rw [hs] at hstate <;> exact hstate

/-- The state changes alone. -/
theorem Lot.Balanced.setState (h : x.Balanced n) (s : LotState) (hs : InFlightOk { x with state := s })
    (hf : s = .filled → x.good = x.target) : ({ x with state := s } : Lot).Balanced n :=
  ⟨h.inFlight, hs, h.target, hf, h.serials⟩

theorem Lot.Balanced.created (ps : LotParams) (i : ImageNo) : (createdLot ps i).Balanced 0 := by
  unfold createdLot
  dsimp only
  split
  · exact ⟨rfl, rfl, Nat.zero_le _, nofun, nofun⟩
  · exact ⟨rfl, rfl, Nat.zero_le _, nofun, fun _ => rfl⟩

theorem createdLot_binding (ps : LotParams) (i : ImageNo) : (createdLot ps i).binding = (true, i) := by
  unfold createdLot
  dsimp only
  split <;> rfl

theorem createdLot_ready (ps : LotParams) (i : ImageNo) : (createdLot ps i).state = .ready ∧ (createdLot ps i).image = i := by
  unfold createdLot
  dsimp only
  split <;> exact ⟨rfl, rfl⟩

/-- The state of R73's table fits the counts. -/
theorem Lot.Balanced.resumed (h : x.Balanced n) : ({ x with state := x.resumed } : Lot).Balanced n := by
  have htarget := h.target
  refine h.setState _ ?_ ?_ <;> unfold Lot.resumed
  · split
    · rename_i hg
      change x.inFlight = 0
      omega
    · split <;> trivial
  · split
    · rename_i hg
      exact fun _ => hg
    · split <;> exact nofun

theorem Lot.resumed_binds (x : Lot) : x.resumed.binds = true := by
  unfold Lot.resumed
  split
  · rfl
  · split <;> rfl

/-! ### Admission (R78 to R80) -/

/-- The lot as a granted request leaves it (R79, R80). -/
def Lot.granted (x : Lot) : Lot := { x.issue.1 with inFlight := x.inFlight + 1 }

/-- A lot grants a copy, enters EXHAUSTED, or refuses and is as it was (R78). -/
theorem Lot.admission_cases (x : Lot) :
    (x.admission = (x.granted, .granted x.issue.2) ∧ x.state = .running ∧ x.good + x.inFlight < x.target) ∨
      (x.admission = ({ x with state := .exhausted }, .exhausted) ∧ x.state = .running) ∨
      (x.admission.1 = x ∧ (∀ o, x.admission.2 ≠ .granted o) ∧ (x.admission.2 = .exhausted → x.state ≠ .running)) := by
  unfold Lot.admission
  split
  · rename_i hs
    refine .inr (.inr ⟨rfl, fun o => ?_, fun _ => hs⟩)
    cases x.state <;> exact nofun
  · rename_i hs
    have hs : x.state = .running := not_not.1 hs
    split
    · exact .inr (.inr ⟨rfl, nofun, nofun⟩)
    · rename_i ht
      split
      · exact .inr (.inl ⟨rfl, hs⟩)
      · exact .inl ⟨rfl, hs, not_not.1 ht⟩

theorem Lot.issue_serial (x : Lot) : x.issue.2.isSome = x.serialized := by
  unfold Lot.issue
  split
  · rename_i h
    split <;> exact h.symm
  · rename_i h
    exact (Bool.eq_false_iff.2 h).symm

theorem Lot.granted_keeps (x : Lot) : x.granted.binding = x.binding ∧ x.granted.serialized = x.serialized ∧
    x.granted.image = x.image := by
  unfold Lot.granted Lot.issue
  split
  · split <;> exact ⟨rfl, rfl, rfl⟩
  · exact ⟨rfl, rfl, rfl⟩

theorem Lot.Balanced.granted (h : x.Balanced n) (hs : x.state = .running) (ht : x.good + x.inFlight < x.target) :
    x.granted.Balanced (n + 1) := by
  have hflight := h.inFlight
  have hserials := h.serials
  have hrun : ∀ y : Lot, y.state = .running → InFlightOk y := fun y hy => by unfold InFlightOk; rw [hy]; trivial
  unfold Lot.granted Lot.issue
  split
  · rename_i hser
    split
    · rename_i a l hl
      refine ⟨congrArg (· + 1) hflight, hrun _ hs, ht, fun e => (nomatch hs.symm.trans e), fun _ => ?_⟩
      have := hserials hser
      rw [hl, List.length_cons] at this
      change x.next = x.first + x.good + (x.inFlight + 1) + l.length + x.void
      omega
    · rename_i hl
      refine ⟨congrArg (· + 1) hflight, hrun _ hs, ht, fun e => (nomatch hs.symm.trans e), fun _ => ?_⟩
      have := hserials hser
      rw [hl, List.length_nil] at this
      change x.next + 1 = x.first + x.good + (x.inFlight + 1) + x.reissue.length + x.void
      rw [hl, List.length_nil]
      omega
  · rename_i hser
    exact ⟨congrArg (· + 1) hflight, hrun _ hs, ht, fun e => (nomatch hs.symm.trans e), fun e => absurd e hser⟩

/-! ### The copy end (R84 to R86) -/

theorem Lot.giveBack_keeps (x : Lot) (o : Option Nat) : (x.giveBack o).binding = x.binding ∧
    (x.giveBack o).serialized = x.serialized ∧ (x.giveBack o).good = x.good ∧ (x.giveBack o).inFlight = x.inFlight ∧
      (x.giveBack o).target = x.target ∧ (x.giveBack o).next = x.next ∧ (x.giveBack o).first = x.first := by
  unfold Lot.giveBack
  split
  · exact ⟨rfl, rfl, rfl, rfl, rfl, rfl, rfl⟩
  · split <;> exact ⟨rfl, rfl, rfl, rfl, rfl, rfl, rfl⟩

/-- A returned serial enters the reissue list or is counted void. -/
theorem Lot.giveBack_total (x : Lot) (n : Nat) :
    (x.giveBack (some n)).reissue.length + (x.giveBack (some n)).void = x.reissue.length + x.void + 1 := by
  unfold Lot.giveBack
  dsimp only
  split
  · change (insertSerial n x.reissue).length + x.void = _
    rw [(insertSerial_perm n x.reissue).length_eq, List.length_cons]
    omega
  · change x.reissue.length + (x.void + 1) = _
    omega

/-- The counts at a copy end: in-flight falls, and good, or with a serial the returned ones, rise. -/
theorem Lot.countEnd_counts (x : Lot) (o : CopyOutcome) (serial : Option Nat) :
    (x.countEnd o serial).inFlight = x.inFlight - 1 ∧ (x.countEnd o serial).target = x.target ∧
      (x.countEnd o serial).first = x.first ∧ (x.countEnd o serial).next = x.next ∧
      (x.countEnd o serial).image = x.image ∧ (x.countEnd o serial).digits = x.digits ∧
      (x.countEnd o serial).good ≤ x.good + 1 ∧
      (serial.isSome = true → (x.countEnd o serial).good + (x.countEnd o serial).reissue.length + (x.countEnd o serial).void =
        x.good + x.reissue.length + x.void + 1) := by
  unfold Lot.countEnd
  cases o with
  | good => exact ⟨rfl, rfl, rfl, rfl, rfl, rfl, Nat.le_refl _, fun _ => by dsimp only; omega⟩
  | reject r =>
    dsimp only
    generalize hy : ({ x with inFlight := x.inFlight - 1, rejects := satSucc x.rejects, tally := x.tally.bump r } : Lot) = y
    have hx : y.reissue = x.reissue ∧ y.void = x.void ∧ y.good = x.good := by subst hy; exact ⟨rfl, rfl, rfl⟩
    obtain ⟨hreissue, hvoid, hgood⟩ := hx
    cases serial with
    | none => subst hy; exact ⟨rfl, rfl, rfl, rfl, rfl, rfl, Nat.le_succ _, nofun⟩
    | some n =>
      have hfields : (y.giveBack (some n)).image = y.image ∧ (y.giveBack (some n)).digits = y.digits := by
        unfold Lot.giveBack
        dsimp only
        split <;> exact ⟨rfl, rfl⟩
      obtain ⟨_, _, h3, h4, h5, h6, h7⟩ := y.giveBack_keeps (some n)
      have htotal := y.giveBack_total n
      rw [hreissue, hvoid] at htotal
      rw [h3, h4, h5, h6, h7, hfields.1, hfields.2, hgood]
      subst hy
      exact ⟨rfl, rfl, rfl, rfl, rfl, rfl, Nat.le_succ _, fun _ => by omega⟩

/-- A copy end keeps a lot that has copies binding its image, or not (R19, R85). -/
theorem Lot.stateAfterEnd_binds (x : Lot) (o : CopyOutcome) (serial : Option Nat) :
    (x.stateAfterEnd o serial).binds = x.state.binds := by
  unfold Lot.stateAfterEnd
  split
  all_goals rename_i hs
  · rw [hs]; split <;> rfl
  · rw [hs]; split <;> rfl
  · rw [hs]; split <;> rfl
  · rfl

theorem Lot.afterEnd_keeps (x : Lot) (o : CopyOutcome) (serial : Option Nat) :
    (x.afterEnd o serial).binding = x.binding ∧ (x.afterEnd o serial).serialized = x.serialized ∧
      (x.afterEnd o serial).image = x.image := by
  obtain ⟨_, _, _, _, h5, h6, _⟩ := x.countEnd_counts o serial
  refine ⟨Prod.ext (x.stateAfterEnd_binds o serial) h5, ?_, h5⟩
  change decide (0 < (x.countEnd o serial).digits) = decide (0 < x.digits)
  rw [h6]

theorem Lot.Balanced.afterEnd (h : x.Balanced (n + 1)) (o : CopyOutcome) {serial : Option Nat}
    (hs : serial.isSome = x.serialized) : (x.afterEnd o serial).Balanced n := by
  obtain ⟨c1, c2, c3, c4, _, c6, c7, c8⟩ := x.countEnd_counts o serial
  have hflight := h.inFlight
  have htarget := h.target
  have hstate := h.state
  unfold InFlightOk at hstate
  have hinFlight : (x.countEnd o serial).inFlight = n := by omega
  have hbelow : (x.countEnd o serial).good + n ≤ (x.countEnd o serial).target := by omega
  refine ⟨hinFlight, ?_, by change _ + (x.countEnd o serial).inFlight ≤ _; rw [hinFlight]; exact hbelow, ?_, fun hser => ?_⟩
  · -- the new state allows the new in-flight count
    change InFlightOk { x.countEnd o serial with state := x.stateAfterEnd o serial }
    cases hx : x.state with
    | vacant | ready | filled | closed => rw [hx] at hstate; dsimp only at hstate; omega
    | held => unfold Lot.stateAfterEnd; rw [hx]; trivial
    | running =>
      unfold Lot.stateAfterEnd
      rw [hx]
      dsimp only
      split
      · rename_i hfull
        change (x.countEnd o serial).inFlight = 0
        omega
      · trivial
    | exhausted => unfold Lot.stateAfterEnd; rw [hx]; dsimp only; split <;> trivial
    | closing =>
      unfold Lot.stateAfterEnd
      rw [hx]
      dsimp only
      split
      · rename_i h0; exact h0
      · rename_i h0; exact Nat.pos_of_ne_zero h0
  · -- FILLED is entered from RUNNING alone, at the target
    change x.stateAfterEnd o serial = .filled → (x.countEnd o serial).good = (x.countEnd o serial).target
    cases hx : x.state with
    | filled => rw [hx] at hstate; dsimp only at hstate; omega
    | vacant | ready | closed | held => unfold Lot.stateAfterEnd; rw [hx]; exact nofun
    | running =>
      unfold Lot.stateAfterEnd
      rw [hx, c2]
      dsimp only
      split
      · rename_i hfull; exact fun _ => hfull
      · exact nofun
    | exhausted | closing => unfold Lot.stateAfterEnd; rw [hx]; dsimp only; split <;> exact nofun
  · have hold : x.serialized = true := (x.afterEnd_keeps o serial).2.1 ▸ hser
    have hsum := h.serials hold
    have htotal := c8 (hs.trans hold)
    change (x.countEnd o serial).next = (x.countEnd o serial).first + (x.countEnd o serial).good +
      (x.countEnd o serial).inFlight + (x.countEnd o serial).reissue.length + (x.countEnd o serial).void
    rw [c3, c4, hinFlight]
    omega

end

/-! ## The balance of one image -/

/-- An image's pins and bindings in order, for a number of copies and of lots that name it, and the capture. -/
structure Image.Balanced (im : Image) (i : ImageNo) (copies lots : Nat) (y : CaptureContext) : Prop where
  pins : im.pins = copies
  bindings : im.bindings = lots
  pinned : 0 < im.pins → im.state = .sealed ∨ im.state = .retiring
  retiring : im.state = .retiring → 0 < im.pins
  bound : 0 < im.bindings → im.state = .sealed
  owner : ∀ c, im.captureOwner = some c ↔ y.state = .running ∧ y.channel = some c ∧ y.image = some i
  captured : im.captureOwner.isSome = true → im.state = .building

theorem imageOk_iff (d : Device) (i : ImageNo) :
    ImageOk d i ↔ (d.image i).Balanced i (d.copiesOfImage i) (d.lotsBinding i) d.capture :=
  ⟨fun h => ⟨h.pins, h.bindings, h.pinned, h.retiring, h.bound, h.owner, h.captured⟩,
    fun h => ⟨h.pins, h.bindings, h.pinned, h.retiring, h.bound, h.owner, h.captured⟩⟩

/-- What of an image record the accounts speak of. -/
def Image.account (im : Image) : ImageState × Nat × Nat × Option Chan := (im.state, im.pins, im.bindings, im.captureOwner)

theorem Image.Balanced.congr {im im' : Image} {i : ImageNo} {n m : Nat} {y : CaptureContext} (h : im.Balanced i n m y)
    (he : im'.account = im.account) : im'.Balanced i n m y := by
  simp only [Image.account, Prod.mk.injEq] at he
  obtain ⟨h1, h2, h3, h4⟩ := he
  exact ⟨h2 ▸ h.pins, h3 ▸ h.bindings, by rw [h1, h2]; exact h.pinned, by rw [h1, h2]; exact h.retiring,
    by rw [h1, h3]; exact h.bound, by rw [h4]; exact h.owner, by rw [h1, h4]; exact h.captured⟩

/-- The capture goes on, or never ran: state, channel and image are the same. -/
theorem Image.Balanced.capture {im : Image} {i : ImageNo} {n m : Nat} {y z : CaptureContext} (h : im.Balanced i n m y)
    (he : (z.state, z.channel, z.image) = (y.state, y.channel, y.image)) : im.Balanced i n m z := by
  simp only [Prod.mk.injEq] at he
  obtain ⟨h1, h2, h3⟩ := he
  exact ⟨h.pins, h.bindings, h.pinned, h.retiring, h.bound, by rw [h1, h2, h3]; exact h.owner, h.captured⟩

section
variable {im : Image} {i : ImageNo} {n m : Nat} {y : CaptureContext}

/-- An image that is not BUILDING has no capture owner. -/
theorem Image.Balanced.not_captured (h : im.Balanced i n m y) (hs : im.state ≠ .building) :
    im.captureOwner = none := by
  cases ho : im.captureOwner with
  | none => rfl
  | some c => exact absurd (h.captured (by rw [ho]; rfl)) hs

/-- No copy and no lot names an image that is neither SEALED nor RETIRING. -/
theorem Image.Balanced.unused (h : im.Balanced i n m y) (h1 : im.state ≠ .sealed) (h2 : im.state ≠ .retiring) : n = 0 ∧ m = 0 := by
  have hp := h.pins
  have hb := h.bindings
  constructor
  · by_contra hn
    exact (h.pinned (by omega)).elim h1 h2
  · by_contra hn
    exact h1 (h.bound (by omega))

/-- An image record without pins, bindings and owner, when no copy, lot and capture names it. -/
theorem Image.Balanced.fresh {z : Image} (h : im.Balanced i 0 0 y) (ho : im.captureOwner = none)
    (hz : (z.pins, z.bindings, z.captureOwner) = (0, 0, none)) (hs : z.state ≠ .retiring) : z.Balanced i 0 0 y := by
  simp only [Prod.mk.injEq] at hz
  obtain ⟨h1, h2, h3⟩ := hz
  have howner : ∀ c, z.captureOwner = some c ↔ y.state = .running ∧ y.channel = some c ∧ y.image = some i := fun c => by
    rw [h3, ← ho]; exact h.owner c
  exact ⟨h1, h2, fun e => by omega, fun e => absurd e hs, fun e => by omega, howner, fun e => by rw [h3] at e; cases e⟩

/-- The state changes alone, on an image that no capture fills. -/
theorem Image.Balanced.setState {z : Image} (h : im.Balanced i n m y) (ho : im.captureOwner = none)
    (hz : (z.pins, z.bindings, z.captureOwner) = (im.pins, im.bindings, im.captureOwner))
    (hp : 0 < im.pins → z.state = .sealed ∨ z.state = .retiring) (hr : z.state = .retiring → 0 < im.pins)
    (hb : 0 < im.bindings → z.state = .sealed) : z.Balanced i n m y := by
  simp only [Prod.mk.injEq] at hz
  obtain ⟨h1, h2, h3⟩ := hz
  refine ⟨h1.trans h.pins, h2.trans h.bindings, by rw [h1]; exact hp, by rw [h1]; exact hr, by rw [h2]; exact hb,
    by rw [h3]; exact h.owner, fun e => ?_⟩
  rw [h3, ho] at e
  cases e

end

end Sys2Proof.Machine
end

section
/-! PROOFS. Every step keeps the accounts of copies (O58). -/

open Sys2Proof Sys2Proof.Machine

namespace Sys2Proof.Machine

/-! ## The copies that name a lot or an image -/

/-- The same channels make the same copies. -/
def SameCopies (d e : Device) : Prop := ∀ c, (e.chan c).ctx.map CopyContext.ident = (d.chan c).ctx.map CopyContext.ident

/-- Channel `c`, which made no copy, makes the copy `x`; every other channel goes on with its own. -/
structure OneCopyMore (d e : Device) (c : Chan) (x : CopyContext) : Prop where
  before : (d.chan c).ctx = none
  after : (e.chan c).ctx = some x
  other : ∀ c', c' ≠ c → (e.chan c').ctx = (d.chan c').ctx

section
variable {d e : Device}

theorem SameCopies.refl (d : Device) : SameCopies d d := fun _ => rfl

/-- The copy of a channel, before, that goes on as the copy `x`. -/
theorem SameCopies.copy (h : SameCopies d e) {c : Chan} {x : CopyContext} (hx : (e.chan c).ctx = some x) :
    ∃ y, (d.chan c).ctx = some y ∧ y.ident = x.ident := by
  have hc := h c
  rw [hx] at hc
  cases hy : (d.chan c).ctx with
  | none => rw [hy] at hc; cases hc
  | some y => rw [hy] at hc; exact ⟨y, rfl, (Option.some.inj hc).symm⟩

theorem SameCopies.lots (h : SameCopies d e) (l : LotNo) : e.copiesOfLot l = d.copiesOfLot l := by
  have hlot : ∀ c, (e.chan c).ctx.map CopyContext.lot = (d.chan c).ctx.map CopyContext.lot := fun c => by
    have := congrArg (Option.map Prod.fst) (h c)
    simpa [Function.comp_def, CopyContext.ident] using this
  unfold Device.copiesOfLot
  simp only [hlot]

theorem SameCopies.images (h : SameCopies d e) (i : ImageNo) : e.copiesOfImage i = d.copiesOfImage i := by
  have himage : ∀ c, (e.chan c).ctx.map CopyContext.image = (d.chan c).ctx.map CopyContext.image := fun c => by
    have := congrArg (Option.map fun y : LotNo × ImageNo × Option Nat => y.2.1) (h c)
    simpa [Function.comp_def, CopyContext.ident] using this
  unfold Device.copiesOfImage
  simp only [himage]

theorem OneCopyMore.lots {c : Chan} {x : CopyContext} (h : OneCopyMore d e c x) (l : LotNo) :
    e.copiesOfLot l = d.copiesOfLot l + if x.lot = l then 1 else 0 := by
  unfold Device.copiesOfLot
  split
  · rename_i hl
    exact countP_slots_one_more c (by rw [h.before]; rfl) (by rw [h.after]; simp [hl]) fun b hb => by rw [h.other b hb]
  · rename_i hl
    rw [Nat.add_zero]
    refine List.countP_congr fun b _ => ?_
    by_cases hb : b = c
    · subst hb; rw [h.before, h.after]; simp [hl]
    · rw [h.other b hb]

theorem OneCopyMore.images {c : Chan} {x : CopyContext} (h : OneCopyMore d e c x) (i : ImageNo) :
    e.copiesOfImage i = d.copiesOfImage i + if x.image = i then 1 else 0 := by
  unfold Device.copiesOfImage
  split
  · rename_i hl
    exact countP_slots_one_more c (by rw [h.before]; rfl) (by rw [h.after]; simp [hl]) fun b hb => by rw [h.other b hb]
  · rename_i hl
    rw [Nat.add_zero]
    refine List.countP_congr fun b _ => ?_
    by_cases hb : b = c
    · subst hb; rw [h.before, h.after]; simp [hl]
    · rw [h.other b hb]

/-- A lot that a copy names has copies. -/
theorem Device.copiesOfLot_pos {c : Chan} {x : CopyContext} (hx : (d.chan c).ctx = some x) : d.copiesOfLot x.lot ≠ 0 := by
  refine Nat.ne_of_gt (List.countP_pos_iff.2 ⟨c, List.mem_finRange c, ?_⟩)
  rw [hx]
  simp

theorem lotsBinding_congr (h : ∀ l, (e.lot l).binding = (d.lot l).binding) (i : ImageNo) : e.lotsBinding i = d.lotsBinding i := by
  refine List.countP_congr fun l _ => ?_
  have hl := h l
  simp only [Lot.binding, Prod.mk.injEq] at hl
  rw [hl.1, hl.2]

/-- Lot `l` binds image `i`, which it did not before; every other lot binds as before. -/
theorem lotsBinding_one_more {l : LotNo} {i : ImageNo} (hd : (d.lot l).state.binds = false) (he : (e.lot l).binding = (true, i))
    (h : ∀ l', l' ≠ l → (e.lot l').binding = (d.lot l').binding) (j : ImageNo) :
    e.lotsBinding j = d.lotsBinding j + if i = j then 1 else 0 := by
  simp only [Lot.binding, Prod.mk.injEq] at he h
  unfold Device.lotsBinding
  split
  · rename_i hj
    exact countP_slots_one_more l (by rw [hd]; rfl) (by rw [he.1, he.2]; simp [hj]) fun b hb => by rw [(h b hb).1, (h b hb).2]
  · rename_i hj
    rw [Nat.add_zero]
    refine List.countP_congr fun b _ => ?_
    by_cases hb : b = l
    · subst hb; rw [hd, he.1, he.2]; simp [hj]
    · rw [(h b hb).1, (h b hb).2]

/-- A lot that binds its image is counted by it. -/
theorem Device.lotsBinding_pos {l : LotNo} (h : (d.lot l).state.binds = true) : 0 < d.lotsBinding (d.lot l).image :=
  List.countP_pos_iff.2 ⟨l, List.mem_finRange l, by rw [h]; simp⟩

end

/-! ## The accounts under a change of lots and images -/

section
variable {d e : Device}

theorem AccountsOk.balanced (h : AccountsOk d) (l : LotNo) : (d.lot l).Balanced (d.copiesOfLot l) := (lotOk_iff d l).1 (h.lot l)

theorem AccountsOk.imageBalanced (h : AccountsOk d) (i : ImageNo) :
    (d.image i).Balanced i (d.copiesOfImage i) (d.lotsBinding i) d.capture := (imageOk_iff d i).1 (h.image i)

/-- The copies are the same; the lots and the images balance, and a lot with copies keeps its image and its kind. -/
theorem AccountsOk.sameCopies (h : AccountsOk d) (hs : SameCopies d e) (hl : ∀ l, (e.lot l).Balanced (d.copiesOfLot l))
    (hkeep : ∀ l, d.copiesOfLot l ≠ 0 → (e.lot l).serialized = (d.lot l).serialized ∧ (e.lot l).image = (d.lot l).image)
    (hi : ∀ i, (e.image i).Balanced i (d.copiesOfImage i) (e.lotsBinding i) e.capture)
    (hc : e.capture.state = .running → e.capture.channel.isSome = true ∧ e.capture.image.isSome = true) : AccountsOk e where
  lot l := (lotOk_iff e l).2 (by rw [hs.lots]; exact hl l)
  image i := (imageOk_iff e i).2 (by rw [hs.images]; exact hi i)
  copy c x hx := by
    obtain ⟨y, hy, hident⟩ := hs.copy hx
    simp only [CopyContext.ident, Prod.mk.injEq] at hident
    obtain ⟨h1, h2, h3⟩ := hident
    have hcopy := h.copy c y hy
    have hkept := hkeep y.lot (Device.copiesOfLot_pos hy)
    rw [← h1, ← h2, ← h3, hkept.1, hkept.2]
    exact hcopy
  capture := hc

/-- Neither a copy nor a lot changes; image records change at most in what the accounts do not speak of. -/
theorem AccountsOk.aside (h : AccountsOk d) (hs : SameCopies d e) (hl : ∀ l, e.lot l = d.lot l)
    (hi : ∀ i, (e.image i).account = (d.image i).account)
    (hc : (e.capture.state, e.capture.channel, e.capture.image) = (d.capture.state, d.capture.channel, d.capture.image)) :
    AccountsOk e := by
  have hbind : ∀ i, e.lotsBinding i = d.lotsBinding i := lotsBinding_congr fun l => by rw [hl]
  refine h.sameCopies hs (fun l => by rw [hl]; exact h.balanced l) (fun l _ => by rw [hl]; exact ⟨rfl, rfl⟩)
    (fun i => by rw [hbind]; exact ((h.imageBalanced i).congr (hi i)).capture hc) ?_
  simp only [Prod.mk.injEq] at hc
  rw [hc.1, hc.2.1, hc.2.2]
  exact h.capture

/-- Nothing changes that the accounts speak of. -/
theorem AccountsOk.same (h : AccountsOk d) (hs : e.store = d.store) (hch : e.channels = d.channels) (hl : e.lots = d.lots)
    (hc : e.capture = d.capture) : AccountsOk e :=
  h.aside (fun c => by rw [Device.chan, hch]; rfl) (fun l => by rw [Device.lot, hl]; rfl)
    (fun i => by rw [Device.image, hs]; rfl) (by rw [hc])

/-- The image records change at most in what the accounts do not speak of. -/
theorem AccountsOk.store (h : AccountsOk d) {st : Store} (hi : ∀ i, (st.image i).account = (d.image i).account) :
    AccountsOk { d with store := st } :=
  h.aside (.refl d) (fun _ => rfl) hi rfl

/-- One lot changes and binds the image it did. -/
theorem AccountsOk.setLot (h : AccountsOk d) (l : LotNo) {x : Lot} (hx : (d.lot l).Balanced (d.copiesOfLot l) → x.Balanced (d.copiesOfLot l))
    (hb : x.binding = (d.lot l).binding) (hk : x.serialized = (d.lot l).serialized) : AccountsOk (d.setLot l x) := by
  have hbinding : ∀ l', ((d.setLot l x).lot l').binding = (d.lot l').binding := fun l' => by
    rw [Device.setLot_lot]
    split
    · rename_i e; subst e; exact hb
    · rfl
  refine h.sameCopies (.refl d) (fun l' => ?_) (fun l' _ => ?_) (fun i => ?_) h.capture
  · rw [Device.setLot_lot]
    split
    · rename_i e; subst e; exact hx (h.balanced l)
    · exact h.balanced l'
  · rw [Device.setLot_lot]
    split
    · rename_i e; subst e; exact ⟨hk, congrArg Prod.snd hb⟩
    · exact ⟨rfl, rfl⟩
  · rw [lotsBinding_congr hbinding]
    exact h.imageBalanced i

/-- One image changes. -/
theorem AccountsOk.oneImage (h : AccountsOk d) (hch : e.channels = d.channels) (hl : e.lots = d.lots) (hc : e.capture = d.capture)
    (i : ImageNo) (hi : (d.image i).Balanced i (d.copiesOfImage i) (d.lotsBinding i) d.capture →
      (e.image i).Balanced i (d.copiesOfImage i) (d.lotsBinding i) d.capture)
    (hother : ∀ j, j ≠ i → (e.image j).account = (d.image j).account) : AccountsOk e := by
  have hlot : ∀ l, e.lot l = d.lot l := fun l => by rw [Device.lot, hl]; rfl
  refine h.sameCopies (fun c => by rw [Device.chan, hch]; rfl) (fun l => by rw [hlot]; exact h.balanced l)
    (fun l _ => by rw [hlot]; exact ⟨rfl, rfl⟩) (fun j => ?_) (by rw [hc]; exact h.capture)
  have hbinding : e.lotsBinding j = d.lotsBinding j := lotsBinding_congr (fun l => by rw [hlot]) j
  rw [hbinding, hc]
  by_cases e : j = i
  · subst e; exact hi (h.imageBalanced j)
  · exact (h.imageBalanced j).congr (hother j e)

theorem AccountsOk.setImage (h : AccountsOk d) (i : ImageNo) {z : Image}
    (hz : (d.image i).Balanced i (d.copiesOfImage i) (d.lotsBinding i) d.capture →
      z.Balanced i (d.copiesOfImage i) (d.lotsBinding i) d.capture) : AccountsOk (d.setImage i z) :=
  h.oneImage rfl rfl rfl i (fun hi => by rw [Device.setImage_image, if_pos rfl]; exact hz hi) fun j hj => by
    rw [Device.setImage_image, if_neg hj.symm]

theorem Image.account_of_bare {a b : Image} (h : a.bare = b.bare) : a.account = b.account := by
  change a.bare.account = b.bare.account
  rw [h]

theorem AccountsOk.vacate (h : AccountsOk d) (i : ImageNo)
    (hi : (d.image i).Balanced i (d.copiesOfImage i) (d.lotsBinding i) d.capture →
      Image.vacant.Balanced i (d.copiesOfImage i) (d.lotsBinding i) d.capture) :
    AccountsOk { d with store := d.store.vacate i } :=
  h.oneImage rfl rfl rfl i (fun hb => by
    change ((d.store.vacate i).image i).Balanced _ _ _ _
    rw [Store.vacate_image, if_pos rfl]
    exact hi hb) fun _ hj => Image.account_of_bare (d.store.vacate_bare hj.symm)

end

/-! ## One copy more, one copy less -/

section
variable {d : Device} {c : Chan} {l : LotNo}

/-- An admission that is not granted: the lot may enter EXHAUSTED, and its notice may be set (R79, R99). -/
theorem AccountsOk.admission_refused (h : AccountsOk d) (hx : ∀ o, (d.lot l).admission.2 ≠ .granted o) :
    AccountsOk (d.requestAdmission c l) := by
  have hset : AccountsOk (d.setLot l (d.lot l).admission.1) := by
    rcases (d.lot l).admission_cases with ⟨ha, _, _⟩ | ⟨ha, hs⟩ | ⟨ha, _, _⟩
    · exact absurd (by rw [ha]) (hx (d.lot l).issue.2)
    · rw [ha]
      refine h.setLot l (fun hb => hb.setState .exhausted trivial nofun) ?_ rfl
      rw [Lot.binding, Lot.binding, hs]
      rfl
    · rw [ha]
      exact h.setLot l id rfl rfl
  unfold Device.requestAdmission
  dsimp only
  split
  · rename_i o ho
    exact absurd ho (hx o)
  · split
    · exact hset.same rfl rfl rfl rfl
    · exact hset
  all_goals exact hset

/-- The part after a granted admission (R79, R80). -/
theorem Device.requestAdmission_granted {o : Option Nat} (h : (d.lot l).admission.2 = .granted o) :
    d.requestAdmission c l = (((d.setLot l (d.lot l).admission.1).pin (d.lot l).image).modChan c fun ch =>
      { ch.enterSpinup .copy with ctx := some (beginContext l (d.lot l) o) }) := by
  unfold Device.requestAdmission
  rw [h]

theorem AccountsOk.admission_granted (h : AccountsOk d) (hc : (d.chan c).ctx = none)
    (ha : (d.lot l).admission = ((d.lot l).granted, .granted (d.lot l).issue.2)) (hs : (d.lot l).state = .running)
    (ht : (d.lot l).good + (d.lot l).inFlight < (d.lot l).target) : AccountsOk (d.requestAdmission c l) := by
  rw [Device.requestAdmission_granted (by rw [ha]), ha]
  generalize he : ((d.setLot l (d.lot l).granted).pin (d.lot l).image).modChan c _ = e
  have hlot : ∀ l', e.lot l' = if l = l' then (d.lot l).granted else d.lot l' := fun l' => by
    subst he; exact Device.setLot_lot ..
  have himage : ∀ j, e.image j = if (d.lot l).image = j then
      { d.image (d.lot l).image with pins := (d.image (d.lot l).image).pins + 1 } else d.image j := fun j => by
    subst he; exact Device.setImage_image ..
  have hmore : OneCopyMore d e c (beginContext l (d.lot l) (d.lot l).issue.2) := by
    subst he
    refine ⟨hc, by rw [Device.modChan_chan, if_pos rfl], fun c' hc' => ?_⟩
    rw [Device.modChan_chan, if_neg hc'.symm]
    rfl
  have hcapture : e.capture = d.capture := by subst he; rfl
  clear he
  obtain ⟨gbind, gser, gimage⟩ := (d.lot l).granted_keeps
  have hbinding : ∀ j, e.lotsBinding j = d.lotsBinding j := lotsBinding_congr fun l' => by
    rw [hlot]
    split
    · rename_i h'; subst h'; exact gbind
    · rfl
  refine ⟨fun l' => (lotOk_iff e l').2 ?_, fun j => (imageOk_iff e j).2 ?_, fun c' x hx => ?_, by rw [hcapture]; exact h.capture⟩
  · rw [hmore.lots, hlot]
    change Lot.Balanced _ (_ + if l = l' then 1 else 0)
    split
    · rename_i h'; subst h'; exact (h.balanced l).granted hs ht
    · exact h.balanced l'
  · rw [hmore.images, hbinding, himage, hcapture]
    change Image.Balanced _ _ (_ + if (d.lot l).image = j then 1 else 0) _ _
    split
    · rename_i h'
      subst h'
      have hb := h.imageBalanced (d.lot l).image
      have hbound := hb.bound (by rw [hb.bindings]; exact Device.lotsBinding_pos (by rw [hs]; rfl))
      exact ⟨congrArg (· + 1) hb.pins, hb.bindings, fun _ => .inl hbound, fun _ => Nat.succ_pos _, hb.bound, hb.owner, hb.captured⟩
    · exact h.imageBalanced j
  · by_cases hc' : c' = c
    · subst hc'
      obtain rfl := Option.some.inj (hmore.after.symm.trans hx)
      change (d.lot l).issue.2.isSome = (e.lot l).serialized ∧ (d.lot l).image = (e.lot l).image
      rw [hlot, if_pos rfl, gser, gimage]
      exact ⟨Lot.issue_serial _, rfl⟩
    · rw [hmore.other c' hc'] at hx
      have hcopy := h.copy c' x hx
      rw [hlot]
      split
      · rename_i h'; subst h'; rw [gser, gimage]; exact hcopy
      · exact hcopy

theorem AccountsOk.requestAdmission (h : AccountsOk d) (hc : (d.chan c).ctx = none) : AccountsOk (d.requestAdmission c l) := by
  rcases (d.lot l).admission_cases with ⟨ha, hs, ht⟩ | ⟨ha, _⟩ | ⟨_, ha, _⟩
  · exact h.admission_granted hc ha hs ht
  · exact h.admission_refused fun o => by rw [ha]; exact nofun
  · exact h.admission_refused ha

/-- The image record after a copy of it has ended, but for its directory and pages (R16, R17). -/
theorem Device.unpin_account (d : Device) (i j : ImageNo) : ((d.unpin i).image j).account =
    if i = j then
      (if (d.image i).state = .retiring ∧ (d.image i).pins - 1 = 0 then Image.vacant.account
        else ((d.image i).state, (d.image i).pins - 1, (d.image i).bindings, (d.image i).captureOwner))
    else (d.image j).account := by
  have hself : (d.setImage i { d.image i with pins := (d.image i).pins - 1 }).image i =
      { d.image i with pins := (d.image i).pins - 1 } := by rw [Device.setImage_image, if_pos rfl]
  unfold Device.unpin
  dsimp only
  rw [hself]
  change Image.account (Device.image (if (d.image i).state = .retiring ∧ (d.image i).pins - 1 = 0 then _ else _) j) = _
  by_cases hr : (d.image i).state = .retiring ∧ (d.image i).pins - 1 = 0
  · rw [if_pos hr, if_pos hr]
    by_cases hj : i = j
    · subst hj
      rw [if_pos rfl, Device.notify_image]
      change ((Store.vacate _ i).image i).account = _
      rw [Store.vacate_image, if_pos rfl]
    · rw [if_neg hj, Device.notify_image]
      refine (Image.account_of_bare (Store.vacate_bare _ hj)).trans ?_
      change ((d.setImage i _).image j).account = _
      rw [Device.setImage_image, if_neg hj]
  · rw [if_neg hr, if_neg hr, Device.setImage_image]
    split
    · rfl
    · rfl

theorem Device.unpin_rest (d : Device) (i : ImageNo) : (∀ c, (d.unpin i).chan c = d.chan c) ∧ (∀ l, (d.unpin i).lot l = d.lot l) ∧
    (d.unpin i).capture = d.capture := by
  unfold Device.unpin
  dsimp only
  split <;> exact ⟨fun _ => rfl, fun _ => rfl, rfl⟩

theorem Device.accountEnd_rest (d : Device) (l : LotNo) (o : CopyOutcome) (n : Option Nat) :
    (∀ c, (d.accountEnd l o n).chan c = d.chan c) ∧ (∀ i, (d.accountEnd l o n).image i = d.image i) ∧
      (d.accountEnd l o n).capture = d.capture ∧
        ∀ l', (d.accountEnd l o n).lot l' = if l = l' then (d.lot l).afterEnd o n else d.lot l' := by
  unfold Device.accountEnd
  dsimp only
  split <;> exact ⟨fun _ => rfl, fun _ => rfl, rfl, fun l' => Device.setLot_lot ..⟩

/-- The image of an ended copy: one pin less, and vacated when it was RETIRING with that pin alone (R16, R17). -/
theorem Image.Balanced.unpinned {im z : Image} {i : ImageNo} {n m : Nat} {y : CaptureContext} (h : im.Balanced i (n + 1) m y)
    (hz : z.account = if im.state = .retiring ∧ im.pins - 1 = 0 then Image.vacant.account
      else (im.state, im.pins - 1, im.bindings, im.captureOwner)) : z.Balanced i n m y := by
  have hpins := h.pins
  split at hz
  · rename_i hr
    have hm : m = 0 := by
      rw [← h.bindings]
      by_contra hb
      exact nomatch hr.1.symm.trans (h.bound (Nat.pos_of_ne_zero hb))
    have hn : n = 0 := by omega
    have ho : im.captureOwner = none := h.not_captured (by rw [hr.1]; decide)
    subst hm hn
    refine Image.Balanced.congr (im := Image.vacant) ⟨rfl, rfl, nofun, nofun, nofun, fun c => ?_, nofun⟩ hz
    rw [← h.owner c, ho]
    rfl
  · rename_i hr
    refine Image.Balanced.congr (im := { im with pins := im.pins - 1 })
      ⟨by change im.pins - 1 = n; omega, h.bindings, fun _ => h.pinned (by omega), fun hs => ?_, h.bound, h.owner, h.captured⟩ hz
    exact Nat.pos_of_ne_zero fun h0 => hr ⟨hs, h0⟩

theorem AccountsOk.copyClosed (h : AccountsOk d) {x : CopyContext} (hx : (d.chan c).ctx = some x) (o : CopyOutcome)
    (key : Option Key) : AccountsOk (d.copyClosed c x o key) := by
  obtain ⟨a1, a2, a3, a4⟩ := d.accountEnd_rest x.lot o x.serial
  obtain ⟨u1, u2, u3⟩ := (d.accountEnd x.lot o x.serial).unpin_rest x.image
  generalize he : d.copyClosed c x o key = e
  have hchan : ∀ c', c' ≠ c → e.chan c' = d.chan c' := fun c' hc' => by
    subst he
    rw [Device.copyClosed, Device.notify_chan, Device.modChan_chan_ne _ _ hc'.symm, u1, a1]
  have hself : (e.chan c).ctx = none := by
    subst he
    rw [Device.copyClosed, Device.notify_chan, Device.modChan_chan, if_pos rfl]
    rfl
  have hmore : OneCopyMore e d c x := ⟨hself, hx, fun c' hc' => by rw [hchan c' hc']⟩
  have hlot : ∀ l', e.lot l' = if x.lot = l' then (d.lot x.lot).afterEnd o x.serial else d.lot l' := fun l' => by
    subst he
    exact (u2 l').trans (a4 l')
  have himage : ∀ j, (e.image j).account = (((d.accountEnd x.lot o x.serial).unpin x.image).image j).account := fun j => by
    subst he; rfl
  have hcapture : e.capture = d.capture := by subst he; exact u3.trans a3
  clear he
  obtain ⟨hser, himg⟩ := h.copy c x hx
  obtain ⟨gbind, gser, gimage⟩ := (d.lot x.lot).afterEnd_keeps o x.serial
  have hbinding : ∀ j, e.lotsBinding j = d.lotsBinding j := lotsBinding_congr fun l' => by
    rw [hlot]
    split
    · rename_i h'; subst h'; exact gbind
    · rfl
  refine ⟨fun l' => (lotOk_iff e l').2 ?_, fun j => (imageOk_iff e j).2 ?_, fun c' y hy => ?_, by rw [hcapture]; exact h.capture⟩
  · have hb := h.balanced l'
    rw [hmore.lots] at hb
    rw [hlot]
    split
    · rename_i h'; subst h'; rw [if_pos rfl] at hb; exact hb.afterEnd o hser
    · rename_i h'; rw [if_neg h'] at hb; exact hb
  · have hb := h.imageBalanced j
    have haccount := himage j
    rw [Device.unpin_account, a2, a2] at haccount
    rw [hmore.images] at hb
    rw [hbinding, hcapture]
    split at haccount
    · rename_i h'; subst h'; rw [if_pos rfl] at hb; exact hb.unpinned haccount
    · rename_i h'; rw [if_neg h'] at hb; exact hb.congr haccount
  · by_cases hc' : c' = c
    · subst hc'; rw [hself] at hy; cases hy
    · rw [hchan c' hc'] at hy
      have hcopy := h.copy c' y hy
      rw [hlot]
      split
      · rename_i h'; rw [gser, gimage, h']; exact hcopy
      · exact hcopy

end

/-! ## Captures -/

section
variable {d : Device}

/-- A capture that ends: no image has a capture owner (R20, R154). -/
theorem AccountsOk.captureOver (h : AccountsOk d) (reason : EndReason) : AccountsOk (d.captureOver reason) := by
  have hnone : ∀ i, ((d.captureOver reason).image i).account = ((d.image i).state, (d.image i).pins, (d.image i).bindings, none) ∧
      (d.captureOver reason).capture = d.capture.over reason ∧ (∀ c, (d.captureOver reason).chan c = d.chan c) ∧
        ∀ l, (d.captureOver reason).lot l = d.lot l := by
    intro i
    have howner := (h.image i).owner
    have hrun := h.capture
    unfold Device.captureOver Device.clearOwner
    split
    · rename_i hi
      refine ⟨?_, rfl, fun _ => rfl, fun _ => rfl⟩
      have : (d.image i).captureOwner = none := by
        cases ho : (d.image i).captureOwner with
        | none => rfl
        | some c => exact nomatch hi.symm.trans ((howner c).1 ho).2.2
      rw [← this]; rfl
    · rename_i k hi
      refine ⟨?_, rfl, fun _ => rfl, fun _ => rfl⟩
      rw [Device.setImage_image]
      split
      · rename_i e; subst e; rfl
      · rename_i hne
        have : (d.image i).captureOwner = none := by
          cases ho : (d.image i).captureOwner with
          | none => rfl
          | some c => exact absurd (Option.some.inj (hi.symm.trans ((howner c).1 ho).2.2)) hne
        rw [← this]; rfl
  obtain ⟨_, hcapture, hchan, hlot⟩ := hnone 0
  refine h.sameCopies (fun c => by rw [hchan]) (fun l => by rw [hlot]; exact h.balanced l)
    (fun l _ => by rw [hlot]; exact ⟨rfl, rfl⟩) (fun i => ?_) (by rw [hcapture]; exact nofun)
  have hbinding : (d.captureOver reason).lotsBinding i = d.lotsBinding i := lotsBinding_congr (fun l => by rw [hlot]) i
  rw [hbinding, hcapture]
  have hb := h.imageBalanced i
  refine Image.Balanced.congr (im := { d.image i with captureOwner := none }) ?_ (hnone i).1
  exact ⟨hb.pins, hb.bindings, hb.pinned, hb.retiring, hb.bound, fun c => ⟨nofun, fun e => nomatch e.1⟩, nofun⟩

/-- CAPTURE START (R20, R145). -/
theorem AccountsOk.startCapture (h : AccountsOk d) (c : Chan) (i : ImageNo) (f l n : Nat) (hr : d.capture.state ≠ .running)
    (hi : (d.image i).state = .building) :
    AccountsOk ((d.setCapture (startedCapture c i f l n)).setImage i { d.image i with captureOwner := some c }) := by
  have hnone : ∀ j, (d.image j).captureOwner = none := fun j => by
    cases ho : (d.image j).captureOwner with
    | none => rfl
    | some k => exact absurd (((h.image j).owner k).1 ho).1 hr
  refine h.sameCopies (.refl d) h.balanced (fun _ _ => ⟨rfl, rfl⟩) (fun j => ?_) fun _ => ⟨rfl, rfl⟩
  have hb := h.imageBalanced j
  rw [Device.setImage_image]
  split
  · rename_i e
    subst e
    refine ⟨hb.pins, hb.bindings, hb.pinned, hb.retiring, hb.bound, fun k => ?_, fun _ => hi⟩
    change some c = some k ↔ CaptureState.running = .running ∧ some c = some k ∧ some i = some i
    simp
  · rename_i hne
    refine ⟨hb.pins, hb.bindings, hb.pinned, hb.retiring, hb.bound, fun k => ?_, hb.captured⟩
    rw [Device.setCapture_image, hnone j]
    change none = some k ↔ CaptureState.running = .running ∧ some c = some k ∧ some i = some j
    simp [hne]

end

/-! ## Deed by deed -/

/-- A LOADED channel makes no copy (R92). -/
def LoadedRest (d : Device) : Prop := ∀ c, (d.chan c).state = .loaded → (d.chan c).ctx = none

theorem BaysOk.loadedRest {d : Device} (h : BaysOk d) : LoadedRest d := fun c hc => (h.channel c).rest (by rw [hc]; rfl)

theorem LoadedRest.setChan {d : Device} (h : LoadedRest d) {c : Chan} {x : Channel} (hs : SameCopy (d.chan c) x) :
    LoadedRest (d.setChan c x) := by
  intro c' hc'
  rw [Device.setChan_chan] at hc' ⊢
  split at hc'
  · rename_i e
    subst e
    rw [if_pos rfl]
    have hold : (d.chan c).ctx = none := (hs.2 hc').elim (h c) id
    have hctx := hs.1
    rw [hold] at hctx
    exact Option.map_eq_none_iff.1 hctx
  · rename_i e
    rw [if_neg e]
    exact h c' hc'

theorem LoadedRest.requestAdmission {d : Device} (h : LoadedRest d) (c : Chan) (l : LotNo) : LoadedRest (d.requestAdmission c l) := by
  unfold Device.requestAdmission
  dsimp only
  split
  · intro c' hc'
    rw [Device.modChan_chan] at hc' ⊢
    split at hc'
    · exact nomatch hc'
    · rename_i e; rw [if_neg e]; exact h c' hc'
  · split <;> exact h
  all_goals exact h

theorem LoadedRest.copyClosed {d : Device} (h : LoadedRest d) (c : Chan) (x : CopyContext) (o : CopyOutcome) (key : Option Key) :
    LoadedRest (d.copyClosed c x o key) := by
  obtain ⟨a1, _⟩ := d.accountEnd_rest x.lot o x.serial
  obtain ⟨u1, _⟩ := (d.accountEnd x.lot o x.serial).unpin_rest x.image
  intro c' hc'
  rw [Device.copyClosed, Device.notify_chan, Device.modChan_chan] at hc' ⊢
  split at hc'
  · rename_i e; subst e; rw [if_pos rfl]; rfl
  · rename_i e
    rw [if_neg e]
    rw [u1, a1] at hc' ⊢
    exact h c' hc'

theorem LoadedRest.chans {d e : Device} (h : LoadedRest d) (hc : ∀ c, e.chan c = d.chan c) : LoadedRest e := fun c => by
  rw [hc]; exact h c

theorem Lot.protectedReject_keeps (x : Lot) : x.protectedReject.binding = x.binding ∧ x.protectedReject.serialized = x.serialized ∧
    ∀ n, x.Balanced n → x.protectedReject.Balanced n := by
  unfold Lot.protectedReject
  split
  · exact ⟨rfl, rfl, fun _ h => h⟩
  · exact ⟨rfl, rfl, fun _ h => ⟨h.inFlight, h.state, h.target, h.filled, h.serials⟩⟩

theorem AccountsOk.setChan {d : Device} (h : AccountsOk d) {c : Chan} {x : Channel} (hs : SameCopy (d.chan c) x) :
    AccountsOk (d.setChan c x) := by
  refine h.aside (fun c' => ?_) (fun _ => rfl) (fun _ => rfl) rfl
  rw [Device.setChan_chan]
  split
  · rename_i e; subst e; exact hs.1
  · rfl

theorem Deeds.accounts {d e : Device} (h : Deeds d e) (hd : AccountsOk d) (hl : LoadedRest d) : AccountsOk e ∧ LoadedRest e := by
  induction h with
  | refl => exact ⟨hd, hl⟩
  | tweak c x hs _ ih => exact ⟨ih.1.setChan hs, ih.2.setChan hs⟩
  | notify k _ ih => exact ⟨ih.1.same rfl rfl rfl rfl, ih.2⟩
  | count _ ih => exact ⟨ih.1.same rfl rfl rfl rfl, ih.2⟩
  | @reject e l _ ih =>
    obtain ⟨h1, h2, h3⟩ := (e.lot l).protectedReject_keeps
    exact ⟨ih.1.setLot l (h3 _) h1 h2, ih.2⟩
  | granted c l hs _ ih => exact ⟨ih.1.requestAdmission (ih.2 c hs), ih.2.requestAdmission c l⟩
  | closed c x o key hx _ ih => exact ⟨ih.1.copyClosed hx o key, ih.2.copyClosed c x o key⟩
  | capture y hy _ ih =>
    obtain ⟨h1, h2, h3, _⟩ := hy
    exact ⟨ih.1.aside (.refl _) (fun _ => rfl) (fun _ => rfl) (by simp only [Device.setCapture, h1, h2, h3]), ih.2⟩
  | captured r i key t p bytes _ _ _ _ _ ih =>
    exact ⟨ih.1.store fun j => Image.account_of_bare ((Store.install_bare ..).trans (Store.grant_bare ..)), ih.2⟩
  | @ended e reason _ ih =>
    refine ⟨ih.1.captureOver reason, ih.2.chans fun c => ?_⟩
    rw [Device.captureOver, Device.clearOwner_chan]
    rfl

/-! ## The requests -/

theorem AccountsOk.lotCreated {d : Device} (h : AccountsOk d) (l : LotNo) (i : ImageNo) (ps : LotParams)
    (hl : (d.lot l).state = .vacant) (hi : (d.image i).state = .sealed) : AccountsOk ((d.setLot l (createdLot ps i)).bind i) := by
  have hcopies : d.copiesOfLot l = 0 := (h.balanced l).none_of_state (.inl hl)
  have hmore := lotsBinding_one_more (d := d) (e := (d.setLot l (createdLot ps i)).bind i) (l := l) (i := i)
    (by rw [hl]; rfl) (by rw [Device.bind_lot, Device.setLot_lot_self]; exact createdLot_binding ps i)
    (fun l' hl' => by rw [Device.bind_lot, Device.setLot_lot_ne _ _ hl'.symm])
  refine h.sameCopies (.refl d) (fun l' => ?_) (fun l' hl' => ?_) (fun j => ?_) h.capture
  · rw [Device.bind_lot, Device.setLot_lot]
    split
    · rename_i e; subst e; rw [hcopies]; exact .created ps i
    · exact h.balanced l'
  · have hne : l ≠ l' := fun e => by subst e; exact hl' hcopies
    rw [Device.bind_lot, Device.setLot_lot_ne _ _ hne]
    exact ⟨rfl, rfl⟩
  · have hb := h.imageBalanced j
    rw [hmore, Device.bind, Device.setImage_image]
    split
    · rename_i e
      subst e
      exact ⟨hb.pins, congrArg (· + 1) hb.bindings, hb.pinned, hb.retiring, fun _ => hi, hb.owner, hb.captured⟩
    · exact hb

theorem AccountsOk.lotClosed {d : Device} (h : AccountsOk d) (l : LotNo) (hl : (d.lot l).state.binds = true) :
    AccountsOk ((d.unbind (d.lot l).image).setLot l
      { d.lot l with state := if (d.lot l).inFlight = 0 then .closed else .closing }) := by
  have hclosing : (if (d.lot l).inFlight = 0 then LotState.closed else .closing).binds = false := by split <;> rfl
  have hmore := lotsBinding_one_more (e := d) (d := (d.unbind (d.lot l).image).setLot l
      { d.lot l with state := if (d.lot l).inFlight = 0 then .closed else .closing }) (l := l) (i := (d.lot l).image)
    (by rw [Device.setLot_lot_self]; exact hclosing) (by rw [Lot.binding, hl])
    (fun l' hl' => by rw [Device.setLot_lot_ne _ _ hl'.symm]; rfl)
  refine h.sameCopies (.refl d) (fun l' => ?_) (fun l' _ => ?_) (fun j => ?_) h.capture
  · rw [Device.setLot_lot]
    split
    · rename_i e
      subst e
      refine (h.balanced l).setState _ ?_ ?_
      · split
        · rename_i h0; exact h0
        · rename_i h0; exact Nat.pos_of_ne_zero h0
      · split <;> exact nofun
    · exact h.balanced l'
  · rw [Device.setLot_lot]
    split
    · rename_i e; subst e; exact ⟨rfl, rfl⟩
    · exact ⟨rfl, rfl⟩
  · have hb := h.imageBalanced j
    rw [hmore] at hb
    rw [Device.setLot_image, Device.unbind, Device.setImage_image]
    split
    · rename_i e
      subst e
      rw [if_pos rfl] at hb
      have hbindings := hb.bindings
      refine ⟨hb.pins, ?_, hb.pinned, hb.retiring, fun _ => hb.bound (by omega), hb.owner, hb.captured⟩
      change (d.image (d.lot l).image).bindings - 1 = _
      rw [hbindings]
      rfl
    · rename_i e
      rw [if_neg e] at hb
      exact hb

theorem AccountsOk.lotDeleted {d : Device} (h : AccountsOk d) (l : LotNo) (hl : (d.lot l).state = .closed) :
    AccountsOk ((d.setLot l Lot.vacant).unassign l) := by
  have hcopies : d.copiesOfLot l = 0 := (h.balanced l).none_of_state (.inr (.inr hl))
  have hbinding : ∀ j, ((d.setLot l Lot.vacant).unassign l).lotsBinding j = d.lotsBinding j := fun j => by
    refine List.countP_congr fun l' _ => ?_
    rw [Device.unassign_lot, Device.setLot_lot]
    split
    · rename_i e; subst e; rw [hl]; rfl
    · rfl
  refine h.sameCopies (fun c => ?_) (fun l' => ?_) (fun l' hl' => ?_) (fun j => ?_) h.capture
  · rw [Device.unassign_chan, Device.setLot_chan, Channel.withoutLot]
    split <;> rfl
  · rw [Device.unassign_lot, Device.setLot_lot]
    split
    · rename_i e; subst e; rw [hcopies]; exact .vacant
    · exact h.balanced l'
  · have hne : l ≠ l' := fun e => by subst e; exact hl' hcopies
    rw [Device.unassign_lot, Device.setLot_lot_ne _ _ hne]
    exact ⟨rfl, rfl⟩
  · rw [hbinding]
    exact h.imageBalanced j

theorem Opening.accounts {d e : Device} (h : Opening d e) (hd : AccountsOk d) : AccountsOk e := by
  have fresh : ∀ {i} {z : Image} {n m : Nat}, (d.image i).state ≠ .sealed → (d.image i).state ≠ .retiring →
      (d.image i).captureOwner = none → (z.pins, z.bindings, z.captureOwner) = (0, 0, none) → z.state ≠ .retiring →
      (d.image i).Balanced i n m d.capture → z.Balanced i n m d.capture := fun h1 h2 ho hz hs hb => by
    obtain ⟨rfl, rfl⟩ := hb.unused h1 h2
    exact hb.fresh ho hz hs
  cases h with
  | same => exact hd
  | profile => exact hd.same rfl rfl rfl rfl
  | cleared => exact hd.same rfl rfl rfl rfl
  | enabled => exact hd.same rfl rfl rfl rfl
  | created i p n k label hi =>
    exact hd.setImage i fun hb => fresh (by rw [hi]; decide) (by rw [hi]; decide) (hb.not_captured (by rw [hi]; decide)) rfl nofun hb
  | sealed i sum hi ho _ => exact hd.setImage i fun hb => hb.setState ho rfl (fun _ => .inl rfl) nofun fun _ => rfl
  | unsealed i hi h1 h2 =>
    refine hd.setImage i fun hb => hb.setState (hb.not_captured (by rw [hi]; decide)) rfl (fun e => ?_) nofun fun e => ?_
    · rw [h2] at e; cases e
    · rw [h1] at e; cases e
  | retiring i hi h1 h2 =>
    refine hd.setImage i fun hb => hb.setState (hb.not_captured (by rw [hi]; decide)) rfl (fun _ => .inr rfl)
      (fun _ => Nat.pos_of_ne_zero h2) fun e => ?_
    rw [h1] at e; cases e
  | retired i hi h1 h2 =>
    refine hd.vacate i fun hb => ?_
    have ho := hb.not_captured (by rw [hi]; decide)
    have hpins := hb.pins
    have hbindings := hb.bindings
    rw [h2] at hpins
    rw [h1] at hbindings
    rw [← hpins, ← hbindings] at hb ⊢
    exact hb.fresh ho rfl nofun
  | discarded i hi ho _ =>
    exact hd.vacate i fun hb => fresh (by rw [hi]; decide) (by rw [hi]; decide) ho rfl nofun hb
  | loading r i key t p len _ _ _ _ =>
    exact (hd.store fun j => Image.account_of_bare (Store.grant_bare ..)).same rfl rfl rfl rfl
  | installed r i key t _ _ =>
    exact hd.store fun j => Image.account_of_bare ((Store.install_bare ..).trans (Store.grant_bare ..))
  | removed i key _ => exact hd.store fun j => Image.account_of_bare (Store.remove_bare ..)
  | amended r j o bytes => exact hd.store fun _ => rfl
  | reading i key r len _ _ => exact (hd.store (st := d.store.pinRead r) fun _ => rfl).same rfl rfl rfl rfl
  | aborted =>
    refine (hd.store (st := d.store.afterAbort d.port.stream) fun j => ?_).same rfl rfl rfl rfl
    unfold Store.afterAbort
    split
    · rfl
    · exact Image.account_of_bare (Store.release_bare ..)
    · rw [Store.unpinRead_image]; rfl
  | lotCreated l i ps hl hi => exact hd.lotCreated l i ps hl hi
  | lotStarted l hl =>
    exact hd.setLot l (fun hb => hb.setState .running trivial nofun) (by rw [Lot.binding, Lot.binding, hl]; rfl) rfl
  | lotHeld l hl =>
    refine hd.setLot l (fun hb => hb.setState .held trivial nofun) ?_ rfl
    rw [Lot.binding, Lot.binding]
    rcases hl with hl | hl <;> rw [hl] <;> rfl
  | lotResumed l hl =>
    refine hd.setLot l (fun hb => hb.resumed) ?_ rfl
    change ((d.lot l).resumed.binds, (d.lot l).image) = _
    rw [Lot.resumed_binds, Lot.binding, hl]
    rfl
  | lotMarked l m =>
    exact hd.setLot l (fun hb => ⟨hb.inFlight, hb.state, hb.target, hb.filled, hb.serials⟩) rfl rfl
  | lotClosed l hl => exact hd.lotClosed l hl
  | lotDeleted l hl => exact hd.lotDeleted l hl
  | capture c i f l n hr hb _ _ _ _ => exact hd.startCapture c i f l n hr hb

theorem Opening.loadedRest {d e : Device} (h : Opening d e) (hd : LoadedRest d) : LoadedRest e := by
  cases h with
  | lotDeleted l _ =>
    intro c hc
    rw [Device.unassign_chan, Device.setLot_chan, Channel.withoutLot] at hc ⊢
    split at hc
    · rename_i hl; rw [if_pos hl]; exact hd c hc
    · rename_i hl; rw [if_neg hl]; exact hd c hc
  | _ => exact hd.chans fun _ => rfl

/-! ## The stream, the reset, the step -/

theorem AccountsOk.writeStreamByte {d : Device} (h : AccountsOk d) (v : Byte) : AccountsOk (d.writeStreamByte v) := by
  unfold Device.writeStreamByte
  split
  · dsimp only
    split
    · exact (h.store (st := (d.store.takeByte _ _ v).completeLoad _) fun j =>
        Image.account_of_bare (Store.install_bare ..)).same rfl rfl rfl rfl
    · exact (h.store (st := d.store.takeByte _ _ v) fun _ => rfl).same rfl rfl rfl rfl
  · exact h.same rfl rfl rfl rfl
  · exact h.same rfl rfl rfl rfl

theorem AccountsOk.readStreamByte {d : Device} (h : AccountsOk d) : AccountsOk d.readStreamByte := by
  unfold Device.readStreamByte
  split
  · dsimp only
    split
    · exact (h.store (st := d.store.unpinRead _) fun j => by rw [Store.unpinRead_image]; rfl).same rfl rfl rfl rfl
    · exact h.same rfl rfl rfl rfl
  · exact h.same rfl rfl rfl rfl
  · exact h.same rfl rfl rfl rfl

theorem Device.afterReset_lot (d : Device) (l : LotNo) : d.afterReset.lot l = Lot.vacant := by
  simp [Device.lot, Device.afterReset, Vector.get_eq_getElem]

theorem Device.afterReset_image (d : Device) (i : ImageNo) : d.afterReset.image i = Image.vacant := Store.image_reset i

theorem AccountsOk.afterReset (d : Device) : AccountsOk d.afterReset := by
  have hctx : ∀ c, (d.afterReset.chan c).ctx = none := fun c => by rw [Device.afterReset_chan]; rfl
  have hlots : ∀ l, d.afterReset.copiesOfLot l = 0 := fun l => List.countP_eq_zero.2 fun c _ => by rw [hctx]; exact nofun
  have himages : ∀ i, d.afterReset.copiesOfImage i = 0 := fun i => List.countP_eq_zero.2 fun c _ => by rw [hctx]; exact nofun
  have hbinding : ∀ i, d.afterReset.lotsBinding i = 0 := fun i => List.countP_eq_zero.2 fun l _ => by
    rw [Device.afterReset_lot]; exact nofun
  refine ⟨fun l => (lotOk_iff _ l).2 ?_, fun i => (imageOk_iff _ i).2 ?_, fun c x hx => ?_, nofun⟩
  · rw [hlots, Device.afterReset_lot]; exact .vacant
  · rw [himages, hbinding, Device.afterReset_image]
    exact ⟨rfl, rfl, nofun, nofun, nofun, fun c => ⟨nofun, fun h => nomatch h.1⟩, nofun⟩
  · rw [hctx] at hx; cases hx

theorem HostEffect.accounts {d e : Device} (hb : BaysOk d) (h : HostEffect d e) (hd : AccountsOk d) : AccountsOk e := by
  cases h with
  | port p _ => exact hd.same rfl rfl rfl rfl
  | request r hr =>
    obtain ⟨f, hf, he⟩ := work_requested hb hr
    exact (he.accounts (hf.accounts hd) (hf.loadedRest hb.loadedRest)).1
  | reset b => exact (AccountsOk.afterReset d).same rfl rfl rfl rfl
  | release => exact hd.same rfl rfl rfl rfl
  | written v => exact hd.writeStreamByte v
  | read => exact hd.readStreamByte

/-- Settles O58. Every step has one effect; a request is an opening and a chain of deeds, and each deed moves one copy in the accounts
of its lot, its image and its channel, or none. -/
theorem accountsStay : Obligations.AccountsStay := by
  intro s t h hs
  obtain ⟨p, q, f, _, hf, _, ht⟩ := step_one hs.host.1 h
  have hbays : BaysOk (s.dev.withPort p) := ⟨hs.bays.channel, hs.bays.capture⟩
  have hd : AccountsOk (s.dev.withPort p) := hs.accounts.same rfl rfl rfl rfl
  have hdf : AccountsOk f := by
    rcases hf.cases_deeds hbays with hf | hf
    · exact hf.accounts hbays hd
    · exact (hf.accounts hd hbays.loadedRest).1
  rw [ht]
  exact hdf.same rfl rfl rfl rfl

end Sys2Proof.Machine
end

section
/-! PROOFS. A request row on a ready port: its frame is read back as the request, its checks decide in their order, and the reply is
the newest of the reply queue. -/

open Sys2Proof Sys2Proof.Machine

namespace Sys2Proof.Machine

/-! ## Reading a request back (R163) -/

/-- Two fields that stand side by side. -/
theorem extract_append {w a b : Nat} (x : BitVec w) (s : Nat) :
    x.extractLsb' (s + a) b ++ x.extractLsb' s a = x.extractLsb' s (b + a) :=
  BitVec.extractLsb'_append_extractLsb'_eq_extractLsb' rfl

theorem ofHalfBytes_split (x : Half) : ofHalfBytes (x.extractLsb' 0 8) (x.extractLsb' 8 8) = x :=
  (extract_append x 0).trans BitVec.extractLsb'_eq_self

theorem ofMaskBytes_split (x : BitVec 24) : ofMaskBytes (x.extractLsb' 0 8) (x.extractLsb' 8 8) (x.extractLsb' 16 8) = x :=
  calc ofMaskBytes (x.extractLsb' 0 8) (x.extractLsb' 8 8) (x.extractLsb' 16 8)
      = x.extractLsb' 8 16 ++ x.extractLsb' 0 8 :=
        congrArg (· ++ x.extractLsb' 0 8) (extract_append (a := 8) (b := 8) x 8)
    _ = x := (extract_append (a := 8) (b := 16) x 0).trans BitVec.extractLsb'_eq_self

theorem ofWordBytes_split (x : Word) :
    ofWordBytes (x.extractLsb' 0 8) (x.extractLsb' 8 8) (x.extractLsb' 16 8) (x.extractLsb' 24 8) = x :=
  calc ofWordBytes (x.extractLsb' 0 8) (x.extractLsb' 8 8) (x.extractLsb' 16 8) (x.extractLsb' 24 8)
      = x.extractLsb' 16 16 ++ x.extractLsb' 8 8 ++ x.extractLsb' 0 8 :=
        congrArg (fun y => y ++ x.extractLsb' 8 8 ++ x.extractLsb' 0 8) (extract_append (a := 8) (b := 8) x 16)
    _ = x.extractLsb' 8 24 ++ x.extractLsb' 0 8 :=
        congrArg (fun y => y ++ x.extractLsb' 0 8) (extract_append (a := 8) (b := 16) x 8)
    _ = x := (extract_append (a := 8) (b := 24) x 0).trans BitVec.extractLsb'_eq_self

theorem readEntries_bytes : ∀ es : List RawEntry, readEntries es.length (es.flatMap RawEntry.bytes) = es
  | [] => rfl
  | e :: es => congrArg (e :: ·) (readEntries_bytes es)

theorem entriesBytes_length : ∀ es : List RawEntry, (es.flatMap RawEntry.bytes).length = 6 * es.length
  | [] => rfl
  | e :: es => by
    rw [List.flatMap_cons, List.length_append, entriesBytes_length es, List.length_cons]
    change 6 + _ = _
    omega

theorem readLotTail_bytes (t : LotTail) : readLotTail t.bytes = t := by cases t <;> rfl

/-- The frame of a well-formed request is read back as the request. -/
theorem decodeRequest_params {r : Request} (h : r.wellFormed = true) : decodeRequest r.code r.params = .ok r := by
  cases r with
  | imageCreate i p c n label =>
    have hl : label.length = 16 := by simpa [Request.wellFormed] using h
    change (match readImageCreate (i :: p :: c :: n :: label) with
      | none => Except.error DecodeError.badLength
      | some r => .ok r) = _
    rw [readImageCreate, if_neg (by omega), List.take_of_length_le (by omega)]
  | trackLoad ps =>
    have hl : ps.entries.length = entriesNeeded ps.n := by simpa [Request.wellFormed] using h
    change (match readTrackLoad (ps.image :: ps.cyl :: ps.head :: ps.gap3 :: ps.interleave :: ps.skew :: ps.n ::
        ps.entries.flatMap RawEntry.bytes) with
      | none => Except.error DecodeError.badLength
      | some r => .ok r) = _
    rw [readTrackLoad, if_neg (by rw [entriesBytes_length, hl]; omega), ← hl, readEntries_bytes]
  | sectorPeek i c n j o m => exact congrArg (fun x => Except.ok (Request.sectorPeek i c n j x m)) (ofHalfBytes_split o)
  | sectorAmend i c n j o m data =>
    exact congrArg (fun x => Except.ok (Request.sectorAmend i c n j x m data)) (ofHalfBytes_split o)
  | profileSet ps => exact congrArg (fun x => Except.ok (Request.profileSet { ps with rate := x })) (ofHalfBytes_split ps.rate)
  | lotMark l m => exact congrArg (fun x => Except.ok (Request.lotMark l x)) (ofHalfBytes_split m)
  | noticeClear m => exact congrArg (fun x => Except.ok (Request.noticeClear x)) (ofMaskBytes_split m)
  | noticeEnable m p => exact congrArg (fun x => Except.ok (Request.noticeEnable x p)) (ofMaskBytes_split m)
  | lotCreate ps =>
    change Except.ok (Request.lotCreate ⟨ps.lot, ps.image, ofHalfBytes _ _, ofHalfBytes _ _, ps.digits, ps.encoding,
      ofWordBytes _ _ _ _, ofWordBytes _ _ _ _, ps.reissue, ps.patchCyl, ps.patchHead, ps.patchSector, ofHalfBytes _ _,
      ps.verify, readLotTail ps.tail.bytes⟩) = _
    rw [ofHalfBytes_split, ofHalfBytes_split, ofHalfBytes_split, ofWordBytes_split, ofWordBytes_split, readLotTail_bytes]
  | _ => rfl

/-- A well-formed request fits the 256-byte body. -/
theorem body_length_le {r : Request} (h : r.wellFormed = true) (tag : Byte) : (r.body tag).length ≤ 256 := by
  cases r with
  | imageCreate i p c n label =>
    have hl : label.length = 16 := by simpa [Request.wellFormed] using h
    simp [Request.body, Request.params, hl]
  | trackLoad ps =>
    have hl : ps.entries.length = entriesNeeded ps.n := by simpa [Request.wellFormed] using h
    have hn : entriesNeeded ps.n ≤ 40 := by
      unfold entriesNeeded
      split
      · rename_i hn; exact hn.2
      · exact Nat.zero_le _
    have hlen := entriesBytes_length ps.entries
    simp only [Request.body, Request.params, List.length_cons, List.length_append, List.length_nil, hlen]
    omega
  | sectorAmend i c n j o m data =>
    have hl : data.length ≤ 248 := by simpa [Request.wellFormed] using h
    simp only [Request.body, Request.params, halfBytes, List.length_cons, List.length_append, List.length_nil]
    omega
  | lotCreate ps =>
    have ht : ps.tail.bytes.length ≤ 2 := by cases ps.tail <;> simp [LotTail.bytes]
    simp only [Request.body, Request.params, halfBytes, wordBytes, List.length_cons, List.length_append, List.length_nil]
    omega
  | _ => simp [Request.body, Request.params, halfBytes, maskBytes]

/-! ## The row -/

/-- The state after a request whose owning block makes `x` of the part has been answered. -/
def State.worked (s : State) (tag code : Byte) (x : Device × Response) : State :=
  s.answered x.1 tag code x.2.completion x.2.result

/-- A well-formed request row on a ready port (R161 to R164). -/
theorem exec_worked {s : State} (h : PortReady s.dev) {i : Instr} {tag : Byte} {r : Request} (hi : i.request? = some (tag, r))
    (hw : r.wellFormed = true) {x : Device × Response} (hx : work r s.dev = replied x) :
    exec i s = .next (s.worked tag r.code x) := by
  have hr : r ≠ .partReset := fun e => by subst e; exact nomatch congrArg Prod.snd hx
  obtain ⟨y, hy, hs⟩ := Device.submit_worked h (tag := tag) hr (decodeRequest_params hw) (body_length_le hw tag)
  rw [exec_row hi, hs, hx]
  obtain rfl : x.2 = y := Option.some.inj ((congrArg Prod.snd hx).symm.trans hy)
  rfl

section
variable {s : State} {tag code : Byte}

theorem worked_refuse (c : Completion) : s.worked tag code (refuse s.dev c) = s.refused tag code c := rfl

theorem worked_answerOk (d : Device) (bs : List Byte) : s.worked tag code (answerOk d bs) = s.answered d tag code .ok bs := rfl

theorem worked_nil (k : Device × Response) : s.worked tag code (checked s.dev [] k) = s.worked tag code k := rfl

/-- The first of a request's checks: it refuses the request exactly when `p` holds, and the others decide when it does not. -/
theorem worked_check {p : Prop} [Decidable p] {ok : Bool} {c : Completion} {cs : List (Bool × Completion)} {k : Device × Response}
    {rest : State} (hp : ok = true ↔ ¬ p) (h : ¬ p → s.worked tag code (checked s.dev cs k) = rest) :
    s.worked tag code (checked s.dev ((ok, c) :: cs) k) = if p then s.refused tag code c else rest := by
  split
  · rename_i hn
    rw [checked_false (Bool.eq_false_iff.2 fun e => hp.1 e hn)]
    rfl
  · rename_i hn
    rw [checked_true (hp.2 hn)]
    exact h hn

/-- A check that passes. -/
theorem worked_pass {ok : Bool} {c : Completion} {cs : List (Bool × Completion)} {k : Device × Response} (hp : ok = true) :
    s.worked tag code (checked s.dev ((ok, c) :: cs) k) = s.worked tag code (checked s.dev cs k) := by
  rw [checked_true hp]

end

theorem withChan_lt {b : Byte} {d : Device} {k : Chan → Device × Response} (c : Chan) (h : b.toNat = c.val) :
    withChan b d k = k c := withSlot_lt c h

theorem withChan_ge {b : Byte} {d : Device} {k : Chan → Device × Response} (h : 6 ≤ b.toNat) :
    withChan b d k = refuse d .noSuch := withSlot_ge h

/-- A row that its owning block refuses. -/
theorem exec_refused {s : State} (h : PortReady s.dev) {i : Instr} {tag : Byte} {r : Request} (hi : i.request? = some (tag, r))
    (hw : r.wellFormed = true) {x : Device × Response} (hx : work r s.dev = replied x) {c : Completion}
    (hc : x = refuse s.dev c) {code : Byte} (hcode : code = r.code := by rfl) : exec i s = .next (s.refused tag code c) := by
  rw [exec_worked h hi hw hx, hc, hcode]
  rfl

end Sys2Proof.Machine
end

section
/-! PROOFS. The reset: the part is in order right after it (O54), and every reset leaves the same state (O51). -/

open Sys2Proof Sys2Proof.Machine

namespace Sys2Proof.Machine

/-! ## The part in order after a reset -/

theorem Channel.reset_ok (media : Bool) (lines : Lines) : ChannelOk (Channel.reset media lines) where
  work := rfl
  context := rfl
  motor := rfl
  monitored := rfl
  spinUp h := nomatch h
  feed := rfl
  feedTimer := rfl
  eject := rfl
  ejectTimer := rfl
  bin := rfl
  pendingFault h := nomatch h
  faulted h := nomatch h
  seated := trivial
  master h := nomatch h
  gate h := nomatch h
  held h := nomatch h
  calibration h := nomatch h
  plan _ h := nomatch h

theorem BaysOk.afterReset (d : Device) : BaysOk d.afterReset where
  channel c := by rw [Device.afterReset_chan]; exact Channel.reset_ok _ _
  capture c := by
    rw [Device.afterReset_chan]
    exact ⟨nofun, fun h => nomatch h.1⟩

theorem SerialsOk.afterReset (d : Device) (l : LotNo) : SerialsOk d.afterReset l := by
  have hlot : d.afterReset.lot l = Lot.vacant := d.afterReset_lot l
  have hnone : ∀ c x, ¬ d.afterReset.carries c l x := by
    rintro c x ⟨y, hy, _⟩
    rw [Device.afterReset_chan] at hy
    cases hy
  exact ⟨by rw [hlot]; exact ⟨Nat.zero_le _, .nil⟩, by rw [hlot]; exact nofun, fun c x h => absurd h (hnone c x),
    fun c _ x h => absurd h (hnone c x)⟩

theorem PortOk.reset (b : Byte) : PortOk (Port.reset b) :=
  ⟨Nat.zero_le _, Nat.zero_le _, rfl, fun h => absurd rfl h, nofun, nofun, Nat.le_refl _⟩

theorem NoticesOk.reset : NoticesOk Notices.reset := ⟨rfl, by decide⟩

theorem InOrder.afterReset (d : Device) : InOrder d.afterReset :=
  ⟨⟨.reset _, .reset⟩, ⟨.nil, nofun⟩, .reset, .afterReset d, .afterReset d, SerialsOk.afterReset d, .afterReset d⟩

/-- The state after reset is a state after a reset. -/
theorem State.reset_dev : State.reset.dev.afterReset = State.reset.dev := by
  simp [Device.afterReset, State.reset, Port.reset]
  rfl

/-- Settles O54, since every part is in order after a reset. -/
theorem invariantsAtReset : Obligations.InvariantsAtReset := by
  unfold Obligations.InvariantsAtReset
  rw [← State.reset_dev]
  exact .afterReset _

/-! ## Every reset is the same -/

/-- A frame of PART RESET that the engine can work (R163, R171). -/
theorem workFrame_partReset {f : Frame} (hc : f.code = 0xF0) (hb : f.body ≠ []) (hl : f.long = false) (d : Device) :
    workFrame f d = (d.afterReset, none) := by
  have hd : decodeRequest f.code f.body.tail = .ok .partReset := by rw [hc]; rfl
  unfold workFrame
  rw [if_neg hb, if_neg (by rw [hl]; decide), hd]
  rfl

theorem Device.afterReset_placeReply (d : Device) (f : Frame) : d.afterReset.placeReply f none = d.afterReset := rfl

theorem exec_powerOn (s : State) : exec .powerOn s = .next { s with dev := s.dev.afterReset } := rfl

/-- PART RESET on a ready port (R171). -/
theorem exec_partReset {s : State} (h : PortReady s.dev) (tag : Byte) :
    exec (.partReset tag) s = .next { s with dev := s.dev.afterReset } := by
  have hs : s.dev.submit tag .partReset = s.dev.afterReset := Device.submit_ready h (decodeRequest_params rfl) (body_length_le rfl tag)
  rw [exec_row rfl, hs]

/-- POST of a frame of PART RESET on a ready port. -/
theorem exec_post_partReset {s : State} {f : Frame} (h : PortReady s.dev) (hf : s.dev.port.frame = some f) (hc : f.code = 0xF0)
    (hb : f.body ≠ []) (hl : f.long = false) : exec .post s = exec .powerOn s := by
  have hpost : s.dev.writeAt .control 0x01 = s.dev.afterReset := by
    rw [s.dev.writeAt_control.1, Device.access, if_neg (by rw [h.released]; decide), Device.post, hf]
    dsimp only
    rw [Device.postFrame_ready h, workFrame_partReset hc hb hl]
    rfl
  exact congrArg (fun d => Host.Outcome.next { s with dev := d }) hpost

/-- NEXT REPLY that makes the room for which a frame of PART RESET waits at the head of the request queue. -/
theorem exec_nextReply_partReset {s : State} {f : Frame} {r : Reply} {rest : List Reply} {more : List Frame}
    (hin : s.dev.resetInput = false) (hi : s.dev.port.working = none) (hr : s.dev.port.replies = r :: rest)
    (hroom : rest.length < 4) (hq : s.dev.port.requests = f :: more) (hc : f.code = 0xF0) (hb : f.body ≠ [])
    (hl : f.long = false) : exec .nextReply s = exec .powerOn s := by
  have hnext : s.dev.writeAt .control 0x02 = s.dev.afterReset := by
    rw [s.dev.writeAt_control.2.1, Device.access, if_neg (by rw [hin]; decide), Device.nextReply, hr]
    dsimp only
    unfold Device.engineCheck
    rw [hq, List.length_cons, Device.runEngine]
    dsimp only
    rw [if_pos (by simp [Device.engineReady, hi, hroom])]
    unfold Device.workOne
    dsimp only
    rw [workFrame_partReset hc hb hl, Device.afterReset_placeReply]
    exact Device.runEngine_empty rfl _
  exact congrArg (fun d => Host.Outcome.next { s with dev := d }) hnext

theorem Device.afterReset_freePages (d : Device) : d.afterReset.store.freePages = List.range 2048 := by
  rw [Device.afterReset, Store.reset]

/-- With no notice enabled the line is deasserted (R178). -/
theorem Device.afterReset_lineAsserted (d : Device) : d.afterReset.lineAsserted = false := by
  have henable : d.afterReset.notices.enable = 0#24 := rfl
  simp [Device.lineAsserted, henable]

theorem Device.afterReset_lineHigh (d : Device) : d.afterReset.lineHigh = true := by
  rw [Device.lineHigh, Device.afterReset_lineAsserted]
  rfl

theorem profilesReset_get (p : ProfileNo) : profilesReset.get p =
    if p = 0 then ⟨true, 250, ⟨9, 2, 1, 80, 0xE5, 1, 0, 0⟩⟩
    else if p = 1 then ⟨true, 500, ⟨18, 2, 1, 84, 0xE5, 1, 0, 0⟩⟩
    else ⟨false, 0, ⟨0, 0, 0, 0, 0, 0, 0, 0⟩⟩ := by
  decide +revert

/-- Settles O51: PART RESET, RESET and power-on all leave `Device.afterReset`, whose fields are stated one by one. -/
theorem resetsEndTheWork : Obligations.ResetsEndTheWork := by
  refine ⟨⟨fun s => { s with dev := s.dev.afterReset }, fun s => { s with dev := { s.dev.afterReset with resetInput := true } },
    fun s => { s with dev := s.dev.afterReset }, fun s => ⟨rfl, rfl⟩, fun s tag h => exec_partReset h tag,
    fun s => ⟨rfl, fun _ => rfl, rfl⟩⟩, fun s f hc hb hl => ⟨fun h hf => exec_post_partReset h hf hc hb hl,
    fun r rest more hin hi hr hroom hq => exec_nextReply_partReset hin hi hr hroom hq hc hb hl⟩, ?_⟩
  intro s t h
  cases h
  refine ⟨⟨rfl, rfl, rfl, rfl, rfl, rfl, rfl, rfl, rfl, rfl, rfl, rfl, rfl, rfl, rfl, rfl, rfl⟩, profilesReset_get,
    s.dev.afterReset_image, Store.record_reset, s.dev.afterReset_freePages, s.dev.afterReset_lot, fun c => ?_, rfl, rfl, rfl, s.dev.afterReset_lineAsserted,
    s.dev.afterReset_lineHigh, rfl, rfl, rfl, rfl, rfl, rfl, rfl, rfl⟩
  dsimp only
  rw [Device.afterReset_chan]
  exact ⟨rfl, rfl, rfl, rfl, rfl, rfl, rfl, rfl, rfl, rfl, rfl, rfl, rfl, rfl, rfl, rfl, rfl, rfl⟩

end Sys2Proof.Machine
end

section
/-! PROOFS. The image requests on a ready port (O13, O14), and what vacating an image does. -/

open Sys2Proof Sys2Proof.Machine

namespace Sys2Proof.Machine

theorem imageCreate_wellFormed {i p c n : Byte} {label : List Byte} (h : label.length = 16) :
    (Request.imageCreate i p c n label).wellFormed = true := decide_eq_true h

section
variable {s : State} {tag image : Byte}

/-! ## Creating, sealing and unsealing -/

theorem createdImage_eq (p : Profile) (cylinders heads : Nat) (label : List Byte) : Image.created p cylinders heads label =
    { state := .building, label := label, cylinders := cylinders, heads := heads, rate := p.rate, layout := p.layout,
      directory := List.replicate (cylinders * heads) none, pins := 0, bindings := 0, captureOwner := none, checksum := 0,
      checksumValid := false, presentTracks := 0, pagesHeld := 0 } := rfl

theorem exec_imageCreate_noSuch (h : PortReady s.dev) {profile cyls heads : Byte} {label : List Byte} (hl : label.length = 16)
    (hn : 8 ≤ image.toNat ∨ 16 ≤ profile.toNat) :
    exec (.imageCreate tag image profile cyls heads label) s = .next (s.refused tag 0x10 .noSuch) := by
  refine exec_refused h rfl (imageCreate_wellFormed hl) rfl ?_
  unfold workImageCreate
  rcases hn with hi | hp
  · exact withSlot_ge hi
  · rcases withSlot_cases image s.dev (fun i => withSlot 16 profile s.dev fun p => checked s.dev _ (answerOk (s.dev.setImage i
      (Image.created (s.dev.profile p) cyls.toNat heads.toNat label)) [])) with ⟨i, _, hi⟩ | hi
    · exact hi.trans (withSlot_ge hp)
    · exact hi

theorem exec_imageCreate (h : PortReady s.dev) {profile cyls heads : Byte} {label : List Byte} (hl : label.length = 16)
    {i : ImageNo} {p : ProfileNo} (hi : image.toNat = i.val) (hp : profile.toNat = p.val) :
    exec (.imageCreate tag image profile cyls heads label) s = .next (
      if (s.dev.image i).state ≠ .vacant then s.refused tag 0x10 .wrongState
      else if cyls.toNat < 1 ∨ 84 < cyls.toNat ∨ heads.toNat < 1 ∨ 2 < heads.toNat then s.refused tag 0x10 .badValue
      else if (s.dev.profile p).defined = false then s.refused tag 0x10 .noSuch
      else s.answered (s.dev.setImage i (Image.created (s.dev.profile p) cyls.toNat heads.toNat label)) tag 0x10 .ok []) := by
  rw [exec_worked h rfl (imageCreate_wellFormed hl) rfl, workImageCreate, withSlot_lt i hi, withSlot_lt p hp]
  refine congrArg Host.Outcome.next ?_
  refine worked_check (by simp) fun _ => worked_check (by simp [within]; omega) fun _ => worked_check (by simp) fun _ => rfl

/-- When a stream is open on an image (R11). -/
theorem Device.streamOn_iff (d : Device) (i : ImageNo) : d.streamOn i = true ↔
    ∃ r k, (d.store.record r).image = i ∧ (d.port.stream = .inbound r k ∨
      (d.port.stream = .outbound r k ∧ (d.store.record r).link = .linked)) := by
  unfold Device.streamOn
  cases hs : d.port.stream with
  | closed => simp
  | inbound r k => simp
  | outbound r k => simp [and_comm]

/-- The entry at a position of a directory is the entry of the key there (R4). -/
theorem Image.entry_keyAt (im : Image) (k : Nat) : im.entry (im.keyAt k) = im.directory.getD k none := by
  rw [Image.entry, Image.entryAt, Image.keyAt, Nat.mul_comm, Nat.div_add_mod]

/-- The image checksum, entry by entry (R23). -/
theorem Store.checksum_eq (st : Store) (i : ImageNo) : st.checksum i =
    ((List.range (st.image i).directory.length).map fun k =>
      (match (st.image i).directory.getD k none with
        | some r => (st.record r).track.sum
        | none => (defaultTrack (st.image i).layout ⟨k / (st.image i).heads, k % (st.image i).heads⟩).sum)).sum % 2 ^ 32 := by
  have hterm : ∀ k, (st.lookup i ((st.image i).keyAt k)).sum = (match (st.image i).directory.getD k none with
      | some r => (st.record r).track.sum
      | none => (defaultTrack (st.image i).layout ⟨k / (st.image i).heads, k % (st.image i).heads⟩).sum) := fun k => by
    rw [Store.lookup, Image.entry_keyAt]
    cases (st.image i).directory.getD k none <;> rfl
  unfold Store.checksum
  simp only [hterm]
  rfl

theorem worked_unheld {code : Byte} {i : ImageNo} {k : Device × Response} : s.worked tag code (checked s.dev (unheldChecks s.dev i) k) =
    if (s.dev.image i).state ≠ .building then s.refused tag code .wrongState
    else if (s.dev.image i).captureOwner ≠ none then s.refused tag code .busy
    else if s.dev.streamOn i = true then s.refused tag code .busy
    else s.worked tag code k :=
  worked_check (by simp) fun _ => worked_check (by simp) fun _ => worked_check (by simp) fun _ => rfl

theorem exec_imageSeal (h : PortReady s.dev) {i : ImageNo} (hi : image.toNat = i.val) :
    exec (.imageSeal tag image) s = .next (
      if (s.dev.image i).state ≠ .building then s.refused tag 0x11 .wrongState
      else if (s.dev.image i).captureOwner ≠ none then s.refused tag 0x11 .busy
      else if s.dev.streamOn i = true then s.refused tag 0x11 .busy
      else s.answered (s.dev.setImage i
        { s.dev.image i with state := .sealed, checksum := s.dev.store.checksum i, checksumValid := true }) tag 0x11 .ok
          (u32 (s.dev.store.checksum i))) := by
  rw [exec_worked h rfl rfl rfl, workImageSeal, withSlot_lt i hi, worked_unheld]
  rfl

theorem exec_imageUnseal (h : PortReady s.dev) {i : ImageNo} (hi : image.toNat = i.val) :
    exec (.imageUnseal tag image) s = .next (
      if (s.dev.image i).state ≠ .sealed then s.refused tag 0x12 .wrongState
      else if (s.dev.image i).bindings ≠ 0 then s.refused tag 0x12 .lotsBound
      else if (s.dev.image i).pins ≠ 0 then s.refused tag 0x12 .wrongState
      else s.answered (s.dev.setImage i { s.dev.image i with state := .building, checksumValid := false }) tag 0x12 .ok []) := by
  rw [exec_worked h rfl rfl rfl, workImageUnseal, withSlot_lt i hi]
  refine congrArg Host.Outcome.next ?_
  exact worked_check (by simp) fun _ => worked_check (by simp) fun _ => worked_check (by simp) fun _ => rfl

end

/-- Settles O13. -/
theorem creatingAndSealing : Obligations.CreatingAndSealing := by
  refine ⟨fun s tag image profile cyls heads label h hl => ⟨exec_imageCreate_noSuch h hl, fun i p hi hp => exec_imageCreate h hl hi hp⟩,
    fun s tag image h => ⟨fun hn => ⟨exec_refused h rfl rfl rfl (withSlot_ge hn),
      exec_refused h rfl rfl rfl (withSlot_ge hn)⟩,
      fun i hi => ⟨s.dev.streamOn_iff i, ?_, exec_imageUnseal h hi⟩⟩⟩
  have hsum := s.dev.store.checksum_eq i
  have hseal := exec_imageSeal (tag := tag) h hi
  rw [hsum] at hseal
  exact hseal

/-! ## Retiring and discarding -/

section
variable {s : State} {tag image : Byte}

/-- The state after IMAGE RETIRE has vacated an image, with its notice (R13). -/
theorem Device.notify_imageFreed (d : Device) (i : ImageNo) :
    Device.notify { d with store := d.store.vacate i } noticeImageFreed =
      { d with store := d.store.vacate i, notices := { d.notices with flags := d.notices.flags ||| 0x200000#24 } } := rfl

theorem exec_imageRetire (h : PortReady s.dev) {i : ImageNo} (hi : image.toNat = i.val) :
    exec (.imageRetire tag image) s = .next (
      if (s.dev.image i).state ≠ .sealed then s.refused tag 0x13 .wrongState
      else if (s.dev.image i).bindings ≠ 0 then s.refused tag 0x13 .lotsBound
      else if (s.dev.image i).pins = 0 then
        s.answered (Device.notify { s.dev with store := s.dev.store.vacate i } noticeImageFreed) tag 0x13 .ok
          (u8 ImageState.vacant.pos ++ releaseCounts s.dev i)
      else s.answered (s.dev.setImage i { s.dev.image i with state := .retiring }) tag 0x13 .ok
        (u8 ImageState.retiring.pos ++ u8 (s.dev.image i).pins ++ u8 0 ++ u16 0)) := by
  rw [exec_worked h rfl rfl rfl, workImageRetire, withSlot_lt i hi]
  refine congrArg Host.Outcome.next ?_
  refine worked_check (by simp) fun _ => worked_check (by simp) fun _ => ?_
  rw [worked_nil, apply_ite (s.worked tag _)]
  rfl

theorem exec_imageDiscard (h : PortReady s.dev) {i : ImageNo} (hi : image.toNat = i.val) :
    exec (.imageDiscard tag image) s = .next (
      if (s.dev.image i).state ≠ .building then s.refused tag 0x14 .wrongState
      else if (s.dev.image i).captureOwner ≠ none then s.refused tag 0x14 .busy
      else if s.dev.streamOn i = true then s.refused tag 0x14 .busy
      else s.answered { s.dev with store := s.dev.store.vacate i } tag 0x14 .ok (releaseCounts s.dev i)) := by
  rw [exec_worked h rfl rfl rfl, workImageDiscard, withSlot_lt i hi, worked_unheld]
  rfl

end

/-- Vacating an image takes pages from no other (R6, R15): the records its directory names belong to it. -/
theorem DirsOk.vacate_image {st : Store} {x : Stream} (h : DirsOk st.image st.record x) (i j : ImageNo) :
    (st.vacate i).image j = if j = i then Image.vacant else st.image j := by
  rw [Store.vacate_image]
  by_cases hij : i = j
  · rw [if_pos hij, if_pos hij.symm]
  · rw [if_neg hij, if_neg (Ne.symm hij)]
    refine Store.disposeAll_image_ne j _ st fun r hr => ?_
    obtain ⟨k, hk⟩ := List.mem_iff_getElem?.1 hr
    exact .inl fun e => hij ((h.named i k r hk).2.1.symm.trans e)

/-- Settles O14. -/
theorem retiringAndVacating : Obligations.RetiringAndVacating := by
  refine ⟨fun s tag image h => ⟨fun hn => ⟨exec_refused h rfl rfl rfl (withSlot_ge hn),
    exec_refused h rfl rfl rfl (withSlot_ge hn)⟩, fun i hi => ⟨exec_imageRetire h hi, exec_imageDiscard h hi⟩⟩,
    fun d i hd hp => ⟨hd.dirs.vacate_image i, fun r hn hr => ?_, fun r hn hr => ?_, fun r hn => ?_, (hp.vacate i).ascending,
      fun p => ?_, ?_⟩⟩
  · exact (d.store.vacate_record i r).trans ((if_pos hn).trans (TrackRecord.disposed_unpinned hr))
  · exact (d.store.vacate_record i r).trans ((if_pos hn).trans (TrackRecord.disposed_pinned hr))
  · exact (d.store.vacate_record i r).trans (if_neg hn)
  · exact Store.mem_disposeAll_freePages p (d.image i).directory d.store
  · exact Store.disposeAll_memory (d.image i).directory d.store

end Sys2Proof.Machine
end

section
/-! PROOFS. The queries on a ready port report their records field by field (O17). -/

open Sys2Proof Sys2Proof.Machine

namespace Sys2Proof.Machine

/-! ## Result fields that may be absent -/

theorem uChan_eq (o : Option Chan) : uChan o = (match o with
    | some c => u8 c.val
    | none => [0xFF]) := by cases o <;> rfl

theorem uPatch_eq (p : Option PatchSite) : uPatch p = (match p with
    | some q => u8 q.cyl ++ u8 q.head ++ u8 q.sector ++ u16 q.offset
    | none => List.replicate 5 0xFF) := by cases p <;> rfl

theorem uVerifyFault_eq (f : Option VerifyFault) : uVerifyFault f = (match f with
    | some v => u8 v.kind.pos ++ u8 v.key.cyl ++ u8 v.key.head ++ u8 v.attempt ++ u8? v.slot ++ u8? v.logical
    | none => List.replicate 6 0xFF) := by cases f <;> rfl

/-- The report of a copy context, its two plan fields (log 14) apart. -/
theorem uContext_some (x : CopyContext) : uContext (some x) =
    (u8 x.lot.val ++ u8 x.image.val ++ u32? x.serial ++ u8 x.digits ++ u8 x.encoding.pos ++ uPatch x.patch ++
      u8 x.verify.pos ++ u8 x.retryLimit ++ u8 x.budget ++ uKey x.key ++ u8? (x.phase.map CopyPhase.pos) ++
      u8 x.attempt ++ u8 x.failures ++ u8? x.counter ++ u8 x.written ++ u16 x.rewrites ++ uVerifyFault x.lastFault) ++
      (u8? (x.plan.map Plan.gEff) ++ u16? (x.plan.map Plan.expected)) := List.append_assoc _ _ _

/-! ## The records slot by slot -/

theorem Store.records_toList (st : Store) : st.records.toList = (List.finRange 512).map st.record := by
  refine List.ext_getElem (by simp) fun k h1 h2 => ?_
  simp [Store.record, Vector.get_eq_getElem]

theorem Store.images_toList (st : Store) : st.images.toList = (List.finRange 8).map st.image := by
  refine List.ext_getElem (by simp) fun k h1 h2 => ?_
  simp [Store.image, Vector.get_eq_getElem]

theorem Store.status_eq (st : Store) : st.status =
    u16 st.freePages.length ++ u16 ((List.finRange 512).countP fun r => (st.record r).state == .free) ++
      u8 ((List.finRange 512).countP fun r => (st.record r).state == .loading) ++
      u8 ((List.finRange 512).countP fun r => (st.record r).link == .unlinked) ++
      (List.finRange 8).flatMap fun i => u8 (st.image i).state.pos := by
  unfold Store.status
  rw [Store.records_toList, Store.images_toList, List.countP_map, List.countP_map, List.countP_map, List.flatMap_map]
  rfl

section
variable {s : State} {tag n : Byte}

/-- A row that reports and changes nothing. -/
theorem exec_report (h : PortReady s.dev) {i : Instr} {r : Request} (hi : i.request? = some (tag, r)) (hw : r.wellFormed = true)
    {x : Device × Response} (hx : work r s.dev = replied x) {bs cs : List Byte} (hb : x = answerOk s.dev bs) (hc : bs = cs)
    {code : Byte} (hcode : code = r.code := by rfl) : exec i s = .next (s.answered s.dev tag code .ok cs) := by
  rw [exec_worked h hi hw hx, hb, hcode, hc]
  rfl

theorem Image.report_eq (im : Image) : im.report =
    u8 im.state.pos ++ im.label ++ u8 im.cylinders ++ u8 im.heads ++ u16 im.rate ++
      (u8 im.layout.sectors ++ u8 im.layout.size.val ++ u8 im.layout.firstSector ++ u8 im.layout.gap3 ++ [im.layout.fill] ++
        u8 im.layout.interleave ++ u8 im.layout.cylSkew ++ u8 im.layout.headSkew) ++ u8 im.pins ++ u8 im.bindings ++ u8 im.presentTracks ++ u16 im.pagesHeld ++ u32 (if im.checksumValid then im.checksum else 0) ++
      uFlag im.checksumValid ++ (match im.captureOwner with
        | some c => u8 c.val
        | none => [0xFF]) := by
  unfold Image.report uLayout
  rw [uChan_eq im.captureOwner]

theorem Lot.report_eq (x : Lot) : x.report =
    u8 x.state.pos ++ u8 x.image.val ++ u16 x.target ++ u16 x.good ++ u16 x.rejects ++ x.tally.report ++ u8 x.inFlight ++
      u16 x.mark ++ u8 x.digits ++ u8 x.encoding.pos ++ u32 x.first ++ u32 x.last ++ u32 x.next ++ u8 x.reissue.length ++
      x.reissue.flatMap u32 ++ u32 x.void ++ uFlag x.reissueEnable ++
      (match x.patch with
        | some q => u8 q.cyl ++ u8 q.head ++ u8 q.sector ++ u16 q.offset
        | none => List.replicate 5 0xFF) ++ u8 x.verify.pos ++ u8 x.retryLimit ++ u8 x.budget := by
  unfold Lot.report
  rw [uPatch_eq x.patch]

end

/-- The report of a channel, field by field; a verify fault in a report is `uVerifyFault`. -/
theorem Channel.report_eq (ch : Channel) : ch.report =
    u8 ch.state.pos ++ u8 ch.work.pos ++
    (match ch.fault with
      | some f => u8 f.reason.pos ++ u32 f.detail
      | none => List.replicate 5 0xFF) ++
    uFlag ch.faultPending ++ u8 ch.ejectBin.pos ++ uFlag ch.hold ++
    (match ch.lot with
      | some l => u8 l.val
      | none => [0xFF]) ++
    uFlag ch.master ++ u8 ch.stepInterval ++ u8 ch.settle ++ u32 ch.period ++ u8 ch.headCyl ++ uFlag ch.calibrated ++
    uFlag ch.lines.index ++ uFlag ch.lines.trackZero ++ uFlag ch.media ++ uFlag ch.lines.writeProtect ++
    (match ch.last with
      | some o =>
        (match o.outcome with
          | .good => [0, 0xFF]
          | .reject r => 1 :: u8 r.pos) ++
        u8? (o.faultReason.map FaultReason.pos) ++ u8 o.lot.val ++ u32? o.serial ++ uKey o.failedKey ++
        uVerifyFault o.verifyFault ++ u8 o.written ++ u16 o.rewrites
      | none => List.replicate 19 0xFF) ++
    (match ch.ctx with
      | some x =>
        u8 x.lot.val ++ u8 x.image.val ++ u32? x.serial ++ u8 x.digits ++ u8 x.encoding.pos ++
        (match x.patch with
          | some q => u8 q.cyl ++ u8 q.head ++ u8 q.sector ++ u16 q.offset
          | none => List.replicate 5 0xFF) ++
        u8 x.verify.pos ++ u8 x.retryLimit ++ u8 x.budget ++ uKey x.key ++ u8? (x.phase.map CopyPhase.pos) ++
        u8 x.attempt ++ u8 x.failures ++ u8? x.counter ++ u8 x.written ++ u16 x.rewrites ++ uVerifyFault x.lastFault ++
        (match x.plan with
          | some p => u8 p.gEff ++ u16 p.expected
          | none => [0xFF, 0xFF, 0xFF])
      | none => List.replicate 34 0xFF) := by
  unfold Channel.report
  refine congrArg₂ (· ++ ·) (congrArg₂ (· ++ ·) ?_ ?_) ?_
  · cases ch.fault <;> cases ch.lot <;> rfl
  · cases ch.last with
    | none => rfl
    | some o =>
      obtain ⟨outcome, _⟩ := o
      cases outcome <;> rfl
  · cases ch.ctx with
    | none => rfl
    | some x =>
      rw [uContext_some]
      refine congrArg₂ (· ++ ·) ?_ ?_
      · cases x.patch <;> rfl
      · cases x.plan <;> rfl

/-- Settles O17. -/
theorem queries : Obligations.Queries := by
  refine ⟨fun s tag n h => ⟨fun hn => ?_, fun hn => ?_, fun i hi => ?_, fun p hp => ?_, ?_⟩,
    fun s tag n h => ⟨fun hn => ?_, fun hn => ?_, fun l hl => ?_, fun c hc => ?_, ?_⟩⟩
  · exact exec_refused h rfl rfl rfl (withSlot_ge hn)
  · exact exec_refused h rfl rfl rfl (withSlot_ge hn)
  · exact exec_report h rfl rfl rfl (withSlot_lt i hi) (s.dev.image i).report_eq
  · exact exec_report h rfl rfl rfl (withSlot_lt p hp) rfl
  · exact exec_report h rfl rfl rfl rfl s.dev.store.status_eq
  · exact exec_refused h rfl rfl rfl (withSlot_ge hn)
  · exact exec_refused h rfl rfl rfl (withChan_ge hn)
  · exact exec_report h rfl rfl rfl (withSlot_lt l hl) (s.dev.lot l).report_eq
  · intro ch vfault
    have hv : vfault = uVerifyFault := funext fun f => (uVerifyFault_eq f).symm
    have hr : exec (.channelQuery tag n) s = .next (s.answered s.dev tag 0x59 .ok ch.report) :=
      exec_report h rfl rfl rfl (withChan_lt c hc) rfl
    clear_value ch vfault
    subst hv
    exact hr.trans (congrArg (fun bs => Host.Outcome.next (s.answered s.dev tag 0x59 .ok bs)) ch.report_eq)
  · exact exec_report h rfl rfl rfl rfl rfl

end Sys2Proof.Machine
end

section
/-! PROOFS. TRACK QUERY, SECTOR PEEK, TRACK REMOVE and TRACK READ on a ready port (O18, O21). -/

open Sys2Proof Sys2Proof.Machine

namespace Sys2Proof.Machine

section
variable {s : State} {tag code : Byte} {i : ImageNo} {cyl head : Byte}

/-! ## The checks common to the track requests (R47) -/

theorem hasKey_iff_inside (im : Image) (cyl head : Byte) :
    im.hasKey (keyOf cyl head) = true ↔ ¬ (im.cylinders ≤ cyl.toNat ∨ im.heads ≤ head.toNat) := by
  rw [hasKey_keyOf]
  omega

theorem worked_readChecks {cs : List (Bool × Completion)} {k : Device × Response} {rest : State}
    (h : s.worked tag code (checked s.dev cs k) = rest) :
    s.worked tag code (checked s.dev (readChecks s.dev i (keyOf cyl head) ++ cs) k) =
      if (s.dev.image i).state = .vacant then s.refused tag code .wrongState
      else if (s.dev.image i).cylinders ≤ cyl.toNat ∨ (s.dev.image i).heads ≤ head.toNat then s.refused tag code .badValue
      else rest :=
  worked_check (by simp) fun _ => worked_check (hasKey_iff_inside _ cyl head) fun _ => h

theorem worked_changeChecks {cs : List (Bool × Completion)} {k : Device × Response} {rest : State}
    (h : s.worked tag code (checked s.dev cs k) = rest) :
    s.worked tag code (checked s.dev (changeChecks s.dev i (keyOf cyl head) ++ cs) k) =
      if (s.dev.image i).state ≠ .building then s.refused tag code .wrongState
      else if (s.dev.image i).captureOwner ≠ none then s.refused tag code .busy
      else if (s.dev.image i).cylinders ≤ cyl.toNat ∨ (s.dev.image i).heads ≤ head.toNat then s.refused tag code .badValue
      else rest :=
  worked_check (by simp) fun _ => worked_check (by simp) fun _ => worked_check (hasKey_iff_inside _ cyl head) fun _ => h

/-! ## TRACK QUERY and SECTOR PEEK -/

theorem Device.trackReport_eq (d : Device) (i : ImageNo) (key : Key) (f m : Nat) : d.trackReport i key f m =
    uFlag ((d.image i).entry key).isSome ++
      (match (d.image i).entry key with
        | some r => u16 r.val
        | none => [0xFF, 0xFF]) ++
      uFlag (d.store.loadingAt i key) ++ u8 (d.store.lookup i key).gap3 ++ u8 (d.store.lookup i key).interleave ++
      u8 (d.store.lookup i key).skew ++ u8 (d.store.lookup i key).n ++ u16 (d.store.lookup i key).dataLen ++
      u8 (d.store.lookup i key).pages.length ++ u16 (d.store.lookup i key).sum ++
      u8 (min m ((d.store.lookup i key).n - f)) ++ (((d.store.lookup i key).sectors.drop f).take m).flatMap uSector := by
  have hentry : ∀ o : Option RecNo, u16? (o.map Fin.val) = (match o with
      | some r => u16 r.val
      | none => [0xFF, 0xFF]) := fun o => by cases o <;> rfl
  unfold Device.trackReport
  dsimp only
  rw [hentry, List.length_take, List.length_drop]
  rfl

theorem exec_trackQuery (h : PortReady s.dev) {image : Byte} (hi : image.toNat = i.val) (f m : Byte) :
    exec (.trackQuery tag image cyl head f m) s = .next (
      if (s.dev.image i).state = .vacant then s.refused tag 0x24 .wrongState
      else if (s.dev.image i).cylinders ≤ cyl.toNat ∨ (s.dev.image i).heads ≤ head.toNat then s.refused tag 0x24 .badValue
      else if 39 < f.toNat ∨ 32 < m.toNat then s.refused tag 0x24 .badValue
      else s.answered s.dev tag 0x24 .ok (s.dev.trackReport i (keyOf cyl head) f.toNat m.toNat)) := by
  rw [exec_worked h rfl rfl rfl, workTrackQuery, withSlot_lt i hi]
  exact congrArg Host.Outcome.next (worked_readChecks (worked_check (by simp [within]) fun _ => rfl))

theorem Track.sectorSize_some {t : Track} {j : Nat} {e : SectorEntry} (h : t.sectors[j]? = some e) :
    t.sectorSize j = 128 * 2 ^ e.size.val := by
  rw [Track.sectorSize, h]
  rfl

theorem Track.n_le_iff {t : Track} {j : Nat} : t.n ≤ j ↔ t.sectors[j]? = none := List.getElem?_eq_none_iff.symm

theorem sectorBytes_some {m : List Host.Cell} {t : Track} {j o l : Nat} {e : SectorEntry} (h : t.sectors[j]? = some e) :
    sectorBytes m t j o l = (match e.store with
      | .fill v => List.replicate l v
      | .data => (List.range l).map fun k => dataRead m t.pages (dataOffset t.sectors j + o + k)) := by
  rw [sectorBytes, h] <;> rfl

theorem exec_sectorPeek (h : PortReady s.dev) {image : Byte} (hi : image.toNat = i.val) (j : Byte) (o : Half) (l : Byte) :
    exec (.sectorPeek tag image cyl head j o l) s = .next (
      if (s.dev.image i).state = .vacant then s.refused tag 0x25 .wrongState
      else if (s.dev.image i).cylinders ≤ cyl.toNat ∨ (s.dev.image i).heads ≤ head.toNat then s.refused tag 0x25 .badValue
      else if l.toNat < 1 ∨ 64 < l.toNat then s.refused tag 0x25 .badValue
      else match (s.dev.store.lookup i (keyOf cyl head)).sectors[j.toNat]? with
        | none => s.refused tag 0x25 .badValue
        | some e =>
          if 128 * 2 ^ e.size.val < o.toNat + l.toNat then s.refused tag 0x25 .badValue
          else s.answered s.dev tag 0x25 .ok (u8 l.toNat ++
            sectorBytes s.dev.store.memory (s.dev.store.lookup i (keyOf cyl head)) j.toNat o.toNat l.toNat)) := by
  rw [exec_worked h rfl rfl rfl, workSectorPeek, withSlot_lt i hi]
  refine congrArg Host.Outcome.next (worked_readChecks (worked_check (by simp [within]; omega) fun _ => ?_))
  cases hj : (s.dev.store.lookup i (keyOf cyl head)).sectors[j.toNat]? with
  | none =>
    have hn := Track.n_le_iff.2 hj
    rw [checked_false (decide_eq_false (by omega))]
    rfl
  | some e =>
    have hn : ¬ (s.dev.store.lookup i (keyOf cyl head)).n ≤ j.toNat := fun hn => nomatch (Track.n_le_iff.1 hn).symm.trans hj
    rw [worked_pass (decide_eq_true (by omega)), Track.sectorSize_some hj]
    exact worked_check (by simp) fun _ => rfl

end

/-- Settles O18. -/
theorem lookupsReport : Obligations.LookupsReport := by
  intro s tag image cyl head h
  refine ⟨fun hn => ⟨fun f m => exec_refused h rfl rfl rfl (withSlot_ge hn), fun j o l => exec_refused h rfl rfl rfl (withSlot_ge hn)⟩,
    fun i hi => ⟨fun f m => ?_, fun j o l => ?_⟩⟩
  · have hq := exec_trackQuery (cyl := cyl) (head := head) (tag := tag) h hi f m
    rw [Device.trackReport_eq] at hq
    exact hq
  · refine (exec_sectorPeek h hi j o l).trans ?_
    refine congrArg Host.Outcome.next (if_congr Iff.rfl rfl (if_congr Iff.rfl rfl (if_congr Iff.rfl rfl ?_)))
    change _ = (match (s.dev.store.lookup i (keyOf cyl head)).sectors[j.toNat]? with
      | none => _
      | some e => _)
    cases hj : (s.dev.store.lookup i (keyOf cyl head)).sectors[j.toNat]? with
    | none => rfl
    | some e =>
      rw [sectorBytes_some hj]
      rfl

/-! ## TRACK REMOVE and TRACK READ -/

section
variable {s : State} {tag image : Byte} {i : ImageNo} {cyl head : Byte}

theorem exec_trackRemove (h : PortReady s.dev) (hi : image.toNat = i.val) :
    exec (.trackRemove tag image cyl head) s = .next (
      if (s.dev.image i).state ≠ .building then s.refused tag 0x22 .wrongState
      else if (s.dev.image i).captureOwner ≠ none then s.refused tag 0x22 .busy
      else if (s.dev.image i).cylinders ≤ cyl.toNat ∨ (s.dev.image i).heads ≤ head.toNat then s.refused tag 0x22 .badValue
      else match (s.dev.image i).entry (keyOf cyl head) with
        | none => s.answered s.dev tag 0x22 .ok [1, 0]
        | some r => s.answered { s.dev with store := s.dev.store.remove i (keyOf cyl head) } tag 0x22 .ok
            ([0] ++ u8 (s.dev.store.pagesOnRemoval r))) := by
  rw [exec_worked h rfl rfl rfl, workTrackRemove, withSlot_lt i hi]
  refine congrArg Host.Outcome.next ?_
  rw [← List.append_nil (changeChecks s.dev i (keyOf cyl head))]
  refine worked_changeChecks ?_
  rw [worked_nil]
  cases (s.dev.image i).entry (keyOf cyl head) <;> rfl

theorem exec_trackRead (h : PortReady s.dev) (hi : image.toNat = i.val) :
    exec (.trackRead tag image cyl head) s = .next (
      if (s.dev.image i).state = .vacant then s.refused tag 0x23 .wrongState
      else if (s.dev.image i).cylinders ≤ cyl.toNat ∨ (s.dev.image i).heads ≤ head.toNat then s.refused tag 0x23 .badValue
      else match (s.dev.image i).entry (keyOf cyl head) with
        | none => s.answered s.dev tag 0x23 .ok [0, 0, 0]
        | some r =>
          if (s.dev.store.record r).track.dataLen = 0 then s.answered s.dev tag 0x23 .ok [1, 0, 0]
          else if s.dev.port.stream ≠ .closed then s.refused tag 0x23 .busy
          else s.answered (({ s.dev with store := s.dev.store.pinRead r }).openStream
              (.outbound r (s.dev.store.record r).track.dataLen)) tag 0x23 .ok
            ([1] ++ u16 r.val ++ u16 (s.dev.store.record r).track.dataLen)) := by
  rw [exec_worked h rfl rfl rfl, workTrackRead, withSlot_lt i hi]
  refine congrArg Host.Outcome.next ?_
  rw [← List.append_nil (readChecks s.dev i (keyOf cyl head))]
  refine worked_readChecks ?_
  rw [worked_nil]
  cases (s.dev.image i).entry (keyOf cyl head) with
  | none => rfl
  | some r =>
    rw [apply_ite (s.worked tag _)]
    exact if_congr Iff.rfl rfl (worked_check (by simp [Device.streamOpen]) fun _ => rfl)

end

/-- Settles O21. -/
theorem removingAndReading : Obligations.RemovingAndReading := by
  intro s tag image cyl head h
  refine ⟨fun hn => ⟨exec_refused h rfl rfl rfl (withSlot_ge hn), exec_refused h rfl rfl rfl (withSlot_ge hn)⟩, fun i hi => ⟨?_, ?_⟩⟩
  · refine (exec_trackRemove h hi).trans ?_
    change _ = Host.Outcome.next (if _ then _ else if _ then _ else if _ then _ else
      match (s.dev.image i).entry (keyOf cyl head) with
      | none => _
      | some r => _)
    cases (s.dev.image i).entry (keyOf cyl head) <;> rfl
  · refine (exec_trackRead h hi).trans ?_
    change _ = Host.Outcome.next (if _ then _ else if _ then _ else
      match (s.dev.image i).entry (keyOf cyl head) with
      | none => _
      | some r => _)
    cases (s.dev.image i).entry (keyOf cyl head) <;> rfl

end Sys2Proof.Machine
end

section
/-! PROOFS. Bytes of image memory: the stream's (O9) and SECTOR AMEND's (O22). -/

open Sys2Proof Sys2Proof.Machine

namespace Sys2Proof.Machine

theorem dataAddress_of_page {pages : List Nat} {b p : Nat} (h : pages[b / 2048]? = some p) :
    dataAddress pages b = some (2048 * p + b % 2048) := by
  rw [dataAddress, h]

/-! ## The stream -/

section
variable {s : State} {r : RecNo} {k : Nat}

theorem exec_streamWrite (h : s.dev.resetInput = false) (v : Byte) :
    exec (.streamWrite v) s = .next { s with dev := s.dev.writeStreamByte v } := by
  have hw : s.dev.writeAt .stream v = s.dev.writeStreamByte v := (Device.writeAt_released h v).2.2.1
  exact congrArg (fun d => Host.Outcome.next { s with dev := d }) hw

theorem exec_streamRead (h : s.dev.resetInput = false) : exec .streamRead s = .next { s with dev := s.dev.readStreamByte } := by
  have hr : s.dev.readAccess Device.readStreamByte = s.dev.readStreamByte := if_neg (by rw [h]; decide)
  exact congrArg (fun d => Host.Outcome.next { s with dev := d }) hr

theorem Device.writeStreamByte_more {d : Device} (hx : d.port.stream = .inbound r k) (hk : 1 < k) (v : Byte) :
    d.writeStreamByte v = { d with
      store := d.store.takeByte r ((d.store.record r).track.dataLen - k) v, port := { d.port with stream := .inbound r (k - 1) } } := by
  rw [Device.writeStreamByte, hx]
  exact if_neg (by omega)

theorem Device.writeStreamByte_last {d : Device} (hx : d.port.stream = .inbound r 1) (v : Byte) :
    d.writeStreamByte v = { d with
      store := (d.store.takeByte r ((d.store.record r).track.dataLen - 1) v).completeLoad r
      port := { d.port with stream := .closed } } := by
  rw [Device.writeStreamByte, hx]
  exact if_pos (Nat.le_refl 1)

theorem Device.readStreamByte_more {d : Device} (hx : d.port.stream = .outbound r k) (hk : 1 < k) : d.readStreamByte = { d with
    port := { d.port with
      dataLines := dataRead d.store.memory (d.store.record r).track.pages ((d.store.record r).track.dataLen - k)
      stream := .outbound r (k - 1) } } := by
  rw [Device.readStreamByte, hx]
  exact if_neg (by omega)

theorem Device.readStreamByte_last {d : Device} (hx : d.port.stream = .outbound r 1) : d.readStreamByte = { d with
    store := d.store.unpinRead r
    port := { d.port with
      dataLines := dataRead d.store.memory (d.store.record r).track.pages ((d.store.record r).track.dataLen - 1)
      stream := .closed } } := by
  rw [Device.readStreamByte, hx]
  exact if_pos (Nat.le_refl 1)

/-- The store after the last byte of a load, before the record is installed (R52). -/
theorem Store.completeLoad_takeByte (st : Store) (r : RecNo) (b : Nat) (v : Byte) : (st.takeByte r b v).completeLoad r =
    ({ st.setRecord r { st.record r with track := { (st.record r).track with
        sum := (((st.record r).track.sum + v.toNat) % 65536 + fillSum (st.record r).track.sectors) % 65536 } } with
      memory := dataWrite st.memory (st.record r).track.pages b v }).install r := by
  have hself : (st.takeByte r b v).record r = { st.record r with track := { (st.record r).track with
      sum := ((st.record r).track.sum + v.toNat) % 65536 } } := Store.setRecord_record_self ..
  unfold Store.completeLoad
  rw [hself]
  refine congrArg (fun x : Store => x.install r) ?_
  exact congrArg (fun x : Store => { x with memory := dataWrite st.memory (st.record r).track.pages b v })
    (Store.setRecord_setRecord st r _ _)

theorem Store.unpinRead_linked {st : Store} (h : (st.record r).link = .linked) :
    st.unpinRead r = st.setRecord r { st.record r with readPin := false } := by
  rw [Store.unpinRead, h]

theorem Store.unpinRead_unlinked {st : Store} (h : (st.record r).link = .unlinked) :
    st.unpinRead r = (st.setRecord r { st.record r with readPin := false }).release r := by
  rw [Store.unpinRead, h]

end

/-- Settles O9. -/
theorem streamBytes : Obligations.StreamBytes := by
  constructor
  · intro s v r k p hin hx hm x b sum hp
    have haddr : dataAddress x.track.pages b = some (2048 * p + b % 2048) := dataAddress_of_page hp
    have hwrite : dataWrite s.dev.store.memory x.track.pages b v = memWrite s.dev.store.memory (2048 * p + b % 2048) v := by
      rw [dataWrite, haddr]
    refine ⟨dataWrite s.dev.store.memory x.track.pages b v, fun a => ?_, fun hk => ?_, fun hk => ?_⟩
    · rw [hwrite]
      exact memRead_memWrite _ hm _ a v
    · rw [exec_streamWrite hin, Device.writeStreamByte_more hx hk]
      rfl
    · subst hk
      rw [exec_streamWrite hin, Device.writeStreamByte_last hx, Store.completeLoad_takeByte]
  · intro s r k p hin hx x b v unpinned hp
    have hread : dataRead s.dev.store.memory x.track.pages b = v := by rw [dataRead, dataAddress_of_page hp]
    refine ⟨fun hk => ?_, fun hk hl => ?_, fun hk hl => ?_⟩
    · rw [exec_streamRead hin, Device.readStreamByte_more hx hk, hread]
    · subst hk
      rw [exec_streamRead hin, Device.readStreamByte_last hx, hread, Store.unpinRead_linked hl]
    · subst hk
      rw [exec_streamRead hin, Device.readStreamByte_last hx, hread, Store.unpinRead_unlinked hl]

/-! ## SECTOR AMEND -/

/-- The bytes of some data writes stand at the record's data offsets. -/
theorem memRead_dataWriteAll_at : ∀ (bs : List Byte) (m : List Host.Cell) (_ : Memory.wf m) {pages : List Nat} (_ : pages.Nodup)
    (b k a : Nat), k < bs.length → dataAddress pages (b + k) = some a →
      bs[k]? = some (memRead (dataWriteAll m pages b bs) a)
  | v :: vs, m, hm, pages, hn, b, 0, a, _, ha => by
    have hlater : ∀ j, j < vs.length → dataAddress pages (b + 1 + j) ≠ some a := fun j _ hj => by
      have := dataAddress_inj hn ha hj
      omega
    have haddr : dataAddress pages b = some a := ha
    rw [dataWriteAll, memRead_dataWriteAll_ne vs _ (dataWrite_wf m hm pages b v) pages (b + 1) a hlater, dataWrite, haddr]
    exact congrArg some ((memRead_memWrite m hm a a v).trans (if_pos rfl)).symm
  | v :: vs, m, hm, pages, hn, b, k + 1, a, hk, ha => by
    have hk' : k < vs.length := by simpa using hk
    have ha' : dataAddress pages (b + 1 + k) = some a := by rw [← ha]; congr 1; omega
    exact memRead_dataWriteAll_at vs _ (dataWrite_wf m hm pages b v) hn (b + 1) k a hk' ha'

/-- A record holds no page twice. -/
theorem PagesOk.pages_nodup {st : Store} (h : PagesOk st) (r : RecNo) : (st.record r).track.pages.Nodup := by
  have hall : (st.freePages ++ st.heldPages).Nodup := h.all.nodup_iff.2 List.nodup_range
  have hheld : ((st.record r).track.pages ++ st.otherPages r).Nodup :=
    (st.heldPages_split r).nodup_iff.1 (List.nodup_append.1 hall).2.1
  exact (List.nodup_append.1 hheld).1

theorem checked_append (d : Device) (k : Device × Response) : ∀ as bs : List (Bool × Completion),
    checked d (as ++ bs) k = checked d as (checked d bs k)
  | [], _ => rfl
  | (ok, c) :: as, bs => by
    cases ok with
    | false => rfl
    | true => exact checked_append d k as bs

/-- What SECTOR AMEND does after the checks common to the requests that change a track (R57). -/
def Device.amending (d : Device) (i : ImageNo) (key : Key) (j o l : Nat) (data : List Byte) : Device × Response :=
  checked d
    [(decide (l ≤ data.length), .badLength), (within 1 64 l, .badValue), (decide (j < (d.store.lookup i key).n), .badValue),
     ((d.store.lookup i key).sectorIsData j, .fillSector), (decide (o + l ≤ (d.store.lookup i key).sectorSize j), .badValue)]
    (match (d.image i).entry key with
    | none => refuse d .fillSector
    | some r =>
      checked d [(!(d.store.record r).readPin, .busy)]
        (answerOk { d with store := d.store.amend r j o (data.take l) }
          (u16 (d.store.lookup i key).sum ++ u16 ((d.store.amend r j o (data.take l)).record r).track.sum)))

theorem sectorAmend_wellFormed {i c n j l : Byte} {o : Half} {data : List Byte} (h : data.length ≤ 248) :
    (Request.sectorAmend i c n j o l data).wellFormed = true := decide_eq_true h

section
variable {s : State} {tag image cyl head sector : Byte} {offset : Half} {length : Byte} {data : List Byte} {i : ImageNo}

theorem exec_sectorAmend (h : PortReady s.dev) (hd : data.length ≤ 248) (hi : image.toNat = i.val) :
    exec (.sectorAmend tag image cyl head sector offset length data) s = .next (
      if (s.dev.image i).state ≠ .building then s.refused tag 0x26 .wrongState
      else if (s.dev.image i).captureOwner ≠ none then s.refused tag 0x26 .busy
      else if (s.dev.image i).cylinders ≤ cyl.toNat ∨ (s.dev.image i).heads ≤ head.toNat then s.refused tag 0x26 .badValue
      else s.worked tag 0x26 (s.dev.amending i (keyOf cyl head) sector.toNat offset.toNat length.toNat data)) := by
  rw [exec_worked h rfl (sectorAmend_wellFormed hd) rfl, workSectorAmend, withSlot_lt i hi]
  exact congrArg Host.Outcome.next (worked_changeChecks rfl)

end

section
variable {d : Device} {i : ImageNo} {key : Key} {j o l : Nat} {data : List Byte}

theorem Device.amending_short (h : data.length < l) : d.amending i key j o l data = refuse d .badLength :=
  checked_false (decide_eq_false (by omega))

theorem Device.amending_range (h : l ≤ data.length) (hl : l < 1 ∨ 64 < l) : d.amending i key j o l data = refuse d .badValue := by
  rw [Device.amending, checked_true (decide_eq_true h)]
  exact checked_false (by simp [within]; omega)

variable (h : l ≤ data.length) (h1 : 1 ≤ l) (h64 : l ≤ 64)
include h h1 h64

theorem Device.amending_noSector (hj : (d.store.lookup i key).n ≤ j) : d.amending i key j o l data = refuse d .badValue := by
  rw [Device.amending, checked_true (decide_eq_true h), checked_true (by simp [within]; omega)]
  exact checked_false (decide_eq_false (by omega))

theorem Device.amending_fill (hj : j < (d.store.lookup i key).n) (hf : (d.store.lookup i key).sectorIsData j = false) :
    d.amending i key j o l data = refuse d .fillSector := by
  rw [Device.amending, checked_true (decide_eq_true h), checked_true (by simp [within]; omega), checked_true (decide_eq_true hj)]
  exact checked_false hf

variable {e : SectorEntry} (he : (d.store.lookup i key).sectors[j]? = some e) (hdata : e.store = .data)
include he hdata

/-- What remains for a window of a stored DATA sector. -/
theorem Device.amending_stored : d.amending i key j o l data =
    checked d [(decide (o + l ≤ 128 * 2 ^ e.size.val), .badValue)]
      (match (d.image i).entry key with
      | none => refuse d .fillSector
      | some r =>
        checked d [(!(d.store.record r).readPin, .busy)]
          (answerOk { d with store := d.store.amend r j o (data.take l) }
            (u16 (d.store.lookup i key).sum ++ u16 ((d.store.amend r j o (data.take l)).record r).track.sum))) := by
  have hj : j < (d.store.lookup i key).n := by
    by_contra hn
    exact nomatch (Track.n_le_iff.1 (Nat.le_of_not_lt hn)).symm.trans he
  have hstored : (d.store.lookup i key).sectorIsData j = true := by
    rw [Track.sectorIsData, he]
    simp [SectorEntry.isData, hdata]
  rw [Device.amending, checked_true (decide_eq_true h), checked_true (by simp [within]; omega), checked_true (decide_eq_true hj),
    checked_true hstored, Track.sectorSize_some he]

end

/-- Every sector of a default track is FILL (R21, R57). -/
theorem defaultTrack_sectorIsData (lay : Layout) (key : Key) (j : Nat) : (defaultTrack lay key).sectorIsData j = false := by
  have hfill : ∀ k, (defaultSector lay key k).isData = false := fun _ => rfl
  rw [Track.sectorIsData, defaultTrack]
  dsimp only
  rw [List.getElem?_map]
  cases (List.range lay.sectors)[j]? with
  | none => rfl
  | some k => exact hfill k

theorem defaultTrack_n (lay : Layout) (key : Key) : (defaultTrack lay key).n = lay.sectors := by
  simp [Track.n, defaultTrack]

theorem Store.lookup_none {st : Store} {i : ImageNo} {key : Key} (h : (st.image i).entry key = none) :
    st.lookup i key = defaultTrack (st.image i).layout key := by
  rw [Store.lookup, h]

theorem Store.lookup_some {st : Store} {i : ImageNo} {key : Key} {r : RecNo} (h : (st.image i).entry key = some r) :
    st.lookup i key = (st.record r).track := by
  rw [Store.lookup, h]

/-- An amendment of a window of a stored DATA sector, as its two updates (R58). -/
theorem Store.amend_eq {st : Store} {r : RecNo} {j o : Nat} {bytes : List Byte} {e : SectorEntry}
    (he : (st.record r).track.sectors[j]? = some e) (hdata : e.store = .data) : st.amend r j o bytes =
      { st.setRecord r { st.record r with track := { (st.record r).track with
          sum := ((st.record r).track.sum + 65536 - byteSum ((List.range bytes.length).map fun k =>
            dataRead st.memory (st.record r).track.pages (dataOffset (st.record r).track.sectors j + o + k)) % 65536 +
              byteSum bytes) % 65536 } } with
        memory := dataWriteAll st.memory (st.record r).track.pages (dataOffset (st.record r).track.sectors j + o) bytes } := by
  unfold Store.amend
  dsimp only
  rw [sectorBytes_some he, hdata]
  rfl

/-- Settles O22. -/
theorem sectorAmending : Obligations.SectorAmending := by
  intro s tag image cyl head sector offset length data h hd
  refine ⟨fun hn => exec_refused h rfl (sectorAmend_wellFormed hd) rfl (withSlot_ge hn), fun i hi => ?_⟩
  intro im key entry
  have hexec := exec_sectorAmend (tag := tag) (cyl := cyl) (head := head) (sector := sector) (offset := offset) (length := length)
    h hd hi
  refine ⟨fun h1 => ?_, fun h1 h2 => ?_, fun h1 h2 h3 => ?_, fun h1 h2 h3 h4 => ?_⟩
  · rw [hexec, if_pos h1]
  · rw [hexec, if_neg (not_not.2 h1), if_pos h2]
  · rw [hexec, if_neg (not_not.2 h1), if_neg (not_not.2 h2), if_pos h3]
  · have hin : ¬ ((s.dev.image i).cylinders ≤ cyl.toNat ∨ (s.dev.image i).heads ≤ head.toNat) := by
      rw [not_or]
      exact ⟨Nat.not_le.2 h3, Nat.not_le.2 h4⟩
    rw [if_neg (not_not.2 h1), if_neg (not_not.2 h2), if_neg hin] at hexec
    refine ⟨fun h5 => ?_, fun h5 h6 => ?_, fun h5 h6 h7 => ⟨fun he => ?_, fun r he => ?_⟩⟩
    · rw [hexec, Device.amending_short h5]; rfl
    · rw [hexec, Device.amending_range h5 h6]; rfl
    · have hlook := Store.lookup_none (key := keyOf cyl head) he
      rw [hexec]
      split
      · rename_i hj
        rw [Device.amending_fill h5 h6 h7 (by rw [hlook, defaultTrack_n]; exact hj)
          (by rw [hlook]; exact defaultTrack_sectorIsData ..)]
        rfl
      · rename_i hj
        rw [Device.amending_noSector h5 h6 h7 (by rw [hlook, defaultTrack_n]; exact Nat.le_of_not_lt hj)]
        rfl
    · have hlook : s.dev.store.lookup i (keyOf cyl head) = (s.dev.store.record r).track := Store.lookup_some he
      intro x
      refine ⟨fun hn => ?_, fun e hsec => ⟨fun hf => ?_, fun hf hw => ?_, fun hf hw hp => ?_, fun hf hw hp hpages hm => ?_⟩⟩
      · rw [hexec, Device.amending_noSector h5 h6 h7 (by rw [hlook]; exact hn)]
        rfl
      · have hj : sector.toNat < (s.dev.store.lookup i (keyOf cyl head)).n := by
          rw [hlook]
          by_contra hn
          exact nomatch (Track.n_le_iff.1 (Nat.le_of_not_lt hn)).symm.trans hsec
        have hfill : (s.dev.store.lookup i (keyOf cyl head)).sectorIsData sector.toNat = false := by
          rw [hlook, Track.sectorIsData, hsec]
          simp [SectorEntry.isData, hf]
        rw [hexec, Device.amending_fill h5 h6 h7 hj hfill]
        rfl
      · rw [hexec, Device.amending_stored h5 h6 h7 (by rw [hlook]; exact hsec) hf, checked_false (decide_eq_false (by omega))]
        rfl
      · have hentry : (s.dev.image i).entry (keyOf cyl head) = some r := he
        rw [hexec, Device.amending_stored h5 h6 h7 (by rw [hlook]; exact hsec) hf, checked_true (decide_eq_true hw), hentry]
        exact congrArg (fun z => Host.Outcome.next (s.worked tag 0x26 z)) (checked_false (by rw [Bool.not_eq_false']; exact hp))
      · have hentry : (s.dev.image i).entry (keyOf cyl head) = some r := he
        have hlen : (data.take length.toNat).length = length.toNat := by rw [List.length_take]; omega
        intro a new old sum
        refine ⟨dataWriteAll s.dev.store.memory x.track.pages a new, fun k hk b hb => ?_, fun b hb => ?_, ?_⟩
        · exact memRead_dataWriteAll_at new _ hm (hpages.pages_nodup r) a k b (hlen.symm ▸ hk) hb
        · exact memRead_dataWriteAll_ne new _ hm _ a b fun k hk => hb k (hlen ▸ hk)
        · have hamend := Store.amend_eq (o := offset.toNat) (bytes := data.take length.toNat) hsec hf
          rw [hlen] at hamend
          rw [hexec, Device.amending_stored h5 h6 h7 (by rw [hlook]; exact hsec) hf, checked_true (decide_eq_true hw), hentry]
          refine (congrArg (fun z => Host.Outcome.next (s.worked tag 0x26 z))
            (checked_true (cs := []) (by rw [Bool.not_eq_true']; exact hp))).trans ?_
          rw [hamend, hlook]
          have hself := Store.setRecord_record_self s.dev.store r { x with track := { x.track with sum := sum } }
          change Host.Outcome.next (s.answered _ tag 0x26 .ok (u16 x.track.sum ++
            u16 ((s.dev.store.setRecord r { x with track := { x.track with sum := sum } }).record r).track.sum)) = _
          rw [hself]
          rfl

end Sys2Proof.Machine
end

section
/-! PROOFS. LOT CLOSE, LOT DELETE and LOT CREATE on a ready port (O26, O24). -/

open Sys2Proof Sys2Proof.Machine

namespace Sys2Proof.Machine

section
variable {s : State} {tag : Byte}

/-! ## LOT CLOSE and LOT DELETE -/

theorem LotState.binds_iff (x : LotState) : x.binds = true ↔ ¬ (x = .vacant ∨ x = .closing ∨ x = .closed) := by
  cases x <;> simp [LotState.binds]

theorem exec_lotClose (h : PortReady s.dev) {lot : Byte} {l : LotNo} (hl : lot.toNat = l.val) :
    exec (.lotClose tag lot) s = .next (
      if (s.dev.lot l).state = .vacant ∨ (s.dev.lot l).state = .closing ∨ (s.dev.lot l).state = .closed then
        s.refused tag 0x44 .wrongState
      else if (s.dev.lot l).inFlight = 0 then
        s.answered (((s.dev.unbind (s.dev.lot l).image).setLot l { s.dev.lot l with state := .closed }).notify (noticeLot l))
          tag 0x44 .ok [7, 0]
      else
        s.answered ((s.dev.unbind (s.dev.lot l).image).setLot l { s.dev.lot l with state := .closing })
          tag 0x44 .ok ([6] ++ u8 (s.dev.lot l).inFlight)) := by
  rw [exec_worked h rfl rfl rfl, workLotClose, withSlot_lt l hl]
  refine congrArg Host.Outcome.next (worked_check (LotState.binds_iff _) fun _ => ?_)
  rw [worked_nil, apply_ite (s.worked tag _)]
  rfl

theorem Device.assigned_length (d : Device) (l : LotNo) :
    (d.assigned l).length = (List.finRange 6).countP fun c => (d.chan c).lot == some l :=
  (List.countP_eq_length_filter ..).symm

theorem exec_lotDelete (h : PortReady s.dev) {lot : Byte} {l : LotNo} (hl : lot.toNat = l.val) :
    exec (.lotDelete tag lot) s = .next (
      if (s.dev.lot l).state ≠ .closed then s.refused tag 0x45 .wrongState
      else s.answered ((s.dev.setLot l Lot.vacant).unassign l) tag 0x45 .ok
        (u8 ((List.finRange 6).countP fun c => (s.dev.chan c).lot == some l))) := by
  rw [exec_worked h rfl rfl rfl, workLotDelete, withSlot_lt l hl, Device.assigned_length]
  exact congrArg Host.Outcome.next (worked_check (by simp) fun _ => rfl)

/-! ## LOT CREATE -/

/-- R68, step 6. -/
theorem lotRanges_iff (ps : LotParams) : lotRanges ps = true ↔
    1 ≤ ps.target.toNat ∧ ps.mark.toNat ≤ ps.target.toNat ∧ ps.verify.toNat ≤ 2 ∧ retryLimitOf ps.tail ≤ 7 ∧
      6 ≤ budgetOf ps.tail ∧ budgetOf ps.tail ≤ 64 := by
  have ht := ps.target.isLt
  simp only [lotRanges, within, Bool.and_eq_true, decide_eq_true_eq]
  omega

theorem serialRanges_iff (ps : LotParams) : serialRanges ps = true ↔
    ps.digits.toNat = 0 ∨ (4 ≤ ps.digits.toNat ∧ ps.digits.toNat ≤ 8 ∧ ps.encoding.toNat ≤ 1 ∧
      ps.first.toNat ≤ ps.last.toNat ∧ ps.last.toNat < 10 ^ ps.digits.toNat ∧ ps.reissue.toNat ≤ 1) := by
  simp only [serialRanges, within, Bool.or_eq_true, Bool.and_eq_true, decide_eq_true_eq, beq_iff_eq, Nat.zero_le, true_and,
    and_assoc]

theorem lotWidth_eq (ps : LotParams) : lotWidth ps =
    if ps.digits.toNat = 0 then 0 else if ps.encoding.toNat = 0 then ps.digits.toNat else (ps.digits.toNat + 1) / 2 := by
  unfold lotWidth encodingOf
  split
  · rfl
  · split <;> rfl

/-- R69: the window of a patch site lies in a stored DATA sector of the record its key's entry names. -/
theorem Store.patchSiteOk_iff (st : Store) (i : ImageNo) (site : PatchSite) (w : Nat) : st.patchSiteOk i site w = true ↔
    site.cyl < (st.image i).cylinders ∧ site.head < (st.image i).heads ∧
      ∃ r e, (st.image i).entry ⟨site.cyl, site.head⟩ = some r ∧ (st.record r).track.sectors[site.sector]? = some e ∧
        e.store = .data ∧ site.offset + w ≤ 128 * 2 ^ e.size.val := by
  unfold Store.patchSiteOk Image.hasKey
  simp only [Bool.and_eq_true, decide_eq_true_eq, and_assoc, and_congr_right_iff]
  intro _ _
  cases hr : (st.image i).entry ⟨site.cyl, site.head⟩ with
  | none => simp
  | some r =>
    cases he : (st.record r).track.sectors[site.sector]? with
    | none => simp [Track.sectorIsData, he]
    | some e => cases hs : e.store <;> simp [Track.sectorIsData, Track.sectorSize, he, SectorEntry.isData, hs, sizeBytes]

theorem verifyModeOf_eq (b : Byte) :
    verifyModeOf b = if b.toNat = 0 then .none else if b.toNat = 1 then .crc else .full := by
  unfold verifyModeOf
  split <;> simp_all

/-- R70, where the serial settings are in range. -/
theorem createdLot_eq (ps : LotParams) (i : ImageNo) (h : serialRanges ps = true) : createdLot ps i =
    { state := .ready, image := i, target := ps.target.toNat, good := 0, rejects := 0,
      tally := ⟨0, 0, 0, 0, 0, 0, 0⟩, inFlight := 0, mark := ps.mark.toNat, digits := ps.digits.toNat,
      encoding := if ps.digits.toNat ≠ 0 ∧ ps.encoding.toNat = 1 then .bcd else .ascii,
      first := if ps.digits.toNat = 0 then 0 else ps.first.toNat, last := if ps.digits.toNat = 0 then 0 else ps.last.toNat,
      next := if ps.digits.toNat = 0 then 0 else ps.first.toNat, reissue := [],
      reissueEnable := decide (ps.digits.toNat ≠ 0 ∧ ps.reissue.toNat = 1), void := 0,
      patch := if ps.digits.toNat = 0 then none else some (patchSiteOf ps),
      verify := if ps.verify.toNat = 0 then .none else if ps.verify.toNat = 1 then .crc else .full,
      retryLimit := retryLimitOf ps.tail, budget := budgetOf ps.tail } := by
  unfold createdLot
  rw [← verifyModeOf_eq]
  by_cases hd : ps.digits.toNat = 0
  · simp [hd, Lot.vacant]
  · obtain hz | ⟨-, -, henc, -⟩ := (serialRanges_iff ps).1 h
    · exact absurd hz hd
    have hencoding : encodingOf ps.encoding = if ps.encoding.toNat = 1 then .bcd else .ascii := by
      by_cases he : ps.encoding.toNat = 0
      · simp [encodingOf, he]
      · simp [encodingOf, show ps.encoding.toNat = 1 by omega]
    simp [hd, Lot.vacant, hencoding, Bool.beq_eq_decide_eq]

theorem exec_lotCreate_notVacant (h : PortReady s.dev) {ps : LotParams} {l : LotNo} (hl : ps.lot.toNat = l.val)
    (hv : (s.dev.lot l).state ≠ .vacant) : exec (.lotCreate tag ps) s = .next (s.refused tag 0x40 .wrongState) := by
  rw [exec_worked h rfl rfl rfl, workLotCreate, withSlot_lt l hl, checked_false (by simpa using hv)]
  rfl

theorem exec_lotCreate_noImage (h : PortReady s.dev) {ps : LotParams} {l : LotNo} (hl : ps.lot.toNat = l.val)
    (hv : (s.dev.lot l).state = .vacant) (hn : 8 ≤ ps.image.toNat) :
    exec (.lotCreate tag ps) s = .next (s.refused tag 0x40 .noSuch) := by
  rw [exec_worked h rfl rfl rfl, workLotCreate, withSlot_lt l hl, worked_pass (by simpa using hv), worked_nil, withSlot_ge hn]
  rfl

/-- R68, from step 4 on, in its order of checks. -/
theorem exec_lotCreate (h : PortReady s.dev) {ps : LotParams} {l : LotNo} (hl : ps.lot.toNat = l.val)
    (hv : (s.dev.lot l).state = .vacant) {i : ImageNo} (hi : ps.image.toNat = i.val) :
    exec (.lotCreate tag ps) s = .next (
      if (s.dev.image i).state = .vacant then s.refused tag 0x40 .noSuch
      else if (s.dev.image i).state ≠ .sealed then s.refused tag 0x40 .wrongState
      else if ¬ lotRanges ps = true then s.refused tag 0x40 .badValue
      else if ¬ serialRanges ps = true then s.refused tag 0x40 .badValue
      else if ¬ (ps.digits.toNat = 0 ∨ s.dev.store.patchSiteOk i (patchSiteOf ps) (lotWidth ps) = true) then
        s.refused tag 0x40 .patchSite
      else s.answered ((s.dev.setLot l (createdLot ps i)).bind i) tag 0x40 .ok (u8 (lotWidth ps) ++ u32 (serialCount ps))) := by
  rw [exec_worked h rfl rfl rfl, workLotCreate, withSlot_lt l hl, worked_pass (by simpa using hv), worked_nil, withSlot_lt i hi]
  exact congrArg Host.Outcome.next (worked_check (by simp) fun _ => worked_check (by simp) fun _ =>
    worked_check not_not.symm fun _ => worked_check not_not.symm fun _ => worked_check (by rw [not_not, Bool.or_eq_true, beq_iff_eq]) fun _ => rfl)

end

/-- Settles O26. -/
theorem closingAndDeleting : Obligations.ClosingAndDeleting := by
  intro s tag lot h
  exact ⟨fun hn => ⟨exec_refused h rfl rfl rfl (withSlot_ge hn), exec_refused h rfl rfl rfl (withSlot_ge hn)⟩,
    fun l hl => ⟨exec_lotClose h hl, exec_lotDelete h hl⟩⟩

/-- Settles O24, from R68's checks in their order (`exec_lotCreate`) with each check's meaning written out. -/
theorem lotCreating : Obligations.LotCreating := by
  intro s tag ps h c
  refine ⟨fun hn => exec_refused h rfl rfl rfl (withSlot_ge hn), fun l hl => ⟨exec_lotCreate_notVacant h hl, fun hv =>
    ⟨exec_lotCreate_noImage h hl hv, fun i hi => ?_⟩⟩⟩
  intro im n retry budget w ranges serials site
  have hretry : retryLimitOf ps.tail = retry := by cases ht : ps.tail <;> simp [retry, ht, retryLimitOf]
  have hbudget : budgetOf ps.tail = budget := by cases ht : ps.tail <;> simp [budget, ht, budgetOf]
  have hranges : lotRanges ps = true ↔ ranges := (lotRanges_iff ps).trans (by rw [hretry, hbudget])
  have hserials : serialRanges ps = true ↔ serials := serialRanges_iff ps
  have hwidth : lotWidth ps = w := lotWidth_eq ps
  have hsite : (ps.digits.toNat = 0 ∨ s.dev.store.patchSiteOk i (patchSiteOf ps) (lotWidth ps) = true) ↔ site := by
    rw [Store.patchSiteOk_iff, hwidth]
    exact Iff.rfl
  have hexec := exec_lotCreate (tag := tag) h hl hv hi
  refine ⟨fun hvac => ?_, fun hvac hne => ?_, fun hse hr => ?_, fun hse hr hs => ?_, fun hse hr hs ht => ?_, fun hse hr hs ht => ?_⟩
  · exact hexec.trans (by rw [if_pos hvac])
  · exact hexec.trans (by rw [if_neg hvac, if_pos hne])
  all_goals
    have hnv : ¬ (s.dev.image i).state = .vacant := fun e => nomatch hse.symm.trans e
    rw [if_neg hnv, if_neg (not_not.2 hse)] at hexec
  · exact hexec.trans (by rw [if_pos (mt hranges.1 hr)])
  · exact hexec.trans (by rw [if_neg (not_not.2 (hranges.2 hr)), if_pos (mt hserials.1 hs)])
  · exact hexec.trans (by
      rw [if_neg (not_not.2 (hranges.2 hr)), if_neg (not_not.2 (hserials.2 hs)), if_pos (mt hsite.1 ht)])
  · refine hexec.trans ?_
    rw [if_neg (not_not.2 (hranges.2 hr)), if_neg (not_not.2 (hserials.2 hs)), if_neg (not_not.2 (hsite.2 ht)),
      createdLot_eq ps i (hserials.2 hs), hretry, hbudget, hwidth]
    rfl

end Sys2Proof.Machine
end

section
/-! PROOFS. The admission point (O30). -/

open Sys2Proof Sys2Proof.Machine

namespace Sys2Proof.Machine

section
variable {d : Device} {c : Chan} {l : LotNo}

@[simp] theorem Device.setLot_self (d : Device) (l : LotNo) : d.setLot l (d.lot l) = d :=
  congrArg (fun v => { d with lots := v }) (Vector.set_getElem_self _)

@[simp] theorem Device.setChan_self (d : Device) (c : Chan) : d.setChan c (d.chan c) = d :=
  congrArg (fun v => { d with channels := v }) (Vector.set_getElem_self _)

/-- Two changes of one channel are one change. -/
@[simp] theorem Device.modChan_modChan (d : Device) (c : Chan) (f g : Channel → Channel) :
    (d.modChan c f).modChan c g = d.setChan c (g (f (d.chan c))) := by
  rw [Device.modChan, Device.modChan_chan_self, Device.modChan, Device.setChan_setChan]

/-- A notice and a change of a channel are independent. -/
theorem Device.notify_modChan (d : Device) (n : Nat) (c : Chan) (f : Channel → Channel) :
    (d.notify n).modChan c f = (d.modChan c f).notify n := rfl

/-! ## The admission point (R98, R99) -/

theorem Device.admissionLot_eq_none (h : (d.chan c).state ≠ .loaded ∨ (d.chan c).hold = true ∨ (d.chan c).master = true ∨
    (d.chan c).lot = none) : d.admissionLot c = none := by
  unfold Device.admissionLot
  split
  · rename_i hat
    obtain ⟨hs, hh, hm⟩ := hat
    rcases h with h | h | h | h
    · exact absurd hs h
    · exact nomatch h.symm.trans hh
    · exact nomatch h.symm.trans hm
    · exact h
  · rfl

theorem Device.admissionPoint_none (h : d.admissionLot c = none) : d.admissionPoint c = d := by
  rw [Device.admissionPoint, h]

theorem Device.admissionPoint_some (h : d.admissionLot c = some l) :
    d.admissionPoint c = if (d.chan c).lines.writeProtect then d.protectedReject c l else d.requestAdmission c l := by
  rw [Device.admissionPoint, h]

/-- A PROTECTED reject as one change of the lot and one of the channel (R87). -/
theorem Device.protectedReject_eq (d : Device) (c : Chan) (l : LotNo) :
    d.protectedReject c l = ((d.setLot l (d.lot l).protectedReject).setChan c
      { d.chan c with state := .ejecting, ejectBin := .reject, out := { (d.chan c).out with bin := .reject, eject := true }
                      timers := { (d.chan c).timers with eject := some 3000 }
                      last := some (protectedOutcome l) }).notify (noticeChDone c) := by
  rw [Device.protectedReject, Device.beginEject, Device.notify_modChan, Device.modChan_modChan]
  rfl

/-- A lot that enters EXHAUSTED at a request has its notice set (R79, R89). -/
theorem Device.requestAdmission_exhausted (hs : (d.lot l).state = .running) (h : (d.lot l).admission.2 = .exhausted) :
    d.requestAdmission c l = (d.setLot l (d.lot l).admission.1).notify (noticeLot l) := by
  unfold Device.requestAdmission
  dsimp only
  rw [h]
  exact if_pos hs

/-- A lot that refuses and stays in its state leaves the part as it was (R78, R99). -/
theorem Device.requestAdmission_refused (h : (d.lot l).state ≠ .running ∨ (d.lot l).admission.2 = .full) :
    d.requestAdmission c l = d := by
  obtain ⟨hsame, hgrant, hexh⟩ : (d.lot l).admission.1 = d.lot l ∧ (∀ o, (d.lot l).admission.2 ≠ .granted o) ∧
      ((d.lot l).admission.2 = .exhausted → (d.lot l).state ≠ .running) := by
    rcases (d.lot l).admission_cases with ⟨ha, hr, -⟩ | ⟨ha, hr⟩ | hx
    · rw [ha] at h
      exact h.elim (absurd hr) nofun
    · rw [ha] at h
      exact h.elim (absurd hr) nofun
    · exact hx
  unfold Device.requestAdmission
  dsimp only
  rw [hsame, Device.setLot_self]
  split
  · rename_i o ho
    exact absurd ho (hgrant o)
  · rename_i he
    exact if_neg (hexh he)
  all_goals rfl

end

/-- Settles O30. -/
theorem admissionPoint : Obligations.AdmissionPoint := by
  intro d c ch bump
  refine ⟨fun h => Device.admissionPoint_none (Device.admissionLot_eq_none h), fun l hs hh hm hl => ?_⟩
  have hat : d.admissionPoint c = if (d.chan c).lines.writeProtect then d.protectedReject c l else d.requestAdmission c l :=
    Device.admissionPoint_some ((if_pos ⟨hs, hh, hm⟩).trans hl)
  refine ⟨fun hp => ?_, fun hp => ?_⟩
  · rw [hat, if_pos hp, Device.protectedReject_eq]
    rfl
  · rw [if_neg (Bool.eq_false_iff.1 hp)] at hat
    exact ⟨fun o ho => hat.trans (Device.requestAdmission_granted ho),
      fun hr he => hat.trans (Device.requestAdmission_exhausted hr he),
      fun hr => hat.trans (Device.requestAdmission_refused hr)⟩

end Sys2Proof.Machine
end

section
/-! PROOFS. CAPTURE START, CAPTURE ABORT and the capture end (O46). -/

open Sys2Proof Sys2Proof.Machine

namespace Sys2Proof.Machine

section
variable {s : State} {tag : Byte}

/-! ## CAPTURE START and CAPTURE ABORT (R144, R145, R156) -/

theorem exec_captureStart_noSuch (h : PortReady s.dev) {channel image f l k : Byte} (hn : 6 ≤ channel.toNat ∨ 8 ≤ image.toNat) :
    exec (.captureStart tag channel image f l k) s = .next (s.refused tag 0x60 .noSuch) := by
  refine exec_refused h rfl rfl rfl ?_
  rw [workCaptureStart]
  by_cases hc : 6 ≤ channel.toNat
  · exact withChan_ge hc
  · rw [withChan_lt ⟨channel.toNat, Nat.lt_of_not_le hc⟩ rfl]
    exact withSlot_ge (hn.resolve_left hc)

theorem exec_captureStart (h : PortReady s.dev) {channel image : Byte} (f l k : Byte) {n : Chan} {i : ImageNo}
    (hn : channel.toNat = n.val) (hi : image.toNat = i.val) :
    exec (.captureStart tag channel image f l k) s = .next (
      if s.dev.capture.state = .running then s.refused tag 0x60 .busy
      else if (s.dev.image i).state ≠ .building then s.refused tag 0x60 .wrongState
      else if s.dev.streamOn i = true then s.refused tag 0x60 .busy
      else if (s.dev.chan n).state ≠ .loaded then s.refused tag 0x60 .wrongState
      else if (s.dev.chan n).lot ≠ none then s.refused tag 0x60 .wrongState
      else if l.toNat < f.toNat ∨ (s.dev.image i).cylinders ≤ l.toNat ∨ k.toNat < 1 ∨ 2 < k.toNat ∨
          (s.dev.image i).heads < k.toNat then
        s.refused tag 0x60 .badValue
      else s.answered (s.dev.startCapture n i f.toNat l.toNat k.toNat) tag 0x60 .started []) := by
  rw [exec_worked h rfl rfl rfl, workCaptureStart, withChan_lt n hn, withSlot_lt i hi]
  exact congrArg Host.Outcome.next (worked_check (by simp) fun _ => worked_check (by simp) fun _ => worked_check (by simp) fun _ =>
    worked_check (by simp) fun _ => worked_check (by simp) fun _ => worked_check (by simp [within]; omega) fun _ => rfl)

theorem exec_captureAbort (h : PortReady s.dev) : exec (.captureAbort tag) s = .next (
    if s.dev.capture.state ≠ .running then s.refused tag 0x61 .wrongState
    else s.answered s.dev.abortCapture tag 0x61 .ok s.dev.capture.abortReport) := by
  rw [exec_worked h rfl rfl rfl, workCaptureAbort]
  exact congrArg Host.Outcome.next (worked_check (by simp) fun _ => rfl)

theorem Device.abortCapture_some {d : Device} {c : Chan} (h : d.capture.channel = some c) :
    d.abortCapture = d.captureEnd c .aborted := by
  rw [Device.abortCapture, h]

theorem uKey_eq (o : Option Key) : uKey o = (match o with
    | some key => u8 key.cyl ++ u8 key.head
    | none => [0xFF, 0xFF]) := by
  cases o <;> rfl

end

/-! ## The capture end (R108, R154) -/

section
variable {d : Device} {c : Chan}

/-- A capture that ends with its diskette good leaves the channel LOADED, with the master flag set and so at no admission point. -/
theorem Device.captureChannelEnd_loaded {reason : EndReason} (h : reason = .complete ∨ reason = .aborted ∨ reason = .noSpace) :
    d.captureChannelEnd c reason = d.setChan c { (d.chan c).stopDrive with work := .none, state := .loaded, master := true } := by
  have hloaded : d.captureChannelEnd c reason =
      ((d.modChan c fun ch => { ch.stopDrive with work := .none }).modChan c fun ch => { ch with master := true }).enterLoaded c := by
    rcases h with rfl | rfl | rfl <;> rfl
  rw [hloaded, Device.modChan_modChan, Device.enterLoaded, Device.modChan, Device.setChan_setChan, Device.setChan_chan_self]
  exact Device.admissionPoint_none (Device.admissionLot_eq_none (.inr (.inr (.inl (by rw [Device.setChan_chan_self])))))

theorem Device.captureChannelEnd_mediaLost : d.captureChannelEnd c .mediaLost =
    (d.setChan c { (d.chan c).stopDrive with work := .none, state := .idle, master := false }).evalFeed c := by
  rw [Device.captureChannelEnd]
  dsimp only
  rw [Device.modChan_modChan, Device.enterIdle, Device.modChan, Device.setChan_setChan, Device.setChan_chan_self]

theorem Device.captureChannelEnd_driveFault : d.captureChannelEnd c .driveFault =
    (d.setChan c { (d.chan c).stopDrive with work := .none, state := .fault, master := (d.chan c).media }).notify
      (noticeChAlert c) := by
  rw [Device.captureChannelEnd]
  dsimp only
  rw [Device.modChan_modChan]
  rfl

/-- The context and the image of an ended capture. -/
theorem Device.captureOver_eq {i : ImageNo} (h : d.capture.image = some i) (reason : EndReason) :
    d.captureOver reason = { d.setImage i { d.image i with captureOwner := none } with
      capture := { d.capture with state := .ended, phase := none, endReason := some reason, scanList := [], scanFound := 0
                                  reader := ⟨0, false, none⟩, buffer := [] } } := by
  rw [Device.captureOver, h]
  rfl

end

/-- Settles O46. -/
theorem captures : Obligations.Captures := by
  refine ⟨fun s tag channel image f l k h =>
    ⟨exec_captureStart_noSuch h, fun n i hn hi => ?_, fun hr => ?_, fun n hr hn => ?_⟩, fun d c reason i hi => ?_⟩
  · exact exec_captureStart h f l k hn hi
  · exact (exec_captureAbort h).trans (by rw [if_pos hr])
  · rw [exec_captureAbort h, if_neg (not_not.2 hr), Device.abortCapture_some hn, CaptureContext.abortReport, uKey_eq]
    rfl
  · intro ch off ended
    have hover : d.captureOver reason = ended := Device.captureOver_eq hi reason
    rw [Device.captureEnd_eq, hover]
    refine ⟨fun hr => ?_, fun hr => ?_, fun hr => ?_⟩
    · rw [Device.captureChannelEnd_loaded hr]
      rfl
    · rw [hr, Device.captureChannelEnd_mediaLost]
      rfl
    · rw [hr, Device.captureChannelEnd_driveFault]
      rfl

end Sys2Proof.Machine
end

section
/-! PROOFS. The copy end (O45) and the copy engine's tracks (O39). -/

open Sys2Proof Sys2Proof.Machine

namespace Sys2Proof.Machine

section
variable {d : Device} {c : Chan}

/-! ## The copy end (R105, R139) -/

theorem Device.unpin_eq (d : Device) (i : ImageNo) : d.unpin i =
    if (d.image i).state = .retiring ∧ (d.image i).pins - 1 = 0 then
      ({ d.setImage i { d.image i with pins := (d.image i).pins - 1 } with
        store := (d.setImage i { d.image i with pins := (d.image i).pins - 1 }).store.vacate i }).notify 21
    else d.setImage i { d.image i with pins := (d.image i).pins - 1 } := by
  unfold Device.unpin
  dsimp only
  rw [Device.setImage_image_self]
  rfl

theorem Device.copyClosed_eq (d : Device) (c : Chan) (x : CopyContext) (o : CopyOutcome) (key : Option Key) :
    d.copyClosed c x o key = (((d.accountEnd x.lot o x.serial).unpin x.image).setChan c
      ((d.chan c).copyClosed x o key)).notify (noticeChDone c) := by
  obtain ⟨hacc, -⟩ := d.accountEnd_rest x.lot o x.serial
  obtain ⟨hunpin, -⟩ := (d.accountEnd x.lot o x.serial).unpin_rest x.image
  rw [Device.copyClosed, Device.modChan, hunpin, hacc]

theorem Device.copyClosed_chan (d : Device) (c : Chan) (x : CopyContext) (o : CopyOutcome) (key : Option Key) :
    (d.copyClosed c x o key).chan c = (d.chan c).copyClosed x o key := by
  rw [Device.copyClosed_eq, Device.notify_chan, Device.setChan_chan_self]

/-- The signal of the lot, when one is due at this copy end (R82). -/
def Device.signalAfter (d : Device) (due : Bool) (l : LotNo) : Device := if due then d.signalOpen l else d

theorem Device.copyEnd_mediaLost {x : CopyContext} (hx : (d.chan c).ctx = some x) (key : Option Key) :
    d.copyEnd c (.reject .mediaLost) key =
      (((d.copyClosed c x (.reject .mediaLost) key).setChan c
          { (d.chan c).copyClosed x (.reject .mediaLost) key with state := .idle }).signalAfter
        ((d.lot x.lot).signalAtEnd (.reject .mediaLost) x.serial) x.lot).evalFeed c := by
  rw [← Device.copyClosed_chan]
  unfold Device.copyEnd
  rw [hx]
  rfl

theorem Device.copyEnd_eject {x : CopyContext} (hx : (d.chan c).ctx = some x) {o : CopyOutcome} (ho : o ≠ .reject .mediaLost)
    (key : Option Key) :
    d.copyEnd c o key = ((d.copyClosed c x o key).beginEject c o.bin).signalAfter ((d.lot x.lot).signalAtEnd o x.serial) x.lot := by
  unfold Device.copyEnd
  rw [hx]
  exact if_neg ho

theorem CopyOutcome.bin_eq (o : CopyOutcome) : o.bin = if o = .good then .good else .reject := by
  cases o <;> rfl

theorem Device.beginEject_eq (d : Device) (c : Chan) (bin : Bin) : d.beginEject c bin = d.setChan c
    { d.chan c with state := .ejecting, ejectBin := bin, out := { (d.chan c).out with bin := bin, eject := true }
                    timers := { (d.chan c).timers with eject := some 3000 } } := rfl

end

/-- Settles O45. -/
theorem copyEnding : Obligations.CopyEnding := by
  intro d c o key x hx ch lot im counted noticed unpinned freed ended closed signalled
  have hnoticed : d.accountEnd x.lot o x.serial = noticed := rfl
  have hfreed : (d.accountEnd x.lot o x.serial).unpin x.image = freed := by
    obtain ⟨-, himage, -⟩ := d.accountEnd_rest x.lot o x.serial
    rw [Device.unpin_eq, himage, hnoticed]
  have hclosed : d.copyClosed c x o key = closed := by
    rw [Device.copyClosed_eq, hfreed]
    rfl
  refine ⟨fun ho => ?_, fun ho => ?_⟩
  · subst ho
    rw [Device.copyEnd_mediaLost hx, hclosed]
    rfl
  · rw [Device.copyEnd_eject hx ho, Device.beginEject_eq, Device.copyClosed_chan, hclosed, CopyOutcome.bin_eq]
    rfl

end Sys2Proof.Machine
end

section
/-! PROOFS. The copy engine begins a track and goes on from one (O39). -/

open Sys2Proof Sys2Proof.Machine

namespace Sys2Proof.Machine

section
variable {d : Device} {c : Chan} {x : CopyContext}

/-! ## The key after a key (R121) -/

theorem Image.nextKey_none {im : Image} {k : Key} (hh : im.heads ≤ k.head + 1) (hc : im.cylinders ≤ k.cyl + 1) :
    im.nextKey k = none := by
  rw [Image.nextKey, if_neg (Nat.not_lt.2 hh), if_neg (Nat.not_lt.2 hc)]

theorem Image.nextKey_some {im : Image} {k k' : Key} (h : (k.head + 1 < im.heads ∧ k' = ⟨k.cyl, k.head + 1⟩) ∨
    (im.heads ≤ k.head + 1 ∧ k.cyl + 1 < im.cylinders ∧ k' = ⟨k.cyl + 1, 0⟩)) : im.nextKey k = some k' := by
  rcases h with ⟨hh, rfl⟩ | ⟨hh, hc, rfl⟩
  · rw [Image.nextKey, if_pos hh]
  · rw [Image.nextKey, if_neg (Nat.not_lt.2 hh), if_pos hc]

/-! ## The plan of a track (R122, R123, R44) -/

theorem CopyContext.patchAt_none {key : Key} (h : x.serial = none ∨ x.patch = none ∨
    ∀ site, x.patch = some site → site.cyl ≠ key.cyl ∨ site.head ≠ key.head) : x.patchAt key = none := by
  unfold CopyContext.patchAt
  split
  · rename_i n site hn hs
    rcases h with h | h | h
    · exact nomatch hn.symm.trans h
    · exact nomatch hs.symm.trans h
    · refine if_neg fun he => ?_
      subst he
      exact (h site hs).elim (fun e => e rfl) fun e => e rfl
  · rfl

theorem CopyContext.patchAt_some {key : Key} {n : Nat} {site : PatchSite} (hn : x.serial = some n) (hs : x.patch = some site)
    (hc : site.cyl = key.cyl) (hh : site.head = key.head) :
    x.patchAt key = some ⟨site.sector, site.offset, renderSerial x.encoding x.digits n⟩ := by
  unfold CopyContext.patchAt
  rw [hn, hs]
  exact if_pos (by rw [hc, hh])

theorem expectedSum_eq (m : List Host.Cell) (t : Track) (patch : Option Patch) : expectedSum m t patch =
    (match patch with
      | none => t.sum
      | some p => (t.sum + 65536 - byteSum (sectorBytes m t p.sector p.offset p.bytes.length) % 65536 + byteSum p.bytes) %
          65536) := by
  cases patch <;> rfl

/-! ## Beginning a track (R122, R124) -/

/-- The copy context of a track that has begun, before its plan. -/
def CopyContext.begun (x : CopyContext) (key : Key) : CopyContext :=
  { x with key := some key, attempt := 1, failures := 0, counter := none }

theorem Device.beginTrack_overfull (hx : (d.chan c).ctx = some x) {key : Key}
    (hg : effectiveGap (d.image x.image).rate (d.chan c).period (d.store.lookup x.image key) = none) :
    d.beginTrack c key =
      (d.setChan c { d.chan c with ctx := some (x.begun key) }).copyEnd c (.reject .overfull) (some key) := by
  unfold Device.beginTrack
  rw [hx]
  dsimp only
  rw [hg]
  rfl

theorem Device.beginTrack_planned (hx : (d.chan c).ctx = some x) {key : Key} {g : Nat}
    (hg : effectiveGap (d.image x.image).rate (d.chan c).period (d.store.lookup x.image key) = some g) :
    d.beginTrack c key = d.setChan c ((d.chan c).position
      { x.begun key with plan := some (makePlan d.store.memory (d.store.lookup x.image key) g (x.patchAt key)) } key) := by
  unfold Device.beginTrack
  rw [hx]
  dsimp only
  rw [hg]
  rfl

theorem Channel.position_here {ch : Channel} {key : Key} (h : ch.headCyl = key.cyl) : ch.position x key =
    { ch with ctx := some { x with phase := some .indexWait }, out := { ch.out with head := key.head } } := if_pos h

theorem Channel.position_seek {ch : Channel} {key : Key} (h : ch.headCyl ≠ key.cyl) : ch.position x key =
    { ch with
      ctx := some { x with phase := some .seek }, motion := .seek key.cyl
      headCyl := if ch.headCyl < key.cyl then ch.headCyl + 1 else ch.headCyl - 1
      out := { ch.out with directionIn := decide (ch.headCyl < key.cyl), stepPulses := ch.out.stepPulses + 1 }
      timers := { ch.timers with step := some ch.stepInterval } } := by
  rw [Channel.position, if_neg h, Channel.startSeek, Channel.pulse]
  by_cases hl : ch.headCyl < key.cyl <;> simp [hl]

/-! ## A track done (R134, R135) -/

/-- The copy context of a track that is done. -/
def CopyContext.doneTrack (x : CopyContext) : CopyContext := { x with written := x.written + 1, plan := none, counter := none }

theorem Device.trackDone_last (hx : (d.chan c).ctx = some x) (hn : x.key.bind (d.image x.image).nextKey = none) :
    d.trackDone c = (d.setChan c { d.chan c with ctx := some x.doneTrack }).copyEnd c .good none := by
  unfold Device.trackDone
  rw [hx]
  dsimp only
  rw [hn]
  rfl

theorem Device.trackDone_next (hx : (d.chan c).ctx = some x) {k' : Key}
    (hn : x.key.bind (d.image x.image).nextKey = some k') :
    d.trackDone c =
      if (d.chan c).hold then
        d.setChan c { d.chan c with state := .held, ctx := some { x.doneTrack with phase := none } }
      else (d.setChan c { d.chan c with ctx := some x.doneTrack }).beginTrack c k' := by
  unfold Device.trackDone
  rw [hx]
  dsimp only
  rw [hn]
  dsimp only
  rw [Device.setCtx, Device.modChan_modChan]
  rfl

theorem Device.beginNext_some (hx : (d.chan c).ctx = some x) {k k' : Key} (hk : x.key = some k)
    (hn : (d.image x.image).nextKey k = some k') : d.beginNext c = d.beginTrack c k' := by
  unfold Device.beginNext
  rw [hx]
  dsimp only
  rw [hk]
  dsimp only
  rw [hn]

end

/-- Settles O39. -/
theorem tracks : Obligations.Tracks := by
  refine ⟨fun d c key x hx => ?_, fun d c x k hx hk => ?_⟩
  · intro ch im t begun
    have ht : d.store.lookup x.image key = t := rfl
    refine ⟨fun hg => Device.beginTrack_overfull hx (by rw [ht]; exact hg), fun g hg patch hsome hnone => ?_⟩
    intro plan
    have hpatch : x.patchAt key = patch := by
      by_cases hat : ∃ n site, x.serial = some n ∧ x.patch = some site ∧ site.cyl = key.cyl ∧ site.head = key.head
      · obtain ⟨n, site, hn, hs, hc, hh⟩ := hat
        rw [hsome n site hn hs hc hh]
        exact CopyContext.patchAt_some hn hs hc hh
      · have hno : x.serial = none ∨ x.patch = none ∨
            ∀ site, x.patch = some site → site.cyl ≠ key.cyl ∨ site.head ≠ key.head := by
          by_contra hcon
          simp only [not_or, not_forall, ne_eq, not_not, Option.ne_none_iff_exists'] at hcon
          obtain ⟨⟨n, hn⟩, -, site, hs, hc, hh⟩ := hcon
          exact hat ⟨n, site, hn, hs, hc, hh⟩
        rw [hnone hno]
        exact CopyContext.patchAt_none hno
    have hplan : makePlan d.store.memory (d.store.lookup x.image key) g (x.patchAt key) = plan := by
      rw [ht, hpatch, makePlan, expectedSum_eq]
      rfl
    have hbegin := Device.beginTrack_planned (d := d) (c := c) hx (key := key) (g := g) (by rw [ht]; exact hg)
    rw [hplan] at hbegin
    refine ⟨fun hcyl => hbegin.trans ?_, fun hcyl => hbegin.trans ?_⟩
    · rw [Channel.position_here hcyl]
      rfl
    · rw [Channel.position_seek hcyl]
      rfl
  · intro ch im done following
    have hbind : x.key.bind (d.image x.image).nextKey = (d.image x.image).nextKey k := by rw [hk, Option.bind_some]
    refine ⟨fun hh hc => Device.trackDone_last hx (hbind.trans (Image.nextKey_none hh hc)), fun k' hk' => ?_⟩
    have hnext : (d.image x.image).nextKey k = some k' := Image.nextKey_some hk'
    have hdone := Device.trackDone_next hx (hbind.trans hnext)
    refine ⟨fun hhold => hdone.trans ?_, fun hhold => hdone.trans ?_, Device.beginNext_some hx hk hnext⟩
    · exact if_neg (Bool.eq_false_iff.1 hhold)
    · exact if_pos hhold

end Sys2Proof.Machine
end

section
/-! PROOFS. The pulse that ends a data revolution of a capture (O49). -/

open Sys2Proof Sys2Proof.Machine

namespace Sys2Proof.Machine

/-! ## The verdict of a data revolution (R150) and the record it builds (R151) -/

theorem CaptureContext.readVerdict_eq (x : CaptureContext) : x.readVerdict =
    (match x.reader.fault with
      | some f => some f
      | none =>
        if 0 < x.reader.found ∧ x.reader.dataSeen = false then some .noData
        else if x.reader.found < x.scanList.length then some .idChanged else none) := by
  unfold CaptureContext.readVerdict CaptureReader.closeSlot CaptureReader.note
  by_cases hopen : 0 < x.reader.found ∧ x.reader.dataSeen = false
  · cases hf : x.reader.fault <;> simp only [if_pos hopen, hf]
  · cases hf : x.reader.fault <;> simp only [if_neg hopen, hf]

theorem RevolutionFault.reason_eq (f : RevolutionFault) : f.reason = (match f with
    | .idChanged => .idChanged
    | .noData => .noData
    | .dataCrc => .dataCrc) := by
  cases f <;> rfl

theorem CaptureContext.fail_eq {x : CaptureContext} {k : Key} (hk : x.key = some k) (reason : FailReason) : x.fail reason =
    if x.failed.length < 16 then { x with failed := x.failed ++ [(k, reason)], buffer := [] }
    else { x with overflow := x.overflow + 1, buffer := [] } := by
  rw [CaptureContext.fail, hk]

theorem CaptureContext.sectors_eq (x : CaptureContext) : x.sectors =
    List.zipWith (fun (e : ScanEntry) (b : Mark × List Byte) =>
      SectorEntry.mk e.cyl e.head e.sec ((sizeOfByte e.size).getD 0) b.1
        (match b.2 with
          | [] => .data
          | v :: vs => if (vs.all fun w => w == v) = true then .fill v else .data)) x.scanList x.buffer := by
  refine congrArg (fun f => List.zipWith f x.scanList x.buffer) (funext fun e => funext fun b => ?_)
  unfold captureSector captureStore
  cases b.2 <;> rfl

theorem dataLength_eq (es : List SectorEntry) :
    dataLength es = (es.map fun e => if e.store = .data then 128 * 2 ^ e.size.val else 0).sum := by
  refine congrArg (fun f => (es.map f).sum) (funext fun e => ?_)
  rw [SectorEntry.stored, SectorEntry.isData, sizeBytes]
  exact if_congr beq_iff_eq rfl rfl

/-- A captured sector is stored as DATA unless its bytes are all one value (R151). -/
theorem captureStore_data_iff (bs : List Byte) : captureStore bs = .data ↔ ¬ ∃ v, bs ≠ [] ∧ ∀ w ∈ bs, w = v := by
  cases bs with
  | nil => simp [captureStore]
  | cons v vs =>
    have hall : (∃ u, v :: vs ≠ [] ∧ ∀ w ∈ v :: vs, w = u) ↔ vs.all (· == v) = true := by
      simp only [ne_eq, reduceCtorEq, not_false_eq_true, true_and, List.forall_mem_cons, List.all_eq_true, beq_iff_eq]
      exact ⟨fun ⟨u, hv, h⟩ w hw => (h w hw).trans hv.symm, fun h => ⟨v, rfl, h⟩⟩
    rw [hall]
    change (if vs.all (· == v) then SectorStore.fill v else .data) = .data ↔ _
    by_cases h : vs.all (· == v) = true
    · rw [if_pos h]
      exact iff_of_false nofun (not_not.2 h)
    · rw [if_neg h]
      exact iff_of_true rfl h

theorem CaptureContext.dataBytes_eq (x : CaptureContext) : x.dataBytes =
    (x.buffer.filter fun b => !(decide (∃ v, b.2 ≠ [] ∧ ∀ w ∈ b.2, w = v))).flatMap Prod.snd := by
  refine congrArg (fun p => (x.buffer.filter p).flatMap Prod.snd) (funext fun b => ?_)
  rw [Bool.eq_iff_iff, beq_iff_eq, captureStore_data_iff, Bool.not_eq_true', decide_eq_false_iff_not]

/-! ## The pulse -/

section
variable {d : Device} {c : Chan}

/-- An index pulse in CAPTURING, in the phase READ, is the pulse that ends the data revolution (R150). -/
theorem exec_indexPulse_read {s : State} {l : Lines} {t : Nat} (hs : (s.dev.chan c).state = .capturing)
    (hi : (s.dev.chan c).timers.index.isSome = true) (hp : s.dev.capture.phase = some .read) :
    exec (.indexPulse c l t) s = .next { s with dev := Device.judgeRead (s.dev.setChan c
      { s.dev.chan c with lines := l, timers := { (s.dev.chan c).timers with index := some 400 } }) c } := by
  have hsample : (s.dev.sample c l).chan c = { s.dev.chan c with lines := l } := Device.modChan_chan_self ..
  have hmon : ((s.dev.sample c l).chan c).monitored = true := by rw [hsample]; exact hi
  have hstate : ((s.dev.sample c l).chan c).state = .capturing := by rw [hsample]; exact hs
  have hpulse : (s.dev.sample c l).indexPulse c t = ((s.dev.sample c l).modChan c Channel.restartIndex).capturePulse c := by
    unfold Device.indexPulse Device.pulseTaken
    dsimp only
    rw [if_pos hmon, hstate]
  have hjudge : ((s.dev.sample c l).modChan c Channel.restartIndex).capturePulse c =
      ((s.dev.sample c l).modChan c Channel.restartIndex).judgeRead c := by
    have hphase : ((s.dev.sample c l).modChan c Channel.restartIndex).capture.phase = some .read := hp
    rw [Device.capturePulse, hphase]
  have hchan : (s.dev.sample c l).modChan c Channel.restartIndex = s.dev.setChan c
      { s.dev.chan c with lines := l, timers := { (s.dev.chan c).timers with index := some 400 } } := by
    rw [Device.sample, Device.modChan_modChan]
    rfl
  have hexec : exec (.indexPulse c l t) s = .next { s with dev := (s.dev.sample c l).indexPulse c t } := rfl
  rw [hexec, hpulse, hjudge, hchan]

/-- A faulty data revolution below the fourth is read again (R150). -/
theorem Device.judgeRead_again {f : RevolutionFault} (hf : d.capture.readVerdict = some f) (hr : d.capture.reads < 4) :
    d.judgeRead c = d.setCapture d.capture.beginRead := by
  rw [Device.judgeRead, hf]
  exact if_pos hr

/-- A faulty fourth data revolution fails the key (R152, R153). -/
theorem Device.judgeRead_failed {f : RevolutionFault} (hf : d.capture.readVerdict = some f) (hr : 4 ≤ d.capture.reads) :
    d.judgeRead c = d.keyFailed c f.reason := by
  rw [Device.judgeRead, hf]
  exact if_neg (Nat.not_lt.2 hr)

theorem Device.judgeRead_clean (hf : d.capture.readVerdict = none) : d.judgeRead c = d.installCapture c := by
  rw [Device.judgeRead, hf]

theorem Device.installCapture_noSpace {i : ImageNo} {key : Key} (hi : d.capture.image = some i) (hk : d.capture.key = some key)
    (hc : d.store.claim (pageCount (d.capture.track (d.image i).layout).dataLen) = none) :
    d.installCapture c = d.captureEnd c .noSpace := by
  rw [Device.installCapture, hi, hk]
  dsimp only
  rw [hc]

theorem Device.installCapture_granted {i : ImageNo} {key : Key} (hi : d.capture.image = some i) (hk : d.capture.key = some key)
    {r : RecNo} (hc : d.store.claim (pageCount (d.capture.track (d.image i).layout).dataLen) = some r) :
    d.installCapture c = Device.keySettled { d with
      store := ((d.store.grant r .present i key (d.capture.track (d.image i).layout)
        (pageCount (d.capture.track (d.image i).layout).dataLen)).fillPages r d.capture.dataBytes).install r
      capture := { d.capture with captured := d.capture.captured + 1, buffer := [] } } c := by
  unfold Device.installCapture
  rw [hi, hk]
  dsimp only
  rw [hc]
  rfl

end

/-! ## The bytes of a captured record (R3) -/

theorem dataAddress_page {pages : List Nat} {b a : Nat} (h : dataAddress pages b = some a) :
    ∃ p, pages[b / 2048]? = some p ∧ a = 2048 * p + b % 2048 := by
  rw [dataAddress] at h
  split at h
  · rename_i p hp
    exact ⟨p, hp, (Option.some.inj h).symm⟩
  · exact nomatch h

theorem Store.fillPages_at {st : Store} {r : RecNo} {bytes : List Byte} (hm : Memory.wf st.memory)
    (hn : (st.record r).track.pages.Nodup) {b p : Nat} (hb : b < bytes.length) (hp : (st.record r).track.pages[b / 2048]? = some p) :
    some (memRead (st.fillPages r bytes).memory (2048 * p + b % 2048)) = bytes[b]? :=
  (memRead_dataWriteAll_at bytes st.memory hm hn 0 b _ hb (by rw [Nat.zero_add]; exact dataAddress_of_page hp)).symm

theorem Store.fillPages_ne {st : Store} {r : RecNo} {bytes : List Byte} (hm : Memory.wf st.memory) {a : Nat}
    (ha : ∀ b p, b < bytes.length → (st.record r).track.pages[b / 2048]? = some p → a ≠ 2048 * p + b % 2048) :
    memRead (st.fillPages r bytes).memory a = memRead st.memory a := by
  refine memRead_dataWriteAll_ne bytes st.memory hm (st.record r).track.pages 0 a fun b hb he => ?_
  rw [Nat.zero_add] at he
  obtain ⟨p, hp, hap⟩ := dataAddress_page he
  exact ha b p hb hp hap

/-- Settles O49. -/
theorem captureReads : Obligations.CaptureReads := by
  refine ⟨fun s c l t k i hs hindex hphase hk hi => ?_, fun st r bytes => ?_⟩
  · intro x d after fault
    have hverdict : d.capture.readVerdict = fault := CaptureContext.readVerdict_eq x
    have hexec : exec (.indexPulse c l t) s = .next { s with dev := d.judgeRead c } := exec_indexPulse_read hs hindex hphase
    have hafter : ∀ e, d.judgeRead c = e → after e := fun e he => hexec.trans (by rw [he])
    refine ⟨fun f hf => ⟨fun hr => hafter _ (Device.judgeRead_again (hverdict.trans hf) hr), fun hr => ?_⟩, fun hf => ?_⟩
    · intro reason
      refine hafter _ ((Device.judgeRead_failed (hverdict.trans hf) hr).trans ?_)
      have hfail : d.capture.fail f.reason = _ := CaptureContext.fail_eq hk f.reason
      rw [Device.keyFailed, hfail, RevolutionFault.reason_eq]
      rfl
    · intro es len rec0 stored
      have hes : x.sectors = es := CaptureContext.sectors_eq x
      have hlen : dataLength x.sectors = len := by rw [hes]; exact dataLength_eq es
      have htrack : x.track (s.dev.image i).layout = rec0 := by rw [CaptureContext.track, hlen, hes]
      have hstored : x.dataBytes = stored := CaptureContext.dataBytes_eq x
      have hclean : d.judgeRead c = d.installCapture c := Device.judgeRead_clean (hverdict.trans hf)
      have hclaim : d.store.claim (pageCount (d.capture.track (d.image i).layout).dataLen) = s.dev.store.claim ((len + 2047) / 2048) :=
        congrArg (fun tr : Track => s.dev.store.claim (pageCount tr.dataLen)) htrack
      refine ⟨fun hc => hafter _ (hclean.trans (Device.installCapture_noSpace (d := d) hi hk (hclaim.trans hc))), fun r hc =>
        hafter _ (hclean.trans ((Device.installCapture_granted (d := d) hi hk (hclaim.trans hc)).trans ?_))⟩
      exact congrArg₂ (fun (tr : Track) (bs : List Byte) => Device.keySettled { d with
        store := ((s.dev.store.grant r .present i k tr (pageCount tr.dataLen)).fillPages r bs).install r
        capture := { x with captured := x.captured + 1, buffer := [] } } c) htrack hstored
  · intro pages hm hn _
    exact ⟨fun b p hb hp => Store.fillPages_at hm hn hb hp, fun a ha => Store.fillPages_ne hm ha, rfl, rfl, rfl⟩

end Sys2Proof.Machine
end

section
/-! PROOFS. PROFILE SET, TRACK FILL and TRACK LOAD on a ready port (O23, O20, O19). -/

open Sys2Proof Sys2Proof.Machine

namespace Sys2Proof.Machine

section
variable {s : State} {tag : Byte}

theorem sizeOfByte_getD {b : Byte} (h : b.toNat ≤ 3) : (sizeOfByte b).getD 0 = Fin.ofNat 4 b.toNat := by
  rw [sizeOfByte_of_lt (Nat.lt_succ_of_le h), Option.getD_some]

/-! ## PROFILE SET (R64) -/

theorem profileRanges_iff (ps : ProfileParams) : profileRanges ps = true ↔
    ¬ ((ps.rate.toNat ≠ 250 ∧ ps.rate.toNat ≠ 500) ∨ 3 < ps.size.toNat ∨ ps.gap3.toNat < 8 ∨ ps.interleave.toNat < 1 ∨
      16 < ps.interleave.toNat ∨ 39 < ps.cylSkew.toNat ∨ 39 < ps.headSkew.toNat) := by
  have hg := ps.gap3.isLt
  simp only [profileRanges, within, Bool.and_eq_true, Bool.or_eq_true, beq_iff_eq, decide_eq_true_eq]
  omega

theorem exec_profileSet (h : PortReady s.dev) {ps : ProfileParams} {p : ProfileNo} (hp : ps.profile.toNat = p.val) :
    exec (.profileSet tag ps) s = .next (
      if 40 < ps.sectors.toNat then s.refused tag 0x30 .badValue
      else if ps.sectors.toNat = 0 then s.answered (s.dev.setProfile p Profile.vacant) tag 0x30 .ok []
      else if (ps.rate.toNat ≠ 250 ∧ ps.rate.toNat ≠ 500) ∨ 3 < ps.size.toNat ∨ ps.gap3.toNat < 8 ∨
        ps.interleave.toNat < 1 ∨ 16 < ps.interleave.toNat ∨ 39 < ps.cylSkew.toNat ∨ 39 < ps.headSkew.toNat then
        s.refused tag 0x30 .badValue
      else if (profileOf ps).fits = false then s.refused tag 0x30 .badValue
      else s.answered (s.dev.setProfile p (profileOf ps)) tag 0x30 .ok []) := by
  rw [exec_worked h rfl rfl rfl, workProfileSet, withSlot_lt p hp]
  refine congrArg Host.Outcome.next (worked_check (by simp [within]) fun _ => ?_)
  rw [worked_nil, apply_ite (s.worked tag _)]
  exact if_congr Iff.rfl rfl (worked_check (profileRanges_iff ps) fun _ => worked_check (by simp) fun _ => rfl)

/-- The profile that PROFILE SET defines, its size code in range. -/
theorem profileOf_eq {ps : ProfileParams} (h : ps.size.toNat ≤ 3) : profileOf ps =
    ⟨true, ps.rate.toNat, ⟨ps.sectors.toNat, Fin.ofNat 4 ps.size.toNat, ps.firstSector.toNat, ps.gap3.toNat, ps.fill,
      ps.interleave.toNat, ps.cylSkew.toNat, ps.headSkew.toNat⟩⟩ := by
  rw [profileOf, sizeOfByte_getD h]

end

/-- Settles O23. -/
theorem profileSetting : Obligations.ProfileSetting := by
  intro s tag ps h
  refine ⟨fun hn => exec_refused h rfl rfl rfl (withSlot_ge hn), fun p hp => ?_⟩
  intro n size
  refine (exec_profileSet h hp).trans (congrArg Host.Outcome.next (if_congr Iff.rfl rfl (if_congr Iff.rfl rfl ?_)))
  split
  · rfl
  · rename_i hr
    rw [profileOf_eq (by omega)]
    rfl

section
variable {s : State} {tag : Byte}

/-! ## TRACK FILL (R55) -/

theorem fillRanges_iff (ps : FillParams) : fillRanges ps = true ↔
    ¬ (ps.n.toNat < 1 ∨ 40 < ps.n.toNat ∨ ps.gap3.toNat < 8 ∨ ps.interleave.toNat < 1 ∨ 16 < ps.interleave.toNat ∨
      39 < ps.skew.toNat ∨ 3 < ps.size.toNat) := by
  have hg := ps.gap3.isLt
  simp only [fillRanges, within, Bool.and_eq_true, decide_eq_true_eq]
  omega

theorem exec_trackFill (h : PortReady s.dev) {ps : FillParams} {i : ImageNo} (hi : ps.image.toNat = i.val) :
    exec (.trackFill tag ps) s = .next (
      if (s.dev.image i).state ≠ .building then s.refused tag 0x21 .wrongState
      else if (s.dev.image i).captureOwner ≠ none then s.refused tag 0x21 .busy
      else if (s.dev.image i).cylinders ≤ ps.cyl.toNat ∨ (s.dev.image i).heads ≤ ps.head.toNat then
        s.refused tag 0x21 .badValue
      else if ps.n.toNat < 1 ∨ 40 < ps.n.toNat ∨ ps.gap3.toNat < 8 ∨ ps.interleave.toNat < 1 ∨ 16 < ps.interleave.toNat ∨
        39 < ps.skew.toNat ∨ 3 < ps.size.toNat then s.refused tag 0x21 .badValue
      else if tableFits (s.dev.image i).rate (filledTrack ps).sectors = false then s.refused tag 0x21 .overfull
      else match s.dev.store.claim 0 with
        | none => s.refused tag 0x21 .noSpace
        | some r =>
          s.answered { s.dev with store := (s.dev.store.grant r .present i (keyOf ps.cyl ps.head) (filledTrack ps) 0).install r }
            tag 0x21 .ok (u16 r.val ++ u16 (filledTrack ps).sum)) := by
  rw [exec_worked h rfl rfl rfl, workTrackFill, withSlot_lt i hi]
  refine congrArg Host.Outcome.next (worked_changeChecks (worked_check (fillRanges_iff ps) fun _ =>
    worked_check (by simp) fun _ => ?_))
  rw [worked_nil]
  cases s.dev.store.claim 0 <;> rfl

/-- The track of a TRACK FILL whose size code is in range. -/
theorem filledTrack_eq {ps : FillParams} (h : ps.size.toNat ≤ 3) : filledTrack ps =
    ⟨ps.gap3.toNat, ps.interleave.toNat, ps.skew.toNat % ps.n.toNat,
      (List.range ps.n.toNat).map fun k => ⟨ps.cyl, ps.head, ps.firstSector + BitVec.ofNat 8 k, Fin.ofNat 4 ps.size.toNat,
        .normal, .fill ps.fill⟩,
      0, [], ps.n.toNat * (128 * 2 ^ (Fin.ofNat 4 ps.size.toNat).val) * ps.fill.toNat % 65536⟩ := by
  have hsec : ∀ k, BitVec.ofNat 8 (ps.firstSector.toNat + k) = ps.firstSector + BitVec.ofNat 8 k := fun k => by
    rw [BitVec.ofNat_add, BitVec.ofNat_toNat, BitVec.setWidth_eq]
  rw [filledTrack, sizeOfByte_getD h]
  simp only [hsec]
  rfl

/-- A table whose entries all have one size is tested with n times that size (R36). -/
theorem tableFits_uniform (rate n : Nat) {size : Fin 4} {f : Nat → SectorEntry} (hf : ∀ k, (f k).size = size) :
    tableFits rate ((List.range n).map f) = fitsAtLoad rate n (n * (128 * 2 ^ size.val)) := by
  rw [tableFits, totalSize, List.map_map]
  have hsize : ((fun e : SectorEntry => sizeBytes e.size) ∘ f) = fun _ => sizeBytes size := funext fun k => congrArg sizeBytes (hf k)
  rw [hsize, List.map_const', List.sum_replicate, List.length_map, List.length_range]
  rfl

end

/-- Settles O20. -/
theorem trackFilling : Obligations.TrackFilling := by
  intro s tag ps h
  refine ⟨fun hn => exec_refused h rfl rfl rfl (withSlot_ge hn), fun i hi => ?_⟩
  intro im key n size sum t
  refine (exec_trackFill h hi).trans (congrArg Host.Outcome.next
    (if_congr Iff.rfl rfl (if_congr Iff.rfl rfl (if_congr Iff.rfl rfl ?_))))
  split
  · rfl
  · rename_i hr
    have ht : filledTrack ps = t := filledTrack_eq (by omega)
    rw [ht, tableFits_uniform im.rate n (size := size) fun _ => rfl]
    refine if_congr Iff.rfl rfl ?_
    cases s.dev.store.claim 0 <;> rfl

section
variable {s : State} {tag : Byte}

/-! ## TRACK LOAD (R48 to R50) -/

theorem describes_iff (ps : LoadParams) : describes ps = true ↔
    ¬ (ps.n.toNat < 1 ∨ 40 < ps.n.toNat ∨ ps.gap3.toNat < 8 ∨ ps.interleave.toNat < 1 ∨ 16 < ps.interleave.toNat ∨
      39 < ps.skew.toNat ∨ ∃ e ∈ ps.entries, 3 < e.size.toNat ∨ 3 < e.flags.toNat) := by
  have hg := ps.gap3.isLt
  have hentries : (ps.entries.all rawEntryOk = true) ↔ ¬ ∃ e ∈ ps.entries, 3 < e.size.toNat ∨ 3 < e.flags.toNat := by
    simp only [List.all_eq_true, rawEntryOk, Bool.and_eq_true, decide_eq_true_eq, not_exists, not_and, not_or, Nat.not_lt,
      Nat.lt_succ_iff]
  simp only [describes, within, Bool.and_eq_true, decide_eq_true_eq, hentries]
  by_cases he : ∃ e ∈ ps.entries, 3 < e.size.toNat ∨ 3 < e.flags.toNat
  · simp only [he, not_true_eq_false, and_false, or_true]
  · simp only [he, not_false_eq_true, and_true, or_false]
    omega

/-- What TRACK LOAD does with a description that has passed its checks, sector table `es` (R49, R50). -/
def State.loadClaimed (s : State) (tag : Byte) (ps : LoadParams) (i : ImageNo) (es : List SectorEntry) : State :=
  match s.dev.store.claim (pageCount (dataLength es)) with
  | none => s.refused tag 0x20 .noSpace
  | some r =>
    if dataLength es = 0 then
      s.answered { s.dev with
          store := (s.dev.store.grant r .present i (keyOf ps.cyl ps.head) (describedTrack ps (fillSum es % 65536)) 0).install r }
        tag 0x20 .ok (u16 r.val ++ [0, 0, 0])
    else if s.dev.port.stream ≠ .closed then s.refused tag 0x20 .busy
    else
      s.answered (({ s.dev with
          store := s.dev.store.grant r .loading i (keyOf ps.cyl ps.head) (describedTrack ps 0) (pageCount (dataLength es)) }
        ).openStream (.inbound r (dataLength es))) tag 0x20 .ok (u16 r.val ++ u16 (dataLength es) ++ u8 (pageCount (dataLength es)))

theorem trackLoad_wellFormed {ps : LoadParams}
    (hl : ps.entries.length = (if 1 ≤ ps.n.toNat ∧ ps.n.toNat ≤ 40 then ps.n.toNat else 0)) :
    (Request.trackLoad ps).wellFormed = true := beq_iff_eq.2 hl

theorem exec_trackLoad (h : PortReady s.dev) {ps : LoadParams} {i : ImageNo} (hi : ps.image.toNat = i.val)
    (hl : ps.entries.length = (if 1 ≤ ps.n.toNat ∧ ps.n.toNat ≤ 40 then ps.n.toNat else 0)) :
    exec (.trackLoad tag ps) s = .next (
      if (s.dev.image i).state ≠ .building then s.refused tag 0x20 .wrongState
      else if (s.dev.image i).captureOwner ≠ none then s.refused tag 0x20 .busy
      else if (s.dev.image i).cylinders ≤ ps.cyl.toNat ∨ (s.dev.image i).heads ≤ ps.head.toNat then
        s.refused tag 0x20 .badValue
      else if ps.n.toNat < 1 ∨ 40 < ps.n.toNat ∨ ps.gap3.toNat < 8 ∨ ps.interleave.toNat < 1 ∨ 16 < ps.interleave.toNat ∨
        39 < ps.skew.toNat ∨ (∃ e ∈ ps.entries, 3 < e.size.toNat ∨ 3 < e.flags.toNat) then s.refused tag 0x20 .badValue
      else if tableFits (s.dev.image i).rate (ps.entries.map entryOf) = false then s.refused tag 0x20 .overfull
      else s.loadClaimed tag ps i (ps.entries.map entryOf)) := by
  rw [exec_worked h rfl (trackLoad_wellFormed hl) rfl, workTrackLoad, withSlot_lt i hi]
  refine congrArg Host.Outcome.next (worked_changeChecks (worked_check (describes_iff ps) fun _ =>
    worked_check (by simp) fun _ => ?_))
  rw [worked_nil, State.loadClaimed]
  cases s.dev.store.claim (pageCount (dataLength (ps.entries.map entryOf))) with
  | none => rfl
  | some r =>
    rw [apply_ite (s.worked tag _)]
    exact if_congr Iff.rfl rfl (worked_check (by simp [Device.streamOpen]) fun _ => rfl)

theorem entryOf_eq {e : RawEntry} (h : e.size.toNat ≤ 3) : entryOf e =
    ⟨e.idCyl, e.idHead, e.idSec, Fin.ofNat 4 e.size.toNat, if e.flags.getLsbD 0 then .deleted else .normal,
      if e.flags.getLsbD 1 then .fill e.fill else .data⟩ := by
  rw [entryOf, sizeOfByte_getD h]

end

/-- Settles O19. -/
theorem trackLoading : Obligations.TrackLoading := by
  intro s tag ps h hl
  refine ⟨fun hn => exec_refused h rfl (trackLoad_wellFormed hl) rfl (withSlot_ge hn), fun i hi => ?_⟩
  intro im key es len sum p t
  refine (exec_trackLoad h hi hl).trans (congrArg Host.Outcome.next
    (if_congr Iff.rfl rfl (if_congr Iff.rfl rfl (if_congr Iff.rfl rfl ?_))))
  split
  · rfl
  · rename_i hr
    have hes : ps.entries.map entryOf = es := List.map_congr_left fun e he => entryOf_eq (by
      by_contra hlt
      exact hr (.inr (.inr (.inr (.inr (.inr (.inr ⟨e, he, .inl (Nat.lt_of_not_le hlt)⟩)))))))
    have hn : ps.entries.length = ps.n.toNat := hl.trans (if_pos (by omega))
    have hlen : dataLength es = len := dataLength_eq es
    have hsum : fillSum es % 65536 = sum := rfl
    have htrack : ∀ x, describedTrack ps x = t x := fun x => by rw [describedTrack, hes, hn, hlen]
    rw [hes]
    refine if_congr Iff.rfl rfl ?_
    have hp : pageCount len = p := rfl
    rw [State.loadClaimed, hlen, hsum, htrack, htrack, hp]
    cases s.dev.store.claim p <;> rfl

end Sys2Proof.Machine
end

section
/-! PROOFS. Index pulses under the copy engine (O40). -/

open Sys2Proof Sys2Proof.Machine

namespace Sys2Proof.Machine

section
variable {s : State} {c : Chan} {l : Lines} {t : Nat}

/-! ## A monitored pulse (R101) -/

/-- A channel as a monitored pulse finds it: the lines sampled and the index timer restarted. -/
def Channel.pulsed (ch : Channel) (l : Lines) : Channel :=
  { ch with lines := l, timers := { ch.timers with index := some 400 } }

theorem Device.sample_restartIndex (d : Device) (c : Chan) (l : Lines) :
    (d.sample c l).modChan c Channel.restartIndex = d.setChan c ((d.chan c).pulsed l) := by
  rw [Device.sample, Device.modChan_modChan]
  rfl

theorem exec_indexPulse_monitored (h : (s.dev.chan c).timers.index.isSome = true) :
    exec (.indexPulse c l t) s = .next { s with dev := (s.dev.sample c l).pulseTaken c t } := by
  have hmon : ((s.dev.sample c l).chan c).monitored = true := by rw [Device.sample, Device.modChan_chan_self]; exact h
  have hexec : exec (.indexPulse c l t) s = .next { s with dev := (s.dev.sample c l).indexPulse c t } := rfl
  rw [hexec, Device.indexPulse, if_pos hmon]

/-- A monitored pulse in COPYING goes to the copy engine. -/
theorem exec_indexPulse_copying (hs : (s.dev.chan c).state = .copying) (h : (s.dev.chan c).timers.index.isSome = true) :
    exec (.indexPulse c l t) s = .next { s with dev := (s.dev.setChan c ((s.dev.chan c).pulsed l)).copyPulse c } := by
  have hstate : ((s.dev.sample c l).chan c).state = .copying := by rw [Device.sample, Device.modChan_chan_self]; exact hs
  rw [exec_indexPulse_monitored h, Device.pulseTaken, hstate, Device.sample_restartIndex]

end

/-! ## The copy engine at a pulse, by its phase (R125 to R127, R132, R133) -/

section
variable {d : Device} {c : Chan} {ch : Channel} {x : CopyContext}

theorem Device.setChan_modChan (d : Device) (c : Chan) (ch : Channel) (f : Channel → Channel) :
    (d.setChan c ch).modChan c f = d.setChan c (f ch) := by
  rw [Device.modChan, Device.setChan_chan_self, Device.setChan_setChan]

theorem Device.setChan_setCtx (d : Device) (c : Chan) (ch : Channel) (x : CopyContext) :
    (d.setChan c ch).setCtx c x = d.setChan c { ch with ctx := some x } := d.setChan_modChan c ch _

theorem CopyContext.counted_some {n : Nat} (h : x.counter = some n) : x.counted = n + 1 := by
  rw [CopyContext.counted, h, Option.getD_some]

/-- The budget is reached at this pulse: TIME_LIMIT (R133, step 3). -/
theorem Device.timeLimit_eq (d : Device) (c : Chan) (ch : Channel) {n : Nat} (hn : x.counter = some n) :
    (d.setChan c ch).timeLimit c x =
      (d.setChan c { ch with ctx := some { x with counter := some (n + 1) } }).copyEnd c (.reject .timeLimit) x.key := by
  rw [Device.timeLimit, Device.setChan_setCtx, CopyContext.counted_some hn]

theorem Channel.openWrite_planned (ch : Channel) {p : Plan} (hp : x.plan = some p) (m : List Host.Cell) (count : Nat) :
    ch.openWrite x m count = { ch with
      ctx := some { x with phase := some .write, counter := some count,
                           rewrites := if 1 < x.attempt then x.rewrites + 1 else x.rewrites },
      out := { ch.out with writeGate := true, writeData := writeStream m p } } := by
  rw [Channel.openWrite, hp]

/-- The pulse that ends a write revolution (R127). -/
theorem Device.endWrite_eq (d : Device) (c : Chan) (ch : Channel) (x : CopyContext) : (d.setChan c ch).endWrite c x =
    if x.verify = .none then
      (d.setChan c { ch.closeWrite with ctx := some { x with counter := some x.counted } }).trackDone c
    else if x.budget ≤ x.counted then (d.setChan c ch.closeWrite).timeLimit c x
    else d.setChan c { ch.closeWrite with
      ctx := some { x with counter := some x.counted, phase := some .verify, reader := VerifyReader.start } } := by
  rw [Device.endWrite, Device.setChan_modChan, Device.setChan_setCtx, Device.setChan_setCtx]

variable (hx : ch.ctx = some x)
include hx

theorem Device.copyPulse_seek (hp : x.phase = some .seek) : (d.setChan c ch).copyPulse c = d.setChan c ch := by
  rw [Device.copyPulse, Device.setChan_chan_self, hx]
  dsimp only
  rw [hp]

theorem Device.copyPulse_indexWait (hp : x.phase = some .indexWait) : (d.setChan c ch).copyPulse c =
    if x.attempt = 1 then d.setChan c (ch.openWrite x d.store.memory 0)
    else if x.budget ≤ x.counted then (d.setChan c ch).timeLimit c x
    else d.setChan c (ch.openWrite x d.store.memory x.counted) := by
  rw [Device.copyPulse, Device.setChan_chan_self, hx]
  dsimp only
  rw [hp]
  dsimp only
  rw [Device.setChan_modChan, Device.setChan_modChan, Device.setChan_store]

theorem Device.copyPulse_recal (hp : x.phase = some .recal) : (d.setChan c ch).copyPulse c =
    if x.budget ≤ x.counted then (d.setChan c ch).timeLimit c x
    else d.setChan c { ch with ctx := some { x with counter := some x.counted } } := by
  rw [Device.copyPulse, Device.setChan_chan_self, hx]
  dsimp only
  rw [hp]
  dsimp only
  rw [Device.setChan_setCtx]

theorem Device.copyPulse_write (hp : x.phase = some .write) :
    (d.setChan c ch).copyPulse c = (d.setChan c ch).endWrite c x := by
  rw [Device.copyPulse, Device.setChan_chan_self, hx]
  dsimp only
  rw [hp]

end

/-- Settles O40. -/
theorem writeRevolutions : Obligations.WriteRevolutions := by
  intro s c l t x hs hindex hx ch shut after writing
  have hctx : ch.ctx = some x := hx
  have hafter : ∀ e, (s.dev.setChan c ch).copyPulse c = e → after e :=
    fun e he => (exec_indexPulse_copying hs hindex).trans (congrArg (fun d => Host.Outcome.next { s with dev := d }) he)
  have hopen : ∀ (p : Plan) (count : Nat), x.plan = some p → ch.openWrite x s.dev.store.memory count =
      writing p { x with
        counter := some count, rewrites := if 1 < x.attempt then x.rewrites + 1 else x.rewrites } :=
    fun p count hp => Channel.openWrite_planned ch hp s.dev.store.memory count
  refine ⟨fun hp => hafter _ (Device.copyPulse_seek hctx hp), fun p hp hplan ha => hafter _ ?_, fun n hn => ?_⟩
  · rw [Device.copyPulse_indexWait hctx hp, if_pos ha, hopen p 0 hplan, if_neg (by omega)]
  · intro y late
    have hcount := CopyContext.counted_some hn
    have hlate : (s.dev.setChan c ch).timeLimit c x = late := Device.timeLimit_eq s.dev c ch hn
    refine ⟨fun p hp hplan ha => ?_, fun hp => ?_, fun hp => ?_⟩
    · have hpulse := Device.copyPulse_indexWait (d := s.dev) (c := c) hctx hp
      rw [if_neg (Nat.ne_of_gt ha), hcount, hlate, hopen p _ hplan, if_pos ha] at hpulse
      exact ⟨fun hb => hafter _ (hpulse.trans (if_pos hb)), fun hb => hafter _ (hpulse.trans (if_neg (Nat.not_le.2 hb)))⟩
    · have hpulse := Device.copyPulse_recal (d := s.dev) (c := c) hctx hp
      rw [hcount, hlate] at hpulse
      exact ⟨fun hb => hafter _ (hpulse.trans (if_pos hb)), fun hb => hafter _ (hpulse.trans (if_neg (Nat.not_le.2 hb)))⟩
    · have hpulse := Device.copyPulse_write (d := s.dev) (c := c) hctx hp
      rw [Device.endWrite_eq, hcount, Device.timeLimit_eq s.dev c ch.closeWrite hn] at hpulse
      refine ⟨fun hv => hafter _ (hpulse.trans (if_pos hv)), fun hv hb => hafter _ ?_, fun hv hb => hafter _ ?_⟩
      · rw [hpulse, if_neg hv, if_pos hb]
        rfl
      · rw [hpulse, if_neg hv, if_neg (Nat.not_le.2 hb)]
        rfl

end Sys2Proof.Machine
end

section
/-! PROOFS. The blocks a verify pass reads (O42). -/

open Sys2Proof Sys2Proof.Machine

namespace Sys2Proof.Machine

/-! ## What a verify reader records (R128 to R130) -/

/-- The first fault of a pass stands (R130). -/
def firstFault {α : Type} (f g : Option α) : Option α :=
  match f with
  | none => g
  | some x => some x

theorem firstFault_eq {α : Type} [DecidableEq α] (f g : Option α) : (if f = none then g else f) = firstFault f g := by
  cases f <;> rfl

section
variable (r : VerifyReader) (p : Plan)

theorem VerifyReader.note_eq (kind : VerifyKind) (slot : Nat) :
    r.note kind slot = { r with fault := firstFault r.fault (some (kind, slot)) } := by
  obtain ⟨found, seen, fault, sum⟩ := r
  cases fault <;> rfl

/-- The missing data block that the next ID block or the ending pulse shows (R129). -/
def VerifyReader.missing : Option (VerifyKind × Nat) :=
  if 0 < r.found ∧ r.dataSeen = false then some (.sectorMissing, r.found - 1) else none

theorem VerifyReader.closeSlot_eq : r.closeSlot = { r with fault := firstFault r.fault r.missing } := by
  unfold VerifyReader.closeSlot VerifyReader.missing
  split
  · exact r.note_eq _ _
  · obtain ⟨found, seen, fault, sum⟩ := r
    cases fault <;> rfl

/-- The judgement of an ID block as slot `k`'s (R128). -/
def Plan.judgeId (p : Plan) (k : Nat) (id crcRead : List Byte) : Option (VerifyKind × Nat) :=
  if crcGood idType (id ++ crcRead) = false then some (.idCrc, k)
  else if (p.entry k).map idField = some id then none
  else some (.idMismatch, k)

theorem VerifyReader.idBlock_eq (id crcRead : List Byte) : r.idBlock p id crcRead =
    ⟨r.found + 1, false, firstFault (firstFault r.fault r.missing) (p.judgeId r.found id crcRead), r.readSum⟩ := by
  have hfirst : ∀ f : Option (VerifyKind × Nat), firstFault f none = f := fun f => by cases f <;> rfl
  unfold VerifyReader.idBlock Plan.judgeId
  rw [VerifyReader.closeSlot_eq]
  dsimp only
  by_cases hcrc : crcGood idType (id ++ crcRead) = false
  · rw [if_pos hcrc, if_pos hcrc, VerifyReader.note_eq]
  · rw [if_neg hcrc, if_neg hcrc]
    cases he : p.entry r.found with
    | none => simp [VerifyReader.note_eq]
    | some e =>
      by_cases hid : id = idField e
      · simp [hid, hfirst]
      · simp [hid, VerifyReader.note_eq, Ne.symm hid]

end

theorem idField_eq_iff (e : SectorEntry) (a b n z : Byte) : idField e = [a, b, n, z] ↔
    (e.idCyl, e.idHead, e.idSec, BitVec.ofNat 8 e.size.val) = (a, b, n, z) := by
  simp [idField]

theorem map_idField_eq_iff (o : Option SectorEntry) (a b n z : Byte) : o.map idField = some [a, b, n, z] ↔
    o.map (fun e => (e.idCyl, e.idHead, e.idSec, BitVec.ofNat 8 e.size.val)) = some (a, b, n, z) := by
  cases o with
  | none => simp
  | some e => simp only [Option.map_some, Option.some.injEq, idField_eq_iff]

theorem markType_eq (mark : Mark) : markType mark = if mark = .normal then 0xFB else 0xF8 := by
  cases mark <;> rfl

theorem crcGood_id_iff (a b n z hi lo : Byte) : crcGood idType ([a, b, n, z] ++ [hi, lo]) = false ↔
    crc [0xA1, 0xA1, 0xA1, 0xFE, a, b, n, z, hi, lo] ≠ 0 := beq_eq_false_iff_ne

/-- A data block is good when it is whole and its CRC checks (R129, log 20). -/
theorem blockGood_iff (mark : Mark) (raw : List Byte) (size : Nat) : blockGood mark raw size = true ↔
    size + 2 ≤ raw.length ∧
      crc ([0xA1, 0xA1, 0xA1, if mark = .normal then 0xFB else 0xF8] ++ raw.take (size + 2)) = 0 := by
  rw [blockGood, Bool.and_eq_true, decide_eq_true_eq, crcGood, beq_iff_eq, markBytes, markType_eq]

/-! ## Data blocks (R129) -/

section
variable {r : VerifyReader} {mode : VerifyMode} {m : List Host.Cell} {p : Plan} {mark : Mark} {raw : List Byte}

/-- A data block that belongs to no slot is passed over. -/
theorem VerifyReader.dataBlock_passed (h : r.found = 0 ∨ r.dataSeen = true) : r.dataBlock mode m p mark raw = r := if_pos h

/-- After the first fault, and at a slot that the track does not have, the block is noted and not judged. -/
theorem VerifyReader.dataBlock_unjudged (h0 : 0 < r.found) (hseen : r.dataSeen = false)
    (h : r.fault ≠ none ∨ p.entry (r.found - 1) = none) : r.dataBlock mode m p mark raw = { r with dataSeen := true } := by
  rw [VerifyReader.dataBlock, if_neg (by simp [Nat.ne_of_gt h0, hseen])]
  dsimp only
  split
  · rename_i e hf he
    exact h.elim (fun hne => absurd hf hne) fun hn => nomatch hn.symm.trans he
  · rfl

/-- The judgement of the first data block after an ID block. -/
theorem VerifyReader.dataBlock_judged (h0 : 0 < r.found) (hseen : r.dataSeen = false) {e : SectorEntry} (hf : r.fault = none)
    (he : p.entry (r.found - 1) = some e) : r.dataBlock mode m p mark raw =
      if mark ≠ e.mark then { r with dataSeen := true, fault := some (.idMismatch, r.found - 1) }
      else if blockGood mark raw (sizeBytes e.size) = false then
        { r with dataSeen := true, fault := some (.dataCrc, r.found - 1) }
      else if mode = .full ∧ raw.take (sizeBytes e.size) ≠ writtenField m p.track p.patch (p.slots.getD (r.found - 1) 0) then
        { r with dataSeen := true, fault := some (.dataMismatch, r.found - 1) }
      else if mode = .crc then
        { r with dataSeen := true, readSum := (r.readSum + byteSum (raw.take (sizeBytes e.size))) % 65536 }
      else { r with dataSeen := true } := by
  rw [VerifyReader.dataBlock, if_neg (by simp [Nat.ne_of_gt h0, hseen])]
  dsimp only
  simp only [hf, he, VerifyReader.note_eq, firstFault]

end

/-! ## Blocks under a copy engine (R91) -/

section
variable {s : State} {c : Chan} {x : CopyContext} {p : Plan}

theorem exec_idBlock (a b n z hi lo : Byte) :
    exec (.idBlock c a b n z hi lo) s = .next { s with dev := s.dev.idBlockRead c a b n z [hi, lo] } := rfl

theorem exec_dataBlock (mark : Mark) (raw : List Byte) :
    exec (.dataBlock c mark raw) s = .next { s with dev := s.dev.dataBlockRead c mark raw } := rfl

/-- A channel that neither copies nor captures reads no block. -/
theorem blocks_unread (h1 : (s.dev.chan c).state ≠ .copying) (h2 : (s.dev.chan c).state ≠ .capturing) :
    (∀ a b n z hi lo, exec (.idBlock c a b n z hi lo) s = .next s) ∧ ∀ mark raw, exec (.dataBlock c mark raw) s = .next s := by
  have hid : ∀ a b n z crcRead, s.dev.idBlockRead c a b n z crcRead = s.dev := fun a b n z crcRead => by
    unfold Device.idBlockRead
    split
    · exact absurd ‹_› h1
    · exact absurd ‹_› h2
    all_goals rfl
  have hdata : ∀ mark raw, s.dev.dataBlockRead c mark raw = s.dev := fun mark raw => by
    unfold Device.dataBlockRead
    split
    · exact absurd ‹_› h1
    · exact absurd ‹_› h2
    all_goals rfl
  exact ⟨fun a b n z hi lo => by rw [exec_idBlock, hid], fun mark raw => by rw [exec_dataBlock, hdata]⟩

variable (hs : (s.dev.chan c).state = .copying) (hx : (s.dev.chan c).ctx = some x)
include hs hx

/-- A copy engine outside VERIFY reads no block (R126). -/
theorem blocks_unverified (hp : x.phase ≠ some .verify) :
    (∀ a b n z hi lo, exec (.idBlock c a b n z hi lo) s = .next s) ∧ ∀ mark raw, exec (.dataBlock c mark raw) s = .next s := by
  have hid : ∀ id crcRead, s.dev.copyIdBlock c id crcRead = s.dev := fun id crcRead => by
    rw [Device.copyIdBlock, hx]
    dsimp only
    split
    · contradiction
    · rfl
  have hdata : ∀ mark raw, s.dev.copyDataBlock c mark raw = s.dev := fun mark raw => by
    rw [Device.copyDataBlock, hx]
    dsimp only
    split
    · contradiction
    · rfl
  exact ⟨fun a b n z hi lo => by rw [exec_idBlock, Device.idBlockRead, hs]; dsimp only; rw [hid],
    fun mark raw => by rw [exec_dataBlock, Device.dataBlockRead, hs]; dsimp only; rw [hdata]⟩

variable (hp : x.phase = some .verify) (hplan : x.plan = some p)
include hp hplan

theorem exec_idBlock_verify (a b n z hi lo : Byte) : exec (.idBlock c a b n z hi lo) s = .next { s with
    dev := s.dev.setCtx c { x with reader := x.reader.idBlock p [a, b, n, z] [hi, lo] } } := by
  rw [exec_idBlock, Device.idBlockRead, hs]
  dsimp only
  rw [Device.copyIdBlock, hx]
  dsimp only
  rw [hp, hplan]

theorem exec_dataBlock_verify (mark : Mark) (raw : List Byte) : exec (.dataBlock c mark raw) s = .next { s with
    dev := s.dev.setCtx c { x with reader := x.reader.dataBlock x.verify s.dev.store.memory p mark raw } } := by
  rw [exec_dataBlock, Device.dataBlockRead, hs]
  dsimp only
  rw [Device.copyDataBlock, hx]
  dsimp only
  rw [hp, hplan]

end

/-- Settles O42. -/
theorem verifyBlocks : Obligations.VerifyBlocks := by
  intro s c ch first
  have hfirst : ∀ f g, first f g = firstFault f g := fun f g => firstFault_eq f g
  refine ⟨fun x p hs hx hp hplan => ?_, blocks_unread, fun x hs hx hp => blocks_unverified hs hx hp⟩
  intro r read entry
  refine ⟨fun a b n z hi lo => ?_, fun mark raw h => ?_, fun mark raw h0 hseen => ⟨fun h => ?_, fun e hf he => ?_⟩⟩
  · intro missing judged
    have hjudged : p.judgeId r.found [a, b, n, z] [hi, lo] = judged :=
      if_congr (crcGood_id_iff a b n z hi lo) rfl (if_congr (map_idField_eq_iff _ a b n z) rfl rfl)
    rw [exec_idBlock_verify hs hx hp hplan, VerifyReader.idBlock_eq, hfirst, hfirst, hjudged]
    rfl
  · rw [exec_dataBlock_verify hs hx hp hplan, VerifyReader.dataBlock_passed h]
    have hsame : s.dev.setCtx c x = s.dev := by
      rw [Device.setCtx, Device.modChan, ← hx]
      exact Device.setChan_self s.dev c
    exact congrArg (fun d => Host.Outcome.next { s with dev := d }) hsame
  · rw [exec_dataBlock_verify hs hx hp hplan, VerifyReader.dataBlock_unjudged h0 hseen h]
    rfl
  · intro size bad whole
    have hwhole : blockGood mark raw (sizeBytes e.size) = false ↔ ¬ whole := by
      rw [← Bool.not_eq_true]
      exact not_congr (blockGood_iff mark raw size)
    rw [exec_dataBlock_verify hs hx hp hplan, VerifyReader.dataBlock_judged h0 hseen hf he]
    have hread : ∀ r', Host.Outcome.next { s with dev := s.dev.setCtx c { x with reader := r' } } = read r' := fun _ => rfl
    rw [hread, apply_ite read, apply_ite read, apply_ite read, apply_ite read]
    exact if_congr Iff.rfl rfl (if_congr hwhole rfl rfl)

end Sys2Proof.Machine
end

section
/-! PROOFS. The capture engine's keys and ID scans (O47). -/

open Sys2Proof Sys2Proof.Machine

namespace Sys2Proof.Machine

/-! ## Beginning and settling a key (R147, R152) -/

section
variable {d : Device} {c : Chan}

theorem Channel.startSeek_eq (ch : Channel) (target : Nat) : ch.startSeek target = { ch with
    motion := .seek target, headCyl := if ch.headCyl < target then ch.headCyl + 1 else ch.headCyl - 1
    out := { ch.out with directionIn := decide (ch.headCyl < target), stepPulses := ch.out.stepPulses + 1 }
    timers := { ch.timers with step := some ch.stepInterval } } := by
  rw [Channel.startSeek, Channel.pulse]
  simp only [decide_eq_true_eq]

/-- The capture context at the beginning of a key. -/
def CaptureContext.keyBegun (x : CaptureContext) (key : Key) (phase : CapturePhase) : CaptureContext :=
  { x with key := some key, scans := 0, reads := 0, phase := some phase }

theorem Device.beginKey_here {key : Key} (h : (d.chan c).headCyl = key.cyl) : d.beginKey c key =
    { d.setChan c { d.chan c with out := { (d.chan c).out with head := key.head } } with
      capture := d.capture.keyBegun key .indexWait } := if_pos h

theorem Device.beginKey_seek {key : Key} (h : (d.chan c).headCyl ≠ key.cyl) : d.beginKey c key =
    { d.setChan c ((d.chan c).startSeek key.cyl) with capture := d.capture.keyBegun key .seek } := if_neg h

theorem Device.keySettled_next {k k' : Key} (hk : d.capture.key = some k) (hn : d.capture.nextKey k = some k') :
    d.keySettled c = d.beginKey c k' := by
  rw [Device.keySettled, hk, Option.bind_some, hn]

theorem Device.keySettled_last {k : Key} (hk : d.capture.key = some k) (hn : d.capture.nextKey k = none) :
    d.keySettled c = d.captureEnd c .complete := by
  rw [Device.keySettled, hk, Option.bind_some, hn]

/-- A key that fails is entered in the failed list, or in the overflow, and is settled (R152, R153). -/
theorem Device.keyFailed_eq {k : Key} (hk : d.capture.key = some k) (reason : FailReason) : d.keyFailed c reason =
    Device.keySettled { d with capture :=
      if d.capture.failed.length < 16 then { d.capture with failed := d.capture.failed ++ [(k, reason)], buffer := [] }
      else { d.capture with overflow := d.capture.overflow + 1, buffer := [] } } c := by
  rw [Device.keyFailed, CaptureContext.fail_eq hk]
  rfl

end

theorem CaptureContext.nextKey_eq (x : CaptureContext) (k : Key) : x.nextKey k =
    if k.head + 1 < x.headCount then some ⟨k.cyl, k.head + 1⟩
    else if k.cyl + 1 ≤ x.lastCyl then some ⟨k.cyl + 1, 0⟩ else none := rfl

/-! ## The pulse (R101, R147 to R149) -/

section
variable {s : State} {d : Device} {c : Chan} {l : Lines} {t : Nat}

/-- A monitored pulse in CAPTURING goes to the capture engine. -/
theorem exec_indexPulse_capturing (hs : (s.dev.chan c).state = .capturing) (h : (s.dev.chan c).timers.index.isSome = true) :
    exec (.indexPulse c l t) s = .next { s with dev := (s.dev.setChan c ((s.dev.chan c).pulsed l)).capturePulse c } := by
  have hstate : ((s.dev.sample c l).chan c).state = .capturing := by rw [Device.sample, Device.modChan_chan_self]; exact hs
  rw [exec_indexPulse_monitored h, Device.pulseTaken, hstate, Device.sample_restartIndex]

theorem Device.capturePulse_seek (h : d.capture.phase = some .seek) : d.capturePulse c = d := by
  rw [Device.capturePulse, h]

theorem Device.capturePulse_indexWait (h : d.capture.phase = some .indexWait) :
    d.capturePulse c = d.setCapture d.capture.beginScan := by
  rw [Device.capturePulse, h]

theorem Device.capturePulse_scan (h : d.capture.phase = some .scan) : d.capturePulse c = d.judgeScan c := by
  rw [Device.capturePulse, h]

/-- The sum of the sizes of a scan list whose size bytes are all in range. -/
theorem scanSize_eq {es : List ScanEntry} (h : ¬ ∃ e ∈ es, 3 < e.size.toNat) :
    scanSize es = (es.map fun e => 128 * 2 ^ e.size.toNat).sum := by
  refine congrArg List.sum (List.map_congr_left fun e he => ?_)
  have hlt : e.size.toNat < 4 := by
    by_contra hge
    exact h ⟨e, he, Nat.lt_of_not_le fun hle => hge (Nat.lt_succ_of_le hle)⟩
  rw [sizeOfByte, dif_pos hlt]
  rfl

/-- R149's table: the first case that applies. -/
theorem Device.judgeScan_eq (d : Device) (c : Chan) : d.judgeScan c =
    if 40 < d.capture.scanFound then d.keyFailed c .tooMany
    else if ∃ e ∈ d.capture.scanList, e.crcGood = false then
      if d.capture.scans < 4 then d.setCapture d.capture.beginScan else d.keyFailed c .idCrc
    else if d.capture.scanFound = 0 then (d.setCapture { d.capture with absent := d.capture.absent + 1 }).keySettled c
    else if ∃ e ∈ d.capture.scanList, 3 < e.size.toNat then d.keyFailed c .badSize
    else if fitsAtLoad d.captureRate d.capture.scanList.length
        (d.capture.scanList.map fun e => 128 * 2 ^ e.size.toNat).sum = false then d.keyFailed c .overfull
    else d.setCapture d.capture.beginRead := by
  unfold Device.judgeScan
  dsimp only
  refine if_congr Iff.rfl rfl (if_congr (by simp) rfl (if_congr Iff.rfl rfl ?_))
  by_cases hlarge : ∃ e ∈ d.capture.scanList, 3 < e.size.toNat
  · rw [if_pos hlarge, if_pos (by simpa using hlarge)]
  · rw [if_neg hlarge, if_neg (by simpa using hlarge), scanSize_eq hlarge]

end

/-- Settles O47. -/
theorem captureKeys : Obligations.CaptureKeys := by
  refine ⟨fun d c key => ?_, fun s c l t k hs hindex hk => ?_⟩
  · intro ch x
    refine ⟨fun h => Device.beginKey_here h, fun h => ?_, fun k hk => ?_⟩
    · rw [Device.beginKey_seek h, Channel.startSeek_eq]
      rfl
    · have hnext := d.capture.nextKey_eq k
      refine ⟨fun hh => ?_, fun hh hc => ?_, fun hh hc => ?_⟩
      · exact Device.keySettled_next hk (hnext.trans (if_pos hh))
      · rw [if_neg (Nat.not_lt.2 hh), if_pos hc] at hnext
        exact Device.keySettled_next hk hnext
      · rw [if_neg (Nat.not_lt.2 hh), if_neg (Nat.not_le.2 hc)] at hnext
        exact Device.keySettled_last hk hnext
  · intro x d after scanning failed bad large rate fits
    have hafter : ∀ e, d.capturePulse c = e → after e :=
      fun e he => (exec_indexPulse_capturing hs hindex).trans (congrArg (fun d => Host.Outcome.next { s with dev := d }) he)
    refine ⟨fun hp => hafter _ (Device.capturePulse_seek (d := d) hp),
      fun hp => hafter _ (Device.capturePulse_indexWait (d := d) hp), fun hp => ?_⟩
    have hfailed : ∀ r, d.keyFailed c r = failed r := fun r => Device.keyFailed_eq (d := d) hk r
    have hrate : d.captureRate = rate := rfl
    have hscan : d.capturePulse c =
        if 40 < x.scanFound then failed .tooMany
        else if bad then if x.scans < 4 then scanning else failed .idCrc
        else if x.scanFound = 0 then Device.keySettled { d with capture := { x with absent := x.absent + 1 } } c
        else if large then failed .badSize
        else if fits = false then failed .overfull
        else { d with capture :=
          { x with phase := some .read, reads := x.reads + 1, reader := ⟨0, false, none⟩, buffer := [] } } := by
      rw [Device.capturePulse_scan (d := d) hp, Device.judgeScan_eq, hfailed, hfailed, hfailed, hfailed, hrate]
      rfl
    refine ⟨fun h => hafter _ (hscan.trans (if_pos h)), fun h => ?_⟩
    rw [if_neg (Nat.not_lt.2 h)] at hscan
    refine ⟨fun hb hn => hafter _ ?_, fun hb hn => hafter _ ?_, fun hb => ?_⟩
    · rw [hscan, if_pos hb, if_pos hn]
    · rw [hscan, if_pos hb, if_neg (Nat.not_lt.2 hn)]
    rw [if_neg hb] at hscan
    refine ⟨fun h0 => hafter _ (hscan.trans (if_pos h0)), fun h0 => ?_⟩
    rw [if_neg (Nat.ne_of_gt h0)] at hscan
    refine ⟨fun hl => hafter _ (hscan.trans (if_pos hl)), fun hl hf => hafter _ ?_, fun hl hf => hafter _ ?_⟩
    · rw [hscan, if_neg hl, if_pos hf]
    · rw [hscan, if_neg hl, if_neg ((Bool.not_eq_false _).mpr hf)]

end Sys2Proof.Machine
end

section
/-! PROOFS. The blocks the capture engine reads (O48). -/

open Sys2Proof Sys2Proof.Machine

namespace Sys2Proof.Machine

/-! ## ID and data blocks of a data revolution (R150) -/

section
variable (r : CaptureReader)

theorem CaptureReader.note_eq (f : RevolutionFault) : r.note f = { r with fault := firstFault r.fault (some f) } := by
  obtain ⟨found, seen, fault⟩ := r
  cases fault <;> rfl

/-- The missing data block that the next ID block or the ending pulse shows (R150). -/
def CaptureReader.missing : Option RevolutionFault :=
  if 0 < r.found ∧ r.dataSeen = false then some .noData else none

theorem CaptureReader.closeSlot_eq : r.closeSlot = { r with fault := firstFault r.fault r.missing } := by
  unfold CaptureReader.closeSlot CaptureReader.missing
  split
  · exact r.note_eq _
  · obtain ⟨found, seen, fault⟩ := r
    cases fault <;> rfl

end

section
variable {x : CaptureContext} {mark : Mark} {raw : List Byte}

/-- The judgement of an ID block against the accepted scan list (R150). -/
def CaptureContext.judgeId (x : CaptureContext) (id crcRead : List Byte) : Option RevolutionFault :=
  if crcGood idType (id ++ crcRead) = true ∧ x.scanList[x.reader.found]?.map ScanEntry.id = some id then none
  else some .idChanged

theorem CaptureContext.readIdBlock_eq (x : CaptureContext) (id crcRead : List Byte) : x.readIdBlock id crcRead =
    { x with reader := ⟨x.reader.found + 1, false,
      firstFault (firstFault x.reader.fault x.reader.missing) (x.judgeId id crcRead)⟩ } := by
  have hfirst : ∀ f : Option RevolutionFault, firstFault f none = f := fun f => by cases f <;> rfl
  unfold CaptureContext.readIdBlock CaptureContext.judgeId
  rw [CaptureReader.closeSlot_eq]
  dsimp only
  cases hcrc : crcGood idType (id ++ crcRead) with
  | false => simp [CaptureReader.note_eq]
  | true =>
    cases he : x.scanList[x.reader.found]? with
    | none => simp [CaptureReader.note_eq]
    | some e =>
      by_cases hid : id = e.id
      · simp [hid, hfirst]
      · simp [hid, CaptureReader.note_eq, Ne.symm hid]

theorem map_scanId_eq_iff (o : Option ScanEntry) (a b n z : Byte) : o.map ScanEntry.id = some [a, b, n, z] ↔
    o.map (fun e => (e.cyl, e.head, e.sec, e.size)) = some (a, b, n, z) := by
  cases o <;> simp [ScanEntry.id]

/-- A data block that belongs to no ID block is passed over. -/
theorem CaptureContext.readDataBlock_passed (h : x.reader.found = 0 ∨ x.reader.dataSeen = true) : x.readDataBlock mark raw = x :=
  if_pos h

variable (h0 : 0 < x.reader.found) (hseen : x.reader.dataSeen = false)
include h0 hseen

/-- After the first fault nothing more is kept. -/
theorem CaptureContext.readDataBlock_unkept (h : x.reader.fault ≠ none) :
    x.readDataBlock mark raw = { x with reader := { x.reader with dataSeen := true } } := by
  rw [CaptureContext.readDataBlock, if_neg (by simp [Nat.ne_of_gt h0, hseen])]
  dsimp only
  split
  · exact absurd ‹_› h
  · rfl

/-- The first data block after an ID block is judged over the size of its scan list entry. -/
theorem CaptureContext.readDataBlock_judged {e : ScanEntry} (hf : x.reader.fault = none)
    (he : x.scanList[x.reader.found - 1]? = some e) (hz : e.size.toNat ≤ 3) : x.readDataBlock mark raw =
      if blockGood mark raw (128 * 2 ^ e.size.toNat) = true then { x with
        reader := { x.reader with dataSeen := true }, buffer := x.buffer ++ [(mark, raw.take (128 * 2 ^ e.size.toNat))] }
      else { x with reader := { x.reader with dataSeen := true, fault := some .dataCrc } } := by
  have hsize : sizeOfByte e.size = some ⟨e.size.toNat, Nat.lt_succ_of_le hz⟩ := dif_pos _
  rw [CaptureContext.readDataBlock, if_neg (by simp [Nat.ne_of_gt h0, hseen])]
  dsimp only
  rw [hf, he, Option.bind_some, hsize]
  dsimp only
  rw [CaptureReader.note_eq, sizeBytes]
  cases blockGood mark raw (128 * 2 ^ e.size.toNat) <;> simp [firstFault]

end

/-! ## Blocks under the capture engine (R91, R148, R150) -/

section
variable {s : State} {c : Chan} (hs : (s.dev.chan c).state = .capturing)
include hs

theorem exec_idBlock_capturing (a b n z hi lo : Byte) :
    exec (.idBlock c a b n z hi lo) s = .next { s with dev := s.dev.captureIdBlock a b n z [hi, lo] } := by
  rw [exec_idBlock, Device.idBlockRead, hs]

theorem exec_dataBlock_capturing (mark : Mark) (raw : List Byte) :
    exec (.dataBlock c mark raw) s = .next { s with dev := s.dev.captureDataBlock mark raw } := by
  rw [exec_dataBlock, Device.dataBlockRead, hs]

theorem exec_dataBlock_unread (h : s.dev.capture.phase ≠ some .read) (mark : Mark) (raw : List Byte) :
    exec (.dataBlock c mark raw) s = .next s := by
  have hunread : s.dev.captureDataBlock mark raw = s.dev := by
    unfold Device.captureDataBlock
    split
    · contradiction
    all_goals rfl
  rw [exec_dataBlock_capturing hs, hunread]

theorem exec_idBlock_unread (h1 : s.dev.capture.phase ≠ some .scan) (h2 : s.dev.capture.phase ≠ some .read)
    (a b n z hi lo : Byte) : exec (.idBlock c a b n z hi lo) s = .next s := by
  have hunread : s.dev.captureIdBlock a b n z [hi, lo] = s.dev := by
    unfold Device.captureIdBlock
    split
    · contradiction
    · contradiction
    all_goals rfl
  rw [exec_idBlock_capturing hs, hunread]

theorem exec_idBlock_scan (h : s.dev.capture.phase = some .scan) (a b n z hi lo : Byte) :
    exec (.idBlock c a b n z hi lo) s = .next { s with
      dev := s.dev.setCapture (s.dev.capture.scanBlock ⟨a, b, n, z, crcGood idType ([a, b, n, z] ++ [hi, lo])⟩) } := by
  rw [exec_idBlock_capturing hs, Device.captureIdBlock, h]

theorem exec_idBlock_read (h : s.dev.capture.phase = some .read) (a b n z hi lo : Byte) :
    exec (.idBlock c a b n z hi lo) s = .next { s with
      dev := s.dev.setCapture (s.dev.capture.readIdBlock [a, b, n, z] [hi, lo]) } := by
  rw [exec_idBlock_capturing hs, Device.captureIdBlock, h]

theorem exec_dataBlock_read (h : s.dev.capture.phase = some .read) (mark : Mark) (raw : List Byte) :
    exec (.dataBlock c mark raw) s = .next { s with dev := s.dev.setCapture (s.dev.capture.readDataBlock mark raw) } := by
  rw [exec_dataBlock_capturing hs, Device.captureDataBlock, h]

end

/-- Settles O48. -/
theorem captureBlocks : Obligations.CaptureBlocks := by
  intro s c hs x r after first
  have hfirst : ∀ f g, first f g = firstFault f g := fun f g => firstFault_eq f g
  have hgood : ∀ a b n z hi lo : Byte, crcGood idType ([a, b, n, z] ++ [hi, lo]) = true ↔
      crc [0xA1, 0xA1, 0xA1, 0xFE, a, b, n, z, hi, lo] = 0 := fun _ _ _ _ _ _ => beq_iff_eq
  refine ⟨fun hp => ⟨fun a b n z hi lo => ?_, exec_dataBlock_unread hs fun h => nomatch hp.symm.trans h⟩,
    fun hp => ⟨fun a b n z hi lo => ?_, fun mark raw => ⟨fun h => ?_, fun h0 hseen => ⟨fun hf => ?_, fun e hf he hz => ?_⟩⟩⟩, fun h1 h2 =>
      ⟨exec_idBlock_unread hs h1 h2, exec_dataBlock_unread hs h2⟩⟩
  · have hentry : crcGood idType ([a, b, n, z] ++ [hi, lo]) =
        decide (crc [0xA1, 0xA1, 0xA1, 0xFE, a, b, n, z, hi, lo] = 0) :=
      Bool.eq_iff_iff.2 ((hgood a b n z hi lo).trans decide_eq_true_iff.symm)
    rw [exec_idBlock_scan hs hp, hentry]
    rfl
  · intro missing judged
    have hjudged : x.judgeId [a, b, n, z] [hi, lo] = judged :=
      if_congr (and_congr (hgood a b n z hi lo) (map_scanId_eq_iff _ a b n z)) rfl rfl
    rw [exec_idBlock_read hs hp, CaptureContext.readIdBlock_eq, hfirst, hfirst, hjudged]
    rfl
  · rw [exec_dataBlock_read hs hp, CaptureContext.readDataBlock_passed h]
    rfl
  · rw [exec_dataBlock_read hs hp, CaptureContext.readDataBlock_unkept h0 hseen hf]
    rfl
  · intro size
    rw [exec_dataBlock_read hs hp, CaptureContext.readDataBlock_judged h0 hseen hf he hz]
    have hafter : ∀ y, Host.Outcome.next { s with dev := s.dev.setCapture y } = after y := fun _ => rfl
    rw [hafter, apply_ite after]
    exact if_congr (blockGood_iff mark raw size) rfl rfl

end Sys2Proof.Machine
end

section
/-! PROOFS. The arithmetic of the layout unit: a block's own CRC checks good (R32), and the slot mapping loses no sector (R40). -/

open Sys2Proof Sys2Proof.Machine

namespace Sys2Proof.Machine

/-! ## The CRC of a block with its own CRC (R32) -/

/-- A register whose bits from 8 on are clear takes a bit in without feedback. -/
theorem crcBit_shiftLeft {y : Half} (hy : y.toNat < 2 ^ 8) {k : Nat} (hk : k < 8) : crcBit (y <<< k) = y <<< (k + 1) := by
  have hclear : y.getLsbD (15 - k) = false :=
    Nat.testBit_lt_two_pow (Nat.lt_of_lt_of_le hy (Nat.pow_le_pow_right (by decide) (by omega)))
  have htop : (y <<< k).getLsbD 15 = false := by
    rw [BitVec.getLsbD_shiftLeft, hclear, Bool.and_false]
  rw [crcBit, htop, BitVec.shiftLeft_add]
  rfl

theorem crcBit_iterate {y : Half} (hy : y.toNat < 2 ^ 8) : ∀ {k : Nat}, k ≤ 8 → crcBit^[k] y = y <<< k
  | 0, _ => (BitVec.shiftLeft_zero y).symm
  | k + 1, hk => by
    rw [Function.iterate_succ_apply', crcBit_iterate hy (Nat.le_of_succ_le hk), crcBit_shiftLeft hy hk]

theorem crcByte_of_low {r y : Half} {b : Byte} (hx : r ^^^ (b.setWidth 16 <<< 8) = y) (hy : y.toNat < 2 ^ 8) :
    crcByte r b = y <<< 8 := by
  rw [crcByte, hx]
  exact crcBit_iterate hy (Nat.le_refl 8)

/-- A register takes its own high byte in: its low byte moves up. -/
theorem crcByte_high (r : Half) : crcByte r (r.extractLsb' 8 8) = (r.extractLsb' 0 8).setWidth 16 <<< 8 := by
  refine crcByte_of_low (BitVec.eq_of_getLsbD_eq fun i hi => ?_) ?_
  · by_cases h8 : i < 8
    · simp [h8, hi]
    · have : i - 8 < 8 := by omega
      simp [h8, hi, this, show 8 + (i - 8) = i by omega]
  · rw [BitVec.toNat_setWidth]
    exact Nat.lt_of_le_of_lt (Nat.mod_le _ _) (r.extractLsb' 0 8).isLt

theorem crcByte_low (b : Byte) : crcByte (b.setWidth 16 <<< 8) b = 0 :=
  crcByte_of_low (BitVec.xor_self) (by decide)

/-- The CRC over some bytes and their own CRC is 0000h (R32). -/
theorem crc_append_crcBytes (bs : List Byte) : crc (bs ++ crcBytes (crc bs)) = 0 := by
  rw [crc, List.foldl_append]
  change crcByte (crcByte (crc bs) ((crc bs).extractLsb' 8 8)) ((crc bs).extractLsb' 0 8) = 0
  rw [crcByte_high, crcByte_low]

/-- A field with the CRC that it is written with checks good (R32). -/
theorem crcGood_written (type : Byte) (field : List Byte) :
    crcGood type (field ++ crcBytes (crc (markBytes type ++ field))) = true := by
  rw [crcGood, ← List.append_assoc, crc_append_crcBytes]
  rfl

/-! ## The slot mapping (R40) -/

/-- The probe from a candidate reaches a free slot that lies less than its fuel ahead. -/
theorem probeSlot_free {taken : List (Option Nat)} : ∀ {fuel c ahead : Nat}, c < taken.length → ahead < fuel →
    taken[(c + ahead) % taken.length]? = some none → taken[probeSlot taken fuel c]? = some none
  | fuel + 1, c, ahead, hc, hd, hfree => by
    rw [probeSlot]
    split
    · rename_i j hj
      cases ahead with
      | zero =>
        rw [Nat.add_zero, Nat.mod_eq_of_lt hc, hj] at hfree
        exact nomatch hfree
      | succ ahead =>
        refine probeSlot_free (ahead := ahead) (Nat.mod_lt _ (Nat.zero_lt_of_lt hc)) (Nat.lt_of_succ_lt_succ hd) ?_
        rw [Nat.mod_add_mod, Nat.add_right_comm]
        exact hfree
    · rename_i hnot
      rw [List.getElem?_eq_getElem hc] at hnot ⊢
      cases htaken : taken[c] with
      | none => rfl
      | some j => exact absurd (congrArg some htaken) (hnot j)

/-- A probe of as many moves as there are slots reaches a free slot when there is one. -/
theorem probeSlot_of_mem {taken : List (Option Nat)} (h : none ∈ taken) {c : Nat} (hc : c < taken.length) :
    taken[probeSlot taken taken.length c]? = some none := by
  obtain ⟨k, hk, hfree⟩ := List.mem_iff_getElem.1 h
  refine probeSlot_free (ahead := (k + taken.length - c) % taken.length) hc (Nat.mod_lt _ (Nat.zero_lt_of_lt hc)) ?_
  have hround : (c + (k + taken.length - c) % taken.length) % taken.length = k := by
    rw [Nat.add_mod_mod, show c + (k + taken.length - c) = k + taken.length by omega, Nat.add_mod_right, Nat.mod_eq_of_lt hk]
  rw [hround, List.getElem?_eq_getElem hk, hfree]

theorem filterMap_set_free {taken : List (Option Nat)} (j : Nat) : ∀ {k : Nat}, taken[k]? = some none →
    ((taken.set k (some j)).filterMap id).Perm (j :: taken.filterMap id) := by
  induction taken with
  | nil => exact nofun
  | cons o taken ih =>
    intro k hk
    cases k with
    | zero =>
      obtain rfl : o = none := Option.some.inj hk
      exact .refl _
    | succ k =>
      have hrest := ih (k := k) (by simpa using hk)
      cases o with
      | none => exact hrest
      | some i => exact (hrest.cons i).trans (.swap ..)

theorem placeSector_length (interleave skew : Nat) (taken : List (Option Nat)) (j : Nat) :
    (placeSector interleave skew taken j).length = taken.length := List.length_set

theorem placeSector_perm (interleave skew : Nat) {taken : List (Option Nat)} (h : none ∈ taken) (j : Nat) :
    ((placeSector interleave skew taken j).filterMap id).Perm (j :: taken.filterMap id) :=
  filterMap_set_free j (probeSlot_of_mem h (Nat.mod_lt _ (List.length_pos_of_mem h)))

/-- A slot is free exactly when fewer sectors are placed than there are slots. -/
theorem free_iff_placed_lt {taken : List (Option Nat)} : none ∈ taken ↔ (taken.filterMap id).length < taken.length := by
  rw [List.length_filterMap_lt_length_iff_exists]
  exact ⟨fun h => ⟨none, h, rfl⟩, fun ⟨_, ho, hn⟩ => (show _ = none from hn) ▸ ho⟩

/-- After the first `k` sectors are placed, they stand in `k` slots of their own. -/
theorem placed_perm (n interleave skew : Nat) : ∀ k, k ≤ n →
    ((List.range k).foldl (placeSector interleave skew) (List.replicate n none)).length = n ∧
      (((List.range k).foldl (placeSector interleave skew) (List.replicate n none)).filterMap id).Perm (List.range k)
  | 0, _ => by simp
  | k + 1, hk => by
    obtain ⟨hlen, hperm⟩ := placed_perm n interleave skew k (Nat.le_of_succ_le hk)
    rw [List.range_succ, List.foldl_append]
    have hfree := free_iff_placed_lt.2 (by rw [hlen, hperm.length_eq, List.length_range]; exact hk)
    exact ⟨(placeSector_length ..).trans hlen, (placeSector_perm interleave skew hfree k).trans
      ((hperm.cons k).trans (List.perm_append_singleton k _).symm)⟩

theorem map_getD_of_full {taken : List (Option Nat)} (h : none ∉ taken) : taken.map (·.getD 0) = taken.filterMap id := by
  induction taken with
  | nil => rfl
  | cons o taken ih =>
    obtain ⟨ho, hrest⟩ := not_or.1 (mt List.mem_cons.2 h)
    cases o with
    | none => exact absurd rfl ho
    | some j => exact congrArg (j :: ·) (ih hrest)

/-- The slot mapping is a permutation of the logical sectors (R40). -/
theorem slotMap_perm (n interleave skew : Nat) : (slotMap n interleave skew).Perm (List.range n) := by
  obtain ⟨hlen, hperm⟩ := placed_perm n (effectiveInterleave interleave n) skew n (Nat.le_refl n)
  rw [slotMap, map_getD_of_full]
  · exact hperm
  · intro hfree
    have hlt := free_iff_placed_lt.1 hfree
    rw [hperm.length_eq, List.length_range, hlen] at hlt
    exact Nat.lt_irrefl n hlt

end Sys2Proof.Machine
end

section
/-! PROOFS. A track read back intact passes its verify (O44): the fields as written and their sums, the reader's state after each slot,
and the blocks that the reader's search finds in the written stream. -/

open Sys2Proof Sys2Proof.Machine

namespace Sys2Proof.Machine

/-! ## The fields as written (R3, R43) -/

/-- The patch, if there is one, lies in a DATA sector of the track (R69). -/
def Track.HoldsPatch (t : Track) (patch : Option Patch) : Prop :=
  ∀ q, patch = some q → ∃ e, t.sectors[q.sector]? = some e ∧ e.store = .data ∧ q.offset + q.bytes.length ≤ sizeBytes e.size

section
variable {m : List Host.Cell} {t : Track} {patch : Option Patch} {j : Nat} {e : SectorEntry}

theorem sectorField_some (he : t.sectors[j]? = some e) : sectorField m t j = sectorBytes m t j 0 (sizeBytes e.size) := by
  rw [sectorField, he]

theorem sectorField_length (he : t.sectors[j]? = some e) : (sectorField m t j).length = sizeBytes e.size := by
  rw [sectorField_some he, sectorBytes_some he]
  cases e.store <;> simp

theorem writtenField_patched {q : Patch} (h : q.sector = j) : writtenField m t (some q) j =
    (sectorField m t j).take q.offset ++ q.bytes ++ (sectorField m t j).drop (q.offset + q.bytes.length) := if_pos h

theorem writtenField_unpatched {q : Patch} (h : q.sector ≠ j) : writtenField m t (some q) j = sectorField m t j := if_neg h

theorem writtenField_length (hpatch : t.HoldsPatch patch) (he : t.sectors[j]? = some e) :
    (writtenField m t patch j).length = sizeBytes e.size := by
  have hfield := sectorField_length (m := m) he
  cases patch with
  | none => exact hfield
  | some q =>
    by_cases hj : q.sector = j
    · obtain ⟨e', he', -, hfit⟩ := hpatch q rfl
      obtain rfl : e' = e := Option.some.inj (he'.symm.trans (hj ▸ he))
      rw [writtenField_patched hj]
      simp only [List.length_append, List.length_take, List.length_drop, hfield]
      omega
    · rw [writtenField_unpatched hj, hfield]

/-- A window of a stored sector is a part of its field. -/
theorem sectorBytes_window (he : t.sectors[j]? = some e) (hdata : e.store = .data) {o l : Nat} (hfit : o + l ≤ sizeBytes e.size) :
    sectorBytes m t j o l = ((sectorField m t j).drop o).take l := by
  rw [sectorField_some he, sectorBytes_some he, sectorBytes_some he, hdata]
  dsimp only
  refine List.ext_getElem (by simp; omega) fun i h1 h2 => ?_
  simp [Nat.add_assoc]

end

/-! ## Sums of fields (R42, R44) -/

theorem byteSum_append (as bs : List Byte) : byteSum (as ++ bs) = byteSum as + byteSum bs := by
  rw [byteSum, List.map_append, List.sum_append]
  rfl

theorem byteSum_perm {as bs : List Byte} (h : as.Perm bs) : byteSum as = byteSum bs := (h.map _).sum_eq

/-- A window replaced by as many bytes changes the sum by what the two differ. -/
theorem byteSum_splice (field bytes : List Byte) (o : Nat) :
    byteSum (field.take o ++ bytes ++ field.drop (o + bytes.length)) + byteSum ((field.drop o).take bytes.length) =
      byteSum field + byteSum bytes := by
  have hsplit : byteSum field =
      byteSum (field.take o) + (byteSum ((field.drop o).take bytes.length) + byteSum (field.drop (o + bytes.length))) := by
    rw [← List.drop_drop, ← byteSum_append, List.take_append_drop, ← byteSum_append, List.take_append_drop]
  rw [byteSum_append, byteSum_append, hsplit]
  omega

/-- The bytes of all sectors as written, in any order that loses none, against the stored bytes. -/
theorem byteSum_written {m : List Host.Cell} {t : Track} {q : Patch} (hpatch : t.HoldsPatch (some q)) {slots : List Nat}
    (hslots : slots.Perm (List.range t.n)) :
    byteSum (slots.flatMap (writtenField m t (some q))) + byteSum (sectorBytes m t q.sector q.offset q.bytes.length) =
      byteSum ((List.range t.n).flatMap (sectorField m t)) + byteSum q.bytes := by
  obtain ⟨e, he, hdata, hfit⟩ := hpatch q rfl
  have hmem : q.sector ∈ List.range t.n := List.mem_range.2 (List.getElem?_eq_some_iff.1 he).1
  have hfirst := List.perm_cons_erase hmem
  have hrest : ((List.range t.n).erase q.sector).flatMap (writtenField m t (some q)) =
      ((List.range t.n).erase q.sector).flatMap (sectorField m t) := by
    refine List.flatMap_congr fun j hj => writtenField_unpatched fun e => ?_
    exact (List.nodup_range.mem_erase_iff.1 hj).1 e.symm
  have hsplice := byteSum_splice (sectorField m t q.sector) q.bytes q.offset
  rw [← writtenField_patched rfl, ← sectorBytes_window he hdata hfit] at hsplice
  rw [byteSum_perm ((hslots.trans hfirst).flatMap_right _), byteSum_perm (hfirst.flatMap_right (sectorField m t)),
    List.flatMap_cons, List.flatMap_cons, hrest, byteSum_append, byteSum_append]
  omega

/-- The expected sum is the sum of the bytes as written (R44). -/
theorem expectedSum_written {m : List Host.Cell} {t : Track} {patch : Option Patch} (hpatch : t.HoldsPatch patch)
    (hsum : t.sum = byteSum ((List.range t.n).flatMap (sectorField m t)) % 65536) {slots : List Nat}
    (hslots : slots.Perm (List.range t.n)) :
    byteSum (slots.flatMap (writtenField m t patch)) % 65536 = expectedSum m t patch := by
  cases patch with
  | none => exact (congrArg (· % 65536) (byteSum_perm (hslots.flatMap_right _))).trans hsum.symm
  | some q =>
    have hwritten := byteSum_written (m := m) hpatch hslots
    rw [expectedSum_eq, hsum]
    dsimp only
    omega

/-! ## The reader slot by slot (R128, R129) -/

/-- A block under the verify pass. -/
def VerifyReader.hear (mode : VerifyMode) (m : List Host.Cell) (p : Plan) (r : VerifyReader) : Block → VerifyReader
  | .id a b n z hi lo => r.idBlock p [a, b, n, z] [hi, lo]
  | .data mark raw => r.dataBlock mode m p mark raw

/-- The ID block of a slot as it is written (R30, R32). -/
def SectorEntry.idBlock (e : SectorEntry) : Block :=
  .id e.idCyl e.idHead e.idSec (BitVec.ofNat 8 e.size.val) ((crc (markBytes idType ++ idField e)).extractLsb' 8 8)
    ((crc (markBytes idType ++ idField e)).extractLsb' 0 8)

/-- The field and CRC of a slot's data block as they are written (R30, R32). -/
def SectorEntry.fieldAndCrc (e : SectorEntry) (field : List Byte) : List Byte :=
  field ++ crcBytes (crc (markBytes (markType e.mark) ++ field))

/-- The reader after it has read the slots of the sectors `done` intact. -/
def VerifyReader.intact (mode : VerifyMode) (m : List Host.Cell) (t : Track) (patch : Option Patch) (done : List Nat) :
    VerifyReader :=
  ⟨done.length, !done.isEmpty, none, if mode = .crc then byteSum (done.flatMap (writtenField m t patch)) % 65536 else 0⟩

section
variable {mode : VerifyMode} {m : List Host.Cell} {t : Track} {g : Nat} {patch : Option Patch} {done rest : List Nat} {j : Nat}
  {e : SectorEntry}

theorem VerifyReader.intact_missing : (VerifyReader.intact mode m t patch done).missing = none := by
  cases done <;> rfl

/-- The block is judged by its first S + 2 bytes; what stands after them changes nothing (R33). -/
theorem blockGood_written {field : List Byte} {s : Nat} (hlen : field.length = s) (extra : List Byte) :
    blockGood e.mark (e.fieldAndCrc field ++ extra) s = true := by
  have hwhole : (e.fieldAndCrc field).length = s + 2 := by rw [SectorEntry.fieldAndCrc, List.length_append, hlen]; rfl
  rw [blockGood, Bool.and_eq_true, List.take_left' hwhole]
  exact ⟨decide_eq_true (by rw [List.length_append, hwhole]; omega), crcGood_written _ field⟩

theorem fieldAndCrc_take {field : List Byte} {s : Nat} (hlen : field.length = s) (extra : List Byte) :
    (e.fieldAndCrc field ++ extra).take s = field := by
  rw [SectorEntry.fieldAndCrc, List.append_assoc, List.take_left' hlen]

variable (hslots : t.slotMap = done ++ j :: rest) (he : t.sectors[j]? = some e)
include hslots he

theorem Plan.entry_slot : (makePlan m t g patch).entry done.length = some e := by
  change t.slotMap[done.length]?.bind (fun j => t.sectors[j]?) = some e
  rw [hslots, List.getElem?_append_right (Nat.le_refl _), Nat.sub_self]
  exact he

/-- The ID block of the next slot, as it was written, shows no fault. -/
theorem VerifyReader.hear_idBlock :
    (VerifyReader.intact mode m t patch done).hear mode m (makePlan m t g patch) e.idBlock =
      { VerifyReader.intact mode m t patch done with found := done.length + 1, dataSeen := false } := by
  have hjudged : (makePlan m t g patch).judgeId done.length (idField e) (crcBytes (crc (markBytes idType ++ idField e))) =
      none := by
    have hgood := crcGood_written idType (idField e)
    rw [Plan.judgeId, if_neg ((Bool.not_eq_false _).mpr hgood), Plan.entry_slot hslots he]
    exact if_pos rfl
  refine (VerifyReader.idBlock_eq _ _ (idField e) (crcBytes (crc (markBytes idType ++ idField e)))).trans ?_
  rw [VerifyReader.intact_missing]
  exact congrArg (fun f => VerifyReader.mk (done.length + 1) false (firstFault none f) _) hjudged

/-- The next slot, as it was written, shows no fault, whatever the data block's bytes are followed by. -/
theorem VerifyReader.hear_slot (hpatch : t.HoldsPatch patch) (extra : List Byte) :
    ((VerifyReader.intact mode m t patch done).hear mode m (makePlan m t g patch) e.idBlock).hear mode m (makePlan m t g patch)
        (.data e.mark (e.fieldAndCrc (writtenField m t patch j) ++ extra)) =
      VerifyReader.intact mode m t patch (done ++ [j]) := by
  have hlen := writtenField_length (m := m) hpatch he
  have hslot : (makePlan m t g patch).slots.getD done.length 0 = j := by
    change t.slotMap.getD done.length 0 = j
    rw [hslots, List.getD_append_right _ _ _ _ (Nat.le_refl _), Nat.sub_self]
    rfl
  rw [VerifyReader.hear_idBlock hslots he]
  refine (VerifyReader.dataBlock_judged (Nat.succ_pos _) rfl rfl (Plan.entry_slot hslots he)).trans ?_
  rw [if_neg (not_not.2 rfl), if_neg ((Bool.not_eq_false _).mpr (blockGood_written hlen extra)), fieldAndCrc_take hlen,
    if_neg fun h => h.2 (congrArg (writtenField m t patch) hslot.symm)]
  cases mode <;> simp [VerifyReader.intact, byteSum_append]

end

section
variable {mode : VerifyMode} {m : List Host.Cell} {t : Track} {g : Nat} {patch : Option Patch}

/-- A pass that has read every slot intact has no fault (R129, R130). -/
theorem VerifyReader.intact_verdict (hpatch : t.HoldsPatch patch)
    (hsum : t.sum = byteSum ((List.range t.n).flatMap (sectorField m t)) % 65536) :
    (VerifyReader.intact mode m t patch t.slotMap).verdict mode (makePlan m t g patch) = none := by
  have hslots : t.slotMap.Perm (List.range t.n) := slotMap_perm _ _ _
  have hfound : t.slotMap.length = t.n := by rw [hslots.length_eq, List.length_range]
  have hread := expectedSum_written hpatch hsum hslots
  rw [VerifyReader.verdict, VerifyReader.closeSlot_eq, VerifyReader.intact_missing]
  change (if t.slotMap.length < t.n then _ else if mode = .crc ∧ (VerifyReader.intact mode m t patch t.slotMap).readSum ≠
    expectedSum m t patch then _ else none) = none
  rw [if_neg (Nat.not_lt.2 (Nat.le_of_eq hfound.symm)), if_neg]
  rintro ⟨hmode, hne⟩
  exact hne ((if_pos hmode).trans hread)

theorem Track.sector_of_slot {done rest : List Nat} {j : Nat} (hslots : t.slotMap = done ++ j :: rest) :
    ∃ e, t.sectors[j]? = some e := by
  have hmem : j ∈ t.slotMap := by rw [hslots]; simp
  have hj : j < t.n := List.mem_range.1 ((slotMap_perm _ _ _).mem_iff.1 hmem)
  exact ⟨t.sectors[j], List.getElem?_eq_getElem hj⟩

/-- The slot of a sector under the verify pass, as it was written. -/
def VerifyReader.readSlot (mode : VerifyMode) (m : List Host.Cell) (p : Plan) (r : VerifyReader) (j : Nat) : VerifyReader :=
  match p.track.sectors[j]? with
  | none => r
  | some e => (r.hear mode m p e.idBlock).hear mode m p (.data e.mark (e.fieldAndCrc (writtenField m p.track p.patch j)))

theorem VerifyReader.readSlots (hpatch : t.HoldsPatch patch) : ∀ (rest done : List Nat), t.slotMap = done ++ rest →
    rest.foldl (VerifyReader.readSlot mode m (makePlan m t g patch)) (VerifyReader.intact mode m t patch done) =
      VerifyReader.intact mode m t patch t.slotMap
  | [], done, h => by rw [h, List.append_nil]; rfl
  | j :: rest, done, h => by
    obtain ⟨e, he⟩ := Track.sector_of_slot h
    have hread : VerifyReader.readSlot mode m (makePlan m t g patch) (VerifyReader.intact mode m t patch done) j =
        VerifyReader.intact mode m t patch (done ++ [j]) := by
      have hslot := VerifyReader.hear_slot (mode := mode) (m := m) (g := g) h he hpatch []
      rw [List.append_nil] at hslot
      have htrack : (makePlan m t g patch).track.sectors[j]? = some e := he
      rw [VerifyReader.readSlot, htrack]
      exact hslot
    rw [List.foldl_cons, hread]
    exact VerifyReader.readSlots hpatch rest (done ++ [j]) (by rw [h, List.append_assoc]; rfl)

end

/-! ## The reader's search on a written track (R29, R30, R33) -/

theorem readTrack_byteRun (bs : List Byte) (rest : List Sym) : readTrack 0 (byteRun bs ++ rest) = readTrack 0 rest := by
  induction bs with
  | nil => rfl
  | cons b bs ih => exact ih

theorem bytesToMark_byteRun (bs : List Byte) (rest : List Sym) : bytesToMark (byteRun bs ++ rest) = bs ++ bytesToMark rest := by
  induction bs with
  | nil => rfl
  | cons b bs ih => exact congrArg (b :: ·) ih

/-- A type byte that opens a block after its mark. -/
theorem readTrack_markRun {type : Byte} {rest : List Sym} {x : Block} (h : openedBlock type rest = some x) :
    readTrack 0 (markRun 0xA1 type ++ rest) = x :: readTrack 0 rest := by
  change (match openedBlock type rest with
    | none => readTrack 0 rest
    | some x => x :: readTrack 0 rest) = _
  rw [h]

/-- The index mark opens no block. -/
theorem readTrack_leadIn (rest : List Sym) : readTrack 0 (leadIn ++ rest) = readTrack 0 rest := by
  rw [leadIn, List.append_assoc, readTrack_byteRun]
  rfl

theorem openedBlock_id (e : SectorEntry) (rest : List Sym) :
    openedBlock idType (byteRun (idField e) ++ (byteRun (crcBytes (crc (markBytes idType ++ idField e))) ++ rest)) =
      some e.idBlock := by
  rw [openedBlock, if_pos rfl, bytesToMark_byteRun, bytesToMark_byteRun]
  rfl

theorem openedBlock_data (mark : Mark) (rest : List Sym) :
    openedBlock (markType mark) rest = some (.data mark (bytesToMark rest)) := by
  cases mark <;> rfl

/-- A slot holds its ID block and its data block; the bytes up to the next mark follow the latter. -/
theorem readTrack_slotRun (e : SectorEntry) (field : List Byte) (g : Nat) (rest : List Sym) :
    ∃ extra, readTrack 0 (slotRun e field g ++ rest) =
      e.idBlock :: .data e.mark (e.fieldAndCrc field ++ extra) :: readTrack 0 rest := by
  refine ⟨List.replicate g 0x4E ++ bytesToMark rest, ?_⟩
  simp only [slotRun, List.append_assoc]
  rw [readTrack_byteRun, readTrack_markRun (openedBlock_id e _)]
  rw [readTrack_byteRun, readTrack_byteRun, readTrack_byteRun, readTrack_byteRun, readTrack_markRun (openedBlock_data e.mark _)]
  rw [readTrack_byteRun, readTrack_byteRun, readTrack_byteRun, bytesToMark_byteRun, bytesToMark_byteRun, bytesToMark_byteRun,
    SectorEntry.fieldAndCrc, List.append_assoc]

section
variable {mode : VerifyMode} {m : List Host.Cell} {t : Track} {g : Nat} {patch : Option Patch}

theorem VerifyReader.hearSlots (hpatch : t.HoldsPatch patch) (tail : List Byte) :
    ∀ (rest done : List Nat), t.slotMap = done ++ rest →
    (readTrack 0 (rest.flatMap (planSlot m (makePlan m t g patch)) ++ byteRun tail)).foldl
        (VerifyReader.hear mode m (makePlan m t g patch)) (VerifyReader.intact mode m t patch done) =
      VerifyReader.intact mode m t patch t.slotMap
  | [], done, h => by
    rw [h, List.append_nil, List.flatMap_nil, List.nil_append, ← List.append_nil (byteRun tail), readTrack_byteRun]
    rfl
  | j :: rest, done, h => by
    obtain ⟨e, he⟩ := Track.sector_of_slot h
    have hslot : planSlot m (makePlan m t g patch) j = slotRun e (writtenField m t patch j) g := by
      have htrack : (makePlan m t g patch).track.sectors[j]? = some e := he
      rw [planSlot, htrack]
      rfl
    obtain ⟨extra, hread⟩ := readTrack_slotRun e (writtenField m t patch j) g
      (rest.flatMap (planSlot m (makePlan m t g patch)) ++ byteRun tail)
    rw [List.flatMap_cons, List.append_assoc, hslot, hread, List.foldl_cons, List.foldl_cons, VerifyReader.hear_slot h he hpatch]
    exact VerifyReader.hearSlots hpatch tail rest (done ++ [j]) (by rw [h, List.append_assoc]; rfl)

end

/-- Settles O44. Slot by slot, and block by block of the written stream, the reader stays in the state of an intact pass. -/
theorem intactReadPasses : Obligations.IntactReadPasses := by
  intro m t g patch mode _ hsum hpatch p readSlot heard
  have hverdict : (VerifyReader.intact mode m t patch t.slotMap).verdict mode p = none :=
    VerifyReader.intact_verdict hpatch hsum
  have hstart : VerifyReader.start = VerifyReader.intact mode m t patch [] := by cases mode <;> rfl
  have hreadSlot : readSlot = VerifyReader.readSlot mode m p := rfl
  have hheard : heard = VerifyReader.hear mode m p := rfl
  refine ⟨?_, fun k => ?_⟩
  · rw [hreadSlot, hstart]
    exact (congrArg (VerifyReader.verdict · mode p) (VerifyReader.readSlots hpatch t.slotMap [] rfl)).trans hverdict
  · have htail : List.replicate k (Sym.byte 0x4E) = byteRun (List.replicate k 0x4E) := List.map_replicate.symm
    rw [hheard, hstart, htail, writeStream, List.append_assoc, readTrack_leadIn]
    exact (congrArg (VerifyReader.verdict · mode p) (VerifyReader.hearSlots hpatch _ t.slotMap [] rfl)).trans hverdict

end Sys2Proof.Machine
end


section
/-! PROOFS. STREAM ABORT on a ready port (O11). -/

open Sys2Proof Sys2Proof.Machine

namespace Sys2Proof.Machine

/-- A record that loses its read pin is released if it was UNLINKED (R9, R54, R62). -/
theorem Store.unpinRead_eq (st : Store) (r : RecNo) : st.unpinRead r =
    if (st.record r).link = .unlinked then (st.setRecord r { st.record r with readPin := false }).release r
    else st.setRecord r { st.record r with readPin := false } := by
  cases hl : (st.record r).link with
  | linked => exact (Store.unpinRead_linked hl).trans (if_neg nofun).symm
  | unlinked => exact (Store.unpinRead_unlinked hl).trans (if_pos rfl).symm

theorem Device.closeStream_of_closed {d : Device} (hx : d.port.stream = .closed) : d.closeStream = d := by
  rw [Device.closeStream, ← hx]

section
variable {s : State} {tag : Byte}

/-- STREAM ABORT on a ready port: what its stream was is told, and the stream and its record are disposed of (R54). -/
theorem exec_streamAbort (h : PortReady s.dev) {x : Stream} (hx : s.dev.port.stream = x) :
    exec (.streamAbort tag) s = .next (s.answered ({ s.dev with store := s.dev.store.afterAbort x }).closeStream tag 0x27 .ok
      (u8 x.kind ++ u16 x.remaining)) := by
  rw [exec_worked h rfl rfl rfl, workStreamAbort, hx]
  rfl

theorem exec_streamAbort_closed (h : PortReady s.dev) (hx : s.dev.port.stream = .closed) :
    exec (.streamAbort tag) s = .next (s.answered s.dev tag 0x27 .ok [0, 0, 0]) := by
  have hsame : ({ s.dev with store := s.dev.store.afterAbort .closed }).closeStream = s.dev := Device.closeStream_of_closed hx
  rw [exec_streamAbort h hx, hsame]
  rfl

end

/-- Settles O11, by the three kinds of stream: a read cut off disposes of its record as a finished one does. -/
theorem streamAborting : Obligations.StreamAborting := by
  intro s tag h
  refine ⟨exec_streamAbort_closed h, fun r k hx => exec_streamAbort h hx, ?_⟩
  intro r k hx x unpinned
  have hstore : s.dev.store.afterAbort (.outbound r k) = if x.link = .unlinked then unpinned.release r else unpinned :=
    Store.unpinRead_eq s.dev.store r
  rw [exec_streamAbort h hx, hstore]
  rfl

end Sys2Proof.Machine
end

section
/-! PROOFS. The lot's own operations, case by case: the serial it issues and takes back, its admission tests (O27), and its accounts at
a copy end (O28). -/

open Sys2Proof Sys2Proof.Machine

namespace Sys2Proof.Machine

section
variable {x : Lot}

/-! ## Serials issued and taken back (R67, R79) -/

theorem Lot.serialized_iff : x.serialized = true ↔ 0 < x.digits := decide_eq_true_iff

theorem Lot.issue_none (h : ¬ x.serialized = true) : x.issue = (x, none) := if_neg h

theorem Lot.issue_reissued (h : x.serialized = true) {n : Nat} {ns : List Nat} (hl : x.reissue = n :: ns) :
    x.issue = ({ x with reissue := ns }, some n) := by
  rw [Lot.issue, if_pos h, hl]

theorem Lot.issue_next (h : x.serialized = true) (hl : x.reissue = []) :
    x.issue = ({ x with next := x.next + 1 }, some x.next) := by
  rw [Lot.issue, if_pos h, hl]

theorem Lot.takesBack_iff : x.takesBack = true ↔ x.reissueEnable = true ∧ x.reissue.length < 16 := by
  rw [Lot.takesBack, Bool.and_eq_true, decide_eq_true_iff]

theorem Lot.giveBack_listed (h : x.takesBack = true) (n : Nat) :
    x.giveBack (some n) = { x with reissue := insertSerial n x.reissue } := if_pos h

theorem Lot.giveBack_void (h : ¬ x.takesBack = true) (n : Nat) : x.giveBack (some n) = { x with void := x.void + 1 } := if_neg h

/-! ## The admission tests (R78) -/

theorem Lot.admission_notRunning (h : x.state ≠ .running) : x.admission = (x, x.state.refusal) := if_pos h

theorem Lot.admission_full (h : x.state = .running) (ht : x.target ≤ x.good + x.inFlight) : x.admission = (x, .full) := by
  rw [Lot.admission, if_neg (not_not.2 h), if_pos (Nat.not_lt.2 ht)]

theorem Lot.admission_placed (h : x.state = .running) (ht : x.good + x.inFlight < x.target) : x.admission =
    if x.serialized && !x.obtainable then ({ x with state := .exhausted }, .exhausted) else (x.granted, .granted x.issue.2) := by
  rw [Lot.admission, if_neg (not_not.2 h), if_neg (not_not.2 ht)]
  rfl

theorem Lot.obtainable_iff : x.obtainable = true ↔ x.reissue ≠ [] ∨ x.next ≤ x.last := by
  simp [Lot.obtainable]

theorem Lot.admission_exhausted (h : x.state = .running) (ht : x.good + x.inFlight < x.target) (hs : x.serialized = true)
    (hl : x.reissue = []) (hn : x.last < x.next) : x.admission = ({ x with state := .exhausted }, .exhausted) := by
  have hno : ¬ x.obtainable = true := fun e => (Lot.obtainable_iff.1 e).elim (· hl) (Nat.not_le.2 hn)
  rw [Lot.admission_placed h ht, if_pos (by simp [hs, hno])]

theorem Lot.admission_granted (h : x.state = .running) (ht : x.good + x.inFlight < x.target)
    (hs : x.serialized = true → x.reissue ≠ [] ∨ x.next ≤ x.last) : x.admission = (x.granted, .granted x.issue.2) := by
  rw [Lot.admission_placed h ht, if_neg ?_]
  rw [Bool.and_eq_true, Bool.not_eq_true']
  exact fun ⟨h1, h2⟩ => nomatch h2.symm.trans (Lot.obtainable_iff.2 (hs h1))

theorem Lot.admission_bounded (h : x.good + x.inFlight ≤ x.target) :
    x.admission.1.good + x.admission.1.inFlight ≤ x.admission.1.target := by
  rcases x.admission_cases with ⟨ha, -, ht⟩ | ⟨ha, -⟩ | ⟨ha, -⟩
  · have hcounts : x.granted.good = x.good ∧ x.granted.inFlight = x.inFlight + 1 ∧ x.granted.target = x.target := by
      unfold Lot.granted Lot.issue
      split
      · split <;> exact ⟨rfl, rfl, rfl⟩
      · exact ⟨rfl, rfl, rfl⟩
    obtain ⟨hgood, hflight, htarget⟩ := hcounts
    rw [ha, hgood, hflight, htarget]
    omega
  · rw [ha]; exact h
  · rw [ha]; exact h

end

/-- Settles O27. -/
theorem admissionTests : Obligations.AdmissionTests := by
  intro x
  refine ⟨fun h => (Lot.admission_notRunning h).trans ?_,
    fun h => ⟨Lot.admission_full h, fun ht => ⟨fun hd => ?_, fun hd => ⟨fun y ys hl => ?_, fun hl hn => ?_, fun hl hn => ?_⟩⟩⟩,
    Lot.admission_bounded⟩
  · cases x.state <;> rfl
  · have hs : ¬ x.serialized = true := fun e => absurd (Lot.serialized_iff.1 e) (by omega)
    rw [Lot.admission_granted h ht fun e => absurd e hs, Lot.granted, Lot.issue_none hs]
  all_goals have hs : x.serialized = true := Lot.serialized_iff.2 hd
  · rw [Lot.admission_granted h ht fun _ => .inl (by rw [hl]; exact nofun), Lot.granted, Lot.issue_reissued hs hl]
  · rw [Lot.admission_granted h ht fun _ => .inr hn, Lot.granted, Lot.issue_next hs hl]
  · exact Lot.admission_exhausted h ht hs hl hn

/-! ## The accounts of a copy end (R84 to R86) -/

section
variable (x : Lot) (r : RejectReason) {n : Nat}

/-- The counts that every REJECT makes, whatever becomes of its serial (R84). -/
def Lot.countReject : Lot :=
  { x with inFlight := x.inFlight - 1, rejects := satSucc x.rejects, tally := x.tally.bump r }

theorem Lot.countEnd_good (serial : Option Nat) :
    x.countEnd .good serial = { x with inFlight := x.inFlight - 1, good := x.good + 1 } := rfl

theorem Lot.countEnd_reject_none : x.countEnd (.reject r) none = x.countReject r := rfl

variable {x}

theorem Lot.countEnd_listed (h : x.takesBack = true) :
    x.countEnd (.reject r) (some n) = { x.countReject r with reissue := insertSerial n x.reissue } :=
  Lot.giveBack_listed (x := x.countReject r) h n

theorem Lot.countEnd_void (h : ¬ x.takesBack = true) :
    x.countEnd (.reject r) (some n) = { x.countReject r with void := x.void + 1 } :=
  Lot.giveBack_void (x := x.countReject r) h n

end

section
variable (x : Lot) (o : CopyOutcome) (serial : Option Nat)

/-- The counts are all that a copy end changes, but for the state. -/
theorem Lot.countEnd_frame : x.countEnd o serial =
    { x with inFlight := (x.countEnd o serial).inFlight, good := (x.countEnd o serial).good,
             rejects := (x.countEnd o serial).rejects, tally := (x.countEnd o serial).tally,
             reissue := (x.countEnd o serial).reissue, void := (x.countEnd o serial).void } := by
  cases o with
  | good => rfl
  | reject r =>
    cases serial with
    | none => rfl
    | some n =>
      by_cases h : x.takesBack = true
      · rw [Lot.countEnd_listed r h]; rfl
      · rw [Lot.countEnd_void r h]; rfl

/-- The reissue list is longer exactly when a REJECT's serial was taken back (R67). -/
theorem Lot.countEnd_lists_iff : x.reissue.length < (x.countEnd o serial).reissue.length ↔
    o ≠ .good ∧ serial.isSome = true ∧ x.takesBack = true := by
  cases o with
  | good => simp [Lot.countEnd_good]
  | reject r =>
    cases serial with
    | none => simp [Lot.countEnd_reject_none, Lot.countReject]
    | some n =>
      by_cases h : x.takesBack = true
      · simp [Lot.countEnd_listed r h, h, (insertSerial_perm n x.reissue).length_eq]
      · simp [Lot.countEnd_void r h, h, Lot.countReject]

/-- R85 and R86, with the revival told by the reissue list. -/
theorem Lot.afterEnd_state : (x.afterEnd o serial).state =
    if x.state = .running ∧ (x.afterEnd o serial).good = x.target then .filled
    else if x.state = .exhausted ∧ x.reissue.length < (x.afterEnd o serial).reissue.length then .running
    else if x.state = .closing ∧ (x.afterEnd o serial).inFlight = 0 then .closed else x.state := by
  change x.stateAfterEnd o serial = if x.state = .running ∧ (x.countEnd o serial).good = x.target then .filled
    else if x.state = .exhausted ∧ x.reissue.length < (x.countEnd o serial).reissue.length then .running
    else if x.state = .closing ∧ (x.countEnd o serial).inFlight = 0 then .closed else x.state
  simp only [Lot.countEnd_lists_iff]
  unfold Lot.stateAfterEnd
  cases x.state <;> simp

theorem Lot.markReached_iff : x.markReached o = true ↔ o = .good ∧ x.mark ≠ 0 ∧ (x.afterEnd o serial).good = x.mark := by
  cases o with
  | good => simp [Lot.markReached, Lot.afterEnd, Lot.countEnd_good]
  | reject r => simp [Lot.markReached]

theorem Lot.noticeAtEnd_iff : x.noticeAtEnd o serial = true ↔
    (x.state = .running ∧ (x.afterEnd o serial).state = .filled) ∨
      (x.state = .closing ∧ (x.afterEnd o serial).state = .closed) ∨
      (o = .good ∧ x.mark ≠ 0 ∧ (x.afterEnd o serial).good = x.mark) := by
  rw [← Lot.markReached_iff, Lot.noticeAtEnd]
  simp only [Bool.or_eq_true, Bool.and_eq_true, beq_iff_eq, Lot.afterEnd]
  tauto

theorem Lot.signalAtEnd_iff : x.signalAtEnd o serial = true ↔
    (x.state = .exhausted ∧ (x.afterEnd o serial).state = .running) ∨
      (x.state = .running ∧ o ≠ .good ∧ x.good + x.inFlight = x.target) := by
  simp only [Lot.signalAtEnd, Lot.afterEnd, Bool.or_eq_true, Bool.and_eq_true, beq_iff_eq, bne_iff_ne, and_assoc]

/-- What a REJECT leaves of good, rejects and the tally (R84). -/
theorem Lot.afterEnd_reject (r : RejectReason) : (x.afterEnd (.reject r) serial).good = x.good ∧
    (x.afterEnd (.reject r) serial).rejects = satSucc x.rejects ∧ (x.afterEnd (.reject r) serial).tally = x.tally.bump r := by
  change (x.countEnd _ _).good = _ ∧ (x.countEnd _ _).rejects = _ ∧ (x.countEnd _ _).tally = _
  cases serial with
  | none => exact ⟨rfl, rfl, rfl⟩
  | some n =>
    by_cases h : x.takesBack = true
    · rw [Lot.countEnd_listed r h]; exact ⟨rfl, rfl, rfl⟩
    · rw [Lot.countEnd_void r h]; exact ⟨rfl, rfl, rfl⟩

end

/-- Settles O28. -/
theorem copyEndCounts : Obligations.CopyEndCounts := by
  intro x serial bump
  refine ⟨fun o => ⟨(x.countEnd_counts o serial).1, ?_, x.afterEnd_state o serial, x.noticeAtEnd_iff o serial,
    x.signalAtEnd_iff o serial⟩, ?_, fun r => ?_⟩
  · exact congrArg (fun z : Lot => { z with state := x.stateAfterEnd o serial }) (x.countEnd_frame o serial)
  · rintro y rfl
    exact ⟨rfl, rfl, rfl, rfl, rfl⟩
  · obtain ⟨hgood, hrejects, htally⟩ := x.afterEnd_reject serial r
    have tallied : ∀ {r'}, r = r' → (x.afterEnd (.reject r) serial).tally = x.tally.bump r' := fun e => e ▸ htally
    refine ⟨hgood, hrejects, tallied, tallied, tallied, tallied, tallied, tallied, ?_, ?_⟩
    · rintro rfl
      exact ⟨rfl, rfl⟩
    · rintro n rfl
      refine ⟨fun he hl => ?_, fun hv => ?_⟩
      · have hend : x.countEnd (.reject r) (some n) = _ := Lot.countEnd_listed r (Lot.takesBack_iff.2 ⟨he, hl⟩)
        change (x.countEnd _ _).void = x.void ∧ (x.countEnd _ _).reissue.Perm _ ∧ (_ → _ → (x.countEnd _ _).reissue.Pairwise _)
        rw [hend]
        exact ⟨rfl, insertSerial_perm n x.reissue, insertSerial_ascending⟩
      · have hno : ¬ x.takesBack = true := fun e => by
          obtain ⟨he, hl⟩ := Lot.takesBack_iff.1 e
          exact hv.elim (fun h => nomatch h.symm.trans he) (fun h => absurd hl (Nat.not_lt.2 h))
        change (x.countEnd _ _).void = x.void + 1 ∧ (x.countEnd _ _).reissue = x.reissue
        rw [Lot.countEnd_void r hno]
        exact ⟨rfl, rfl⟩

end Sys2Proof.Machine
end

section
/-! PROOFS. Every step keeps each lot's serials in order (O59): the serials that a lot's copies carry stay apart from each other and
from its reissue list. -/

open Sys2Proof Sys2Proof.Machine

namespace Sys2Proof.Machine

/-! ## The serials of one lot -/

/-- The serials of a lot in order, when channel `c` carries `carried c` for it. -/
structure Lot.SerialsFit (x : Lot) (carried : Chan → Option Nat) : Prop where
  room : x.reissue.length ≤ 16
  ascending : x.reissue.Pairwise (· < ·)
  issued : ∀ n ∈ x.reissue, x.first ≤ n ∧ n < x.next
  inFlight : ∀ c n, carried c = some n → x.first ≤ n ∧ n < x.next ∧ n ∉ x.reissue
  distinct : ∀ c c' n, carried c = some n → carried c' = some n → c = c'

/-- What of a lot says which serials it has issued and which of them wait for reissue. -/
def Lot.issuance (x : Lot) : List Nat × Nat × Nat := (x.reissue, x.first, x.next)

section
variable {x y : Lot} {f g : Chan → Option Nat} {c : Chan} {n : Nat}

theorem Lot.SerialsFit.congr (h : x.SerialsFit f) (hy : y.issuance = x.issuance) : y.SerialsFit f := by
  simp only [Lot.issuance, Prod.mk.injEq] at hy
  obtain ⟨hlist, hfirst, hnext⟩ := hy
  obtain ⟨h1, h2, h3, h4, h5⟩ := h
  rw [← hlist] at h1 h2
  rw [← hlist, ← hfirst, ← hnext] at h3 h4
  exact ⟨h1, h2, h3, h4, h5⟩

/-- Serials that are carried no longer are missed by nobody. -/
theorem Lot.SerialsFit.fewer (h : x.SerialsFit f) (hg : ∀ c n, g c = some n → f c = some n) : x.SerialsFit g :=
  ⟨h.room, h.ascending, h.issued, fun c n hc => h.inFlight c n (hg c n hc),
    fun c c' n hc hc' => h.distinct c c' n (hg c n hc) (hg c' n hc')⟩

theorem Lot.SerialsFit.none_issued (hl : x.reissue = []) (hf : ∀ c, f c = none) : x.SerialsFit f where
  room := by rw [hl]; exact Nat.zero_le _
  ascending := by rw [hl]; exact .nil
  issued n hn := by rw [hl] at hn; cases hn
  inFlight c n hc := nomatch (hf c).symm.trans hc
  distinct c c' n hc := nomatch (hf c).symm.trans hc

/-- A serial that nobody carries and that leaves the list, or was never on it, is carried by one channel. -/
theorem Lot.SerialsFit.carriedToo (h : x.SerialsFit f) (hlist : y.reissue.Sublist x.reissue) (hfirst : y.first = x.first)
    (hnext : x.next ≤ y.next) (hn : y.first ≤ n ∧ n < y.next ∧ n ∉ y.reissue) (hnew : ∀ c', f c' ≠ some n)
    (hself : g c = some n) (hother : ∀ c', c' ≠ c → g c' = f c') : y.SerialsFit g where
  room := hlist.length_le.trans h.room
  ascending := h.ascending.sublist hlist
  issued m hm := by
    have := h.issued m (hlist.subset hm)
    omega
  inFlight c' m hc' := by
    by_cases e : c' = c
    · subst e
      obtain rfl := Option.some.inj (hself.symm.trans hc')
      exact hn
    · rw [hother c' e] at hc'
      obtain ⟨h1, h2, h3⟩ := h.inFlight c' m hc'
      exact ⟨by omega, by omega, fun hm => h3 (hlist.subset hm)⟩
  distinct a b m ha hb := by
    by_cases ea : a = c <;> by_cases eb : b = c
    · rw [ea, eb]
    · subst ea
      rw [hother b eb] at hb
      obtain rfl := Option.some.inj (hself.symm.trans ha)
      exact absurd hb (hnew b)
    · subst eb
      rw [hother a ea] at ha
      obtain rfl := Option.some.inj (hself.symm.trans hb)
      exact absurd ha (hnew a)
    · rw [hother a ea] at ha
      rw [hother b eb] at hb
      exact h.distinct a b m ha hb

/-- A grant: the serial the copy begins with is the lowest of the list, or one that was never issued (R79). -/
theorem Lot.SerialsFit.granted (h : x.SerialsFit f) (hnext : x.serialized = true → x.first ≤ x.next) (hself : g c = x.issue.2)
    (hother : ∀ c', c' ≠ c → g c' = f c') : x.granted.SerialsFit g := by
  unfold Lot.granted
  by_cases hs : x.serialized = true
  · cases hl : x.reissue with
    | nil =>
      rw [Lot.issue_next hs hl] at hself ⊢
      refine h.carriedToo (.refl _) rfl (Nat.le_succ _)
        ⟨hnext hs, Nat.lt_succ_self _, by change _ ∉ x.reissue; rw [hl]; exact nofun⟩ (fun c' hc' => ?_) hself hother
      exact Nat.lt_irrefl _ (h.inFlight c' _ hc').2.1
    | cons n ns =>
      rw [Lot.issue_reissued hs hl] at hself ⊢
      have hasc := h.ascending
      rw [hl, List.pairwise_cons] at hasc
      have hn : n ∈ x.reissue := by rw [hl]; exact List.mem_cons_self
      obtain ⟨h1, h2⟩ := h.issued n hn
      exact h.carriedToo (by rw [hl]; exact List.sublist_cons_self n ns) rfl (Nat.le_refl _)
        ⟨h1, h2, fun hm => Nat.lt_irrefl _ (hasc.1 n hm)⟩ (fun c' hc' => (h.inFlight c' n hc').2.2 hn) hself hother
  · rw [Lot.issue_none hs] at hself ⊢
    refine Lot.SerialsFit.congr (h.fewer fun c' m hc' => ?_) rfl
    by_cases e : c' = c
    · subst e
      exact nomatch hself.symm.trans hc'
    · rwa [hother c' e] at hc'

/-- A serial that a channel carried returns to the list (R67). -/
theorem Lot.SerialsFit.listed (h : x.SerialsFit f) (hroom : x.reissue.length < 16) (hc : f c = some n) (hself : g c = none)
    (hother : ∀ c', c' ≠ c → g c' = f c') : ({ x with reissue := insertSerial n x.reissue } : Lot).SerialsFit g := by
  obtain ⟨h1, h2, h3⟩ := h.inFlight c n hc
  have hperm := insertSerial_perm n x.reissue
  refine ⟨by rw [hperm.length_eq]; exact hroom, insertSerial_ascending h.ascending h3, fun m hm => ?_, fun c' m hc' => ?_,
    (h.fewer fun a m ha => ?_).distinct⟩
  · rcases List.mem_cons.1 (hperm.mem_iff.1 hm) with rfl | hm
    · exact ⟨h1, h2⟩
    · exact h.issued m hm
  · have e : c' ≠ c := fun e => by subst e; exact nomatch hself.symm.trans hc'
    rw [hother c' e] at hc'
    obtain ⟨h4, h5, h6⟩ := h.inFlight c' m hc'
    refine ⟨h4, h5, fun hm => ?_⟩
    rcases List.mem_cons.1 (hperm.mem_iff.1 hm) with rfl | hm
    · exact e (h.distinct c' c m hc' hc)
    · exact h6 hm
  · have e : a ≠ c := fun e => by subst e; exact nomatch hself.symm.trans ha
    rwa [hother a e] at ha

/-- A copy end: the serial of a REJECT may return to the list; it is carried no longer (R84, R141). -/
theorem Lot.SerialsFit.afterEnd (h : x.SerialsFit f) (o : CopyOutcome) (hself : g c = none)
    (hother : ∀ c', c' ≠ c → g c' = f c') : (x.afterEnd o (f c)).SerialsFit g := by
  have hless : x.SerialsFit g := h.fewer fun a m ha => by
    have e : a ≠ c := fun e => by subst e; exact nomatch hself.symm.trans ha
    rwa [hother a e] at ha
  cases o with
  | good => exact hless.congr rfl
  | reject r =>
    unfold Lot.afterEnd
    cases hc : f c with
    | none => exact hless.congr rfl
    | some n =>
      by_cases ht : x.takesBack = true
      · rw [Lot.countEnd_listed r ht]
        exact (h.listed (Lot.takesBack_iff.1 ht).2 hc hself hother).congr rfl
      · rw [Lot.countEnd_void r ht]
        exact hless.congr rfl

end

/-! ## The serials that the channels carry -/

/-- The serial a copy carries for lot `l`, by its lot, image and serial; none for a copy of another lot. -/
def serialFor (l : LotNo) (ident : LotNo × ImageNo × Option Nat) : Option Nat := if ident.1 = l then ident.2.2 else none

/-- The serial that channel `c` carries for lot `l`. -/
def Device.carried (d : Device) (l : LotNo) (c : Chan) : Option Nat :=
  ((d.chan c).ctx.map CopyContext.ident).bind (serialFor l)

theorem Device.carries_iff (d : Device) (c : Chan) (l : LotNo) (n : Nat) : d.carries c l n ↔ d.carried l c = some n := by
  unfold Device.carries Device.carried serialFor
  cases (d.chan c).ctx with
  | none => simp
  | some x => simp [CopyContext.ident]

theorem serialsOk_iff (d : Device) (l : LotNo) : SerialsOk d l ↔ (d.lot l).SerialsFit (d.carried l) := by
  constructor
  · rintro ⟨h1, h2, h3, h4⟩
    simp only [Device.carries_iff] at h3 h4
    exact ⟨h1.1, h1.2, h2, h3, h4⟩
  · rintro ⟨h1, h2, h3, h4, h5⟩
    simp only [← Device.carries_iff] at h4 h5
    exact ⟨⟨h1, h2⟩, h3, h4, h5⟩

/-- The serials of every lot are in order. -/
def AllSerialsOk (d : Device) : Prop := ∀ l, SerialsOk d l

section
variable {d e : Device} {c : Chan} {l : LotNo}

theorem AllSerialsOk.fit (h : AllSerialsOk d) (l : LotNo) : (d.lot l).SerialsFit (d.carried l) := (serialsOk_iff d l).1 (h l)

theorem SameCopies.carried (h : SameCopies d e) (l : LotNo) : e.carried l = d.carried l := by
  funext c
  exact congrArg (Option.bind · (serialFor l)) (h c)

theorem OneCopyMore.carried {x : CopyContext} (h : OneCopyMore d e c x) (l : LotNo) :
    d.carried l c = none ∧ e.carried l c = serialFor l x.ident ∧ ∀ c', c' ≠ c → e.carried l c' = d.carried l c' := by
  unfold Device.carried
  exact ⟨by rw [h.before]; rfl, by rw [h.after]; rfl, fun c' hc' => by rw [h.other c' hc']⟩

/-- A lot without copies has no serial in flight. -/
theorem Device.carried_of_noCopies (h : d.copiesOfLot l = 0) (c : Chan) : d.carried l c = none := by
  unfold Device.carried
  cases hx : (d.chan c).ctx with
  | none => rfl
  | some x =>
    refine if_neg fun e => ?_
    subst e
    exact Device.copiesOfLot_pos hx h

/-- The same copies, and lots whose serials are the same. -/
theorem AllSerialsOk.same (h : AllSerialsOk d) (hs : SameCopies d e) (hl : ∀ l, (e.lot l).issuance = (d.lot l).issuance) :
    AllSerialsOk e := fun l => (serialsOk_iff e l).2 (by rw [hs.carried]; exact (h.fit l).congr (hl l))

/-- Neither channels nor lots change. -/
theorem AllSerialsOk.aside (h : AllSerialsOk d) (hc : ∀ c, e.chan c = d.chan c) (hl : ∀ l, e.lot l = d.lot l) : AllSerialsOk e :=
  h.same (fun c => by rw [hc]) fun l => by rw [hl]

theorem AllSerialsOk.setChan (h : AllSerialsOk d) {x : Channel} (hs : SameCopy (d.chan c) x) : AllSerialsOk (d.setChan c x) := by
  refine h.same (fun c' => ?_) fun _ => rfl
  rw [Device.setChan_chan]
  split
  · rename_i e; subst e; exact hs.1
  · rfl

theorem AllSerialsOk.setLot (h : AllSerialsOk d) (l : LotNo) {x : Lot} (hx : x.issuance = (d.lot l).issuance) :
    AllSerialsOk (d.setLot l x) := by
  refine h.same (.refl d) fun l' => ?_
  rw [Device.setLot_lot]
  split
  · rename_i e; subst e; exact hx
  · rfl

/-- A lot without copies begins anew. -/
theorem AllSerialsOk.freshLot (h : AllSerialsOk d) (hs : SameCopies d e) (hn : d.copiesOfLot l = 0) (hl : (e.lot l).reissue = [])
    (hother : ∀ l', l ≠ l' → e.lot l' = d.lot l') : AllSerialsOk e := fun l' => by
  rw [serialsOk_iff, hs.carried]
  by_cases hl' : l = l'
  · subst hl'
    exact .none_issued hl (Device.carried_of_noCopies hn)
  · rw [hother l' hl']
    exact h.fit l'

/-! ## Deed by deed -/

/-- An admission that is not granted issues no serial. -/
theorem AllSerialsOk.admission_refused (h : AllSerialsOk d) (hx : ∀ o, (d.lot l).admission.2 ≠ .granted o) :
    AllSerialsOk (d.requestAdmission c l) := by
  have hset : AllSerialsOk (d.setLot l (d.lot l).admission.1) := h.setLot l (by
    rcases (d.lot l).admission_cases with ⟨ha, -⟩ | ⟨ha, -⟩ | ⟨ha, -⟩
    · exact absurd (by rw [ha]) (hx (d.lot l).issue.2)
    · rw [ha]; rfl
    · rw [ha])
  unfold Device.requestAdmission
  dsimp only
  split
  · rename_i o ho
    exact absurd ho (hx o)
  · split
    · exact hset.aside (fun _ => rfl) fun _ => rfl
    · exact hset
  all_goals exact hset

/-- A grant begins one copy more. -/
theorem Device.requestAdmission_oneMore (hc : (d.chan c).ctx = none)
    (ha : (d.lot l).admission = ((d.lot l).granted, .granted (d.lot l).issue.2)) :
    OneCopyMore d (d.requestAdmission c l) c (beginContext l (d.lot l) (d.lot l).issue.2) := by
  rw [Device.requestAdmission_granted (by rw [ha])]
  refine ⟨hc, by rw [Device.modChan_chan_self], fun c' hc' => ?_⟩
  rw [Device.modChan_chan_ne _ _ hc'.symm]
  rfl

theorem AllSerialsOk.admission_granted (h : AllSerialsOk d) (hc : (d.chan c).ctx = none)
    (ha : (d.lot l).admission = ((d.lot l).granted, .granted (d.lot l).issue.2))
    (hnext : (d.lot l).serialized = true → (d.lot l).first ≤ (d.lot l).next) : AllSerialsOk (d.requestAdmission c l) := by
  have hmore := Device.requestAdmission_oneMore hc ha
  have hlot : ∀ l', (d.requestAdmission c l).lot l' = if l = l' then (d.lot l).granted else d.lot l' := fun l' => by
    rw [Device.requestAdmission_granted (by rw [ha]), ha]
    exact Device.setLot_lot ..
  intro l'
  obtain ⟨hbefore, hself, hother⟩ := hmore.carried l'
  rw [serialsOk_iff, hlot]
  split
  · rename_i e
    subst e
    exact (h.fit l).granted hnext (hself.trans (if_pos rfl)) hother
  · rename_i e
    refine (h.fit l').fewer fun c' n hc' => ?_
    by_cases hcc : c' = c
    · subst hcc
      rw [hself] at hc'
      exact nomatch (if_neg e).symm.trans hc'
    · rwa [hother c' hcc] at hc'

/-- The next serial lies at or above the first, by the serial equation (R79). -/
theorem AccountsOk.first_le_next (h : AccountsOk d) (l : LotNo) (hs : (d.lot l).serialized = true) :
    (d.lot l).first ≤ (d.lot l).next := by
  have := (h.lot l).serials hs
  omega

theorem AllSerialsOk.requestAdmission (h : AllSerialsOk d) (ha : AccountsOk d) (hc : (d.chan c).ctx = none) :
    AllSerialsOk (d.requestAdmission c l) := by
  rcases (d.lot l).admission_cases with ⟨hx, -⟩ | ⟨hx, -⟩ | ⟨-, hx, -⟩
  · exact h.admission_granted hc hx (ha.first_le_next l)
  · exact h.admission_refused fun o => by rw [hx]; exact nofun
  · exact h.admission_refused hx

/-- A copy end leaves one copy less, and of the lots changes the copy's alone. -/
theorem Device.copyClosed_oneLess {x : CopyContext} (hx : (d.chan c).ctx = some x) (o : CopyOutcome) (key : Option Key) :
    OneCopyMore (d.copyClosed c x o key) d c x ∧
      ∀ l, (d.copyClosed c x o key).lot l = if x.lot = l then (d.lot x.lot).afterEnd o x.serial else d.lot l := by
  obtain ⟨a1, -, -, a4⟩ := d.accountEnd_rest x.lot o x.serial
  obtain ⟨u1, u2, -⟩ := (d.accountEnd x.lot o x.serial).unpin_rest x.image
  refine ⟨⟨?_, hx, fun c' hc' => ?_⟩, fun l => (u2 l).trans (a4 l)⟩
  · rw [Device.copyClosed, Device.notify_chan, Device.modChan_chan_self]
    rfl
  · rw [Device.copyClosed, Device.notify_chan, Device.modChan_chan_ne _ _ hc'.symm, u1, a1]

theorem AllSerialsOk.copyClosed (h : AllSerialsOk d) {x : CopyContext} (hx : (d.chan c).ctx = some x) (o : CopyOutcome)
    (key : Option Key) : AllSerialsOk (d.copyClosed c x o key) := by
  obtain ⟨hless, hlot⟩ := Device.copyClosed_oneLess hx o key
  intro l
  obtain ⟨hself, hbefore, hother⟩ := hless.carried l
  have hrest : ∀ c', c' ≠ c → (d.copyClosed c x o key).carried l c' = d.carried l c' := fun c' hc' => (hother c' hc').symm
  rw [serialsOk_iff, hlot]
  split
  · rename_i e
    subst e
    have hserial : d.carried x.lot c = x.serial := hbefore.trans (if_pos rfl)
    rw [← hserial]
    exact (h.fit x.lot).afterEnd o hself hrest
  · refine (h.fit l).fewer fun c' n hc' => ?_
    by_cases hcc : c' = c
    · subst hcc
      exact nomatch hself.symm.trans hc'
    · rwa [hrest c' hcc] at hc'

theorem Lot.protectedReject_issuance (x : Lot) : x.protectedReject.issuance = x.issuance := by
  unfold Lot.protectedReject
  split <;> rfl

/-- The deeds keep the serials of a part whose accounts balance. -/
theorem Deeds.serials (h : Deeds d e) (ha : AccountsOk d) (hl : LoadedRest d) (hd : AllSerialsOk d) : AllSerialsOk e := by
  induction h with
  | refl => exact hd
  | tweak c x hs _ ih => exact ih.setChan hs
  | notify k _ ih => exact ih.aside (fun _ => rfl) fun _ => rfl
  | count _ ih => exact ih.aside (fun _ => rfl) fun _ => rfl
  | reject l _ ih => exact ih.setLot l (Lot.protectedReject_issuance _)
  | granted c l hs hd ih =>
    obtain ⟨hacc, hrest⟩ := hd.accounts ha hl
    exact ih.requestAdmission hacc (hrest c hs)
  | closed c x o key hx _ ih => exact ih.copyClosed hx o key
  | capture y _ _ ih => exact ih.aside (fun _ => rfl) fun _ => rfl
  | captured r i key t p bytes _ _ _ _ _ ih => exact ih.aside (fun _ => rfl) fun _ => rfl
  | @ended e reason _ ih =>
    refine ih.aside (fun c => ?_) fun l => ?_
    · rw [Device.captureOver, Device.clearOwner_chan]; rfl
    · unfold Device.captureOver Device.clearOwner
      split <;> rfl

/-! ## The requests, the reset, the step -/

theorem createdLot_reissue (ps : LotParams) (i : ImageNo) : (createdLot ps i).reissue = [] := by
  unfold createdLot
  dsimp only
  split <;> rfl

theorem Opening.serials (h : Opening d e) (ha : AccountsOk d) (hd : AllSerialsOk d) : AllSerialsOk e := by
  cases h with
  | lotCreated l i ps hl hi =>
    refine hd.freshLot (l := l) (.refl d) ((ha.balanced l).none_of_state (.inl hl)) ?_ fun l' hl' => ?_
    · rw [Device.bind_lot, Device.setLot_lot_self]
      exact createdLot_reissue ps i
    · rw [Device.bind_lot, Device.setLot_lot_ne _ _ hl']
  | lotDeleted l hl =>
    refine hd.freshLot (l := l) (fun c => ?_) ((ha.balanced l).none_of_state (.inr (.inr hl))) ?_ fun l' hl' => ?_
    · rw [Device.unassign_chan, Device.setLot_chan, Channel.withoutLot]
      split <;> rfl
    · rw [Device.unassign_lot, Device.setLot_lot_self]
      rfl
    · rw [Device.unassign_lot, Device.setLot_lot_ne _ _ hl']
  | lotStarted l _ => exact hd.setLot l rfl
  | lotHeld l _ => exact hd.setLot l rfl
  | lotResumed l _ => exact hd.setLot l rfl
  | lotMarked l _ => exact hd.setLot l rfl
  | lotClosed l _ =>
    have hunbound : AllSerialsOk (d.unbind (d.lot l).image) := hd.aside (fun _ => rfl) fun _ => rfl
    exact hunbound.setLot l rfl
  | _ => exact hd.aside (fun _ => rfl) fun _ => rfl

end

theorem AllSerialsOk.afterReset (d : Device) : AllSerialsOk d.afterReset := fun l => by
  rw [serialsOk_iff, Device.afterReset_lot]
  refine .none_issued rfl fun c => ?_
  unfold Device.carried
  rw [Device.afterReset_chan]
  rfl

theorem Device.writeStreamByte_rest (d : Device) (v : Byte) :
    (∀ c, (d.writeStreamByte v).chan c = d.chan c) ∧ ∀ l, (d.writeStreamByte v).lot l = d.lot l := by
  unfold Device.writeStreamByte
  split
  · dsimp only
    split <;> exact ⟨fun _ => rfl, fun _ => rfl⟩
  all_goals exact ⟨fun _ => rfl, fun _ => rfl⟩

theorem Device.readStreamByte_rest (d : Device) :
    (∀ c, d.readStreamByte.chan c = d.chan c) ∧ ∀ l, d.readStreamByte.lot l = d.lot l := by
  unfold Device.readStreamByte
  split
  · dsimp only
    split <;> exact ⟨fun _ => rfl, fun _ => rfl⟩
  all_goals exact ⟨fun _ => rfl, fun _ => rfl⟩

theorem HostEffect.serials {d e : Device} (hb : BaysOk d) (ha : AccountsOk d) (h : HostEffect d e) (hd : AllSerialsOk d) :
    AllSerialsOk e := by
  cases h with
  | port p _ => exact hd.aside (fun _ => rfl) fun _ => rfl
  | request r hr =>
    obtain ⟨f, hf, he⟩ := work_requested hb hr
    exact he.serials (hf.accounts ha) (hf.loadedRest hb.loadedRest) (hf.serials ha hd)
  | reset b => exact (AllSerialsOk.afterReset d).aside (fun _ => rfl) fun _ => rfl
  | release => exact hd.aside (fun _ => rfl) fun _ => rfl
  | written v => exact hd.aside (d.writeStreamByte_rest v).1 (d.writeStreamByte_rest v).2
  | read => exact hd.aside d.readStreamByte_rest.1 d.readStreamByte_rest.2

/-- Settles O59. Every step has one effect, a request being an opening and a chain of deeds. A grant gives a copy a serial that was on
the list or never issued, a copy end gives one back or drops it, and every other deed leaves the serials alone. -/
theorem serialsStayDistinct : Obligations.SerialsStayDistinct := by
  intro s t h hs
  obtain ⟨p, q, f, -, hf, -, ht⟩ := step_one hs.host.1 h
  have hbays : BaysOk (s.dev.withPort p) := ⟨hs.bays.channel, hs.bays.capture⟩
  have haccounts : AccountsOk (s.dev.withPort p) := hs.accounts.same rfl rfl rfl rfl
  have hserials : AllSerialsOk s.dev := hs.serials
  have hd : AllSerialsOk (s.dev.withPort p) := hserials.aside (fun _ => rfl) fun _ => rfl
  have hdf : AllSerialsOk f := by
    rcases hf.cases_deeds hbays with hf | hf
    · exact hf.serials hbays haccounts hd
    · exact hf.serials haccounts hbays.loadedRest hd
  rw [ht]
  exact hdf.aside (fun _ => rfl) fun _ => rfl

end Sys2Proof.Machine
end

section
/-! PROOFS. LOT START, LOT HOLD, LOT RESUME and LOT MARK on a ready port (O25), and the admission-open signal (O29). -/

open Sys2Proof Sys2Proof.Machine

namespace Sys2Proof.Machine

section
variable {s : State} {tag : Byte} {lot : Byte} {l : LotNo}

/-! ## LOT START, LOT HOLD and LOT MARK (R71, R72, R76) -/

theorem exec_lotStart (h : PortReady s.dev) (hl : lot.toNat = l.val) :
    exec (.lotStart tag lot) s = .next (
      if (s.dev.lot l).state = .ready then
        s.answered ((s.dev.setLot l { s.dev.lot l with state := .running }).signalOpen l) tag 0x41 .started []
      else s.refused tag 0x41 .wrongState) := by
  rw [exec_worked h rfl rfl rfl, workLotStart, withSlot_lt l hl, ← ite_not]
  exact congrArg Host.Outcome.next (worked_check (by simp) fun _ => rfl)

theorem exec_lotHold (h : PortReady s.dev) (hl : lot.toNat = l.val) :
    exec (.lotHold tag lot) s = .next (
      if (s.dev.lot l).state = .running ∨ (s.dev.lot l).state = .exhausted then
        s.answered (s.dev.setLot l { s.dev.lot l with state := .held }) tag 0x42 .ok (u8 (s.dev.lot l).inFlight)
      else s.refused tag 0x42 .wrongState) := by
  rw [exec_worked h rfl rfl rfl, workLotHold, withSlot_lt l hl, ← ite_not]
  exact congrArg Host.Outcome.next (worked_check (by rw [not_not, Bool.or_eq_true, beq_iff_eq, beq_iff_eq]) fun _ => rfl)

/-- R76's range of a mark. -/
theorem markRange_iff (x : Lot) (mark : Half) :
    (mark.toNat == 0 || (decide (x.good < mark.toNat) && decide (mark.toNat ≤ x.target))) = true ↔
      mark = 0 ∨ (x.good < mark.toNat ∧ mark.toNat ≤ x.target) := by
  have hzero : mark.toNat = 0 ↔ mark = 0 := (BitVec.toNat_eq (x := mark) (y := 0)).symm
  rw [Bool.or_eq_true, Bool.and_eq_true, decide_eq_true_iff, decide_eq_true_iff, beq_iff_eq, hzero]

theorem exec_lotMark (h : PortReady s.dev) (hl : lot.toNat = l.val) (mark : Half) :
    exec (.lotMark tag lot mark) s = .next (
      if (s.dev.lot l).state = .vacant ∨ (s.dev.lot l).state = .closed then s.refused tag 0x46 .wrongState
      else if mark = 0 ∨ ((s.dev.lot l).good < mark.toNat ∧ mark.toNat ≤ (s.dev.lot l).target) then
        s.answered (s.dev.setLot l { s.dev.lot l with mark := mark.toNat }) tag 0x46 .ok (u16 mark.toNat)
      else s.refused tag 0x46 .badValue) := by
  rw [exec_worked h rfl rfl rfl, workLotMark, withSlot_lt l hl]
  refine congrArg Host.Outcome.next (worked_check (by simp) fun _ => ?_)
  rw [← ite_not]
  exact worked_check ((markRange_iff _ mark).trans not_not.symm) fun _ => rfl

/-! ## LOT RESUME (R73) -/

/-- Lot `l` enters a state, and nothing else changes. -/
def Device.lotEnters (d : Device) (l : LotNo) (st : LotState) : Device := d.setLot l { d.lot l with state := st }

theorem Device.lotEnters_lot (d : Device) (l : LotNo) (st : LotState) : (d.lotEnters l st).lot l = { d.lot l with state := st } :=
  Device.setLot_lot_self ..

/-- The part after LOT RESUME, by the state the lot resumes to. -/
theorem Device.afterResume_eq (d : Device) (l : LotNo) {st : LotState} (hst : (d.lot l).state = st) :
    (st = .filled ∨ st = .exhausted → d.afterResume l = d.notify (noticeLot l)) ∧
      (st = .running → d.afterResume l =
        if (d.lot l).good + (d.lot l).inFlight < (d.lot l).target then d.signalOpen l else d) := by
  subst hst
  refine ⟨fun h => ?_, fun h => ?_⟩
  · unfold Device.afterResume
    rcases h with h | h <;> rw [h]
  · unfold Device.afterResume
    simp [h, Lot.isOpen]

theorem exec_lotResume (h : PortReady s.dev) (hl : lot.toNat = l.val) :
    exec (.lotResume tag lot) s = .next (
      if (s.dev.lot l).state ≠ .held then s.refused tag 0x43 .wrongState
      else s.answered ((s.dev.lotEnters l (s.dev.lot l).resumed).afterResume l) tag 0x43 .ok
        (u8 (s.dev.lot l).resumed.pos)) := by
  rw [exec_worked h rfl rfl rfl, workLotResume, withSlot_lt l hl]
  exact congrArg Host.Outcome.next (worked_check (by simp) fun _ => rfl)

end

/-- LOT RESUME's state, effects and reply together (R73, R89). -/
theorem State.answered_resumed (s : State) (tag : Byte) (l : LotNo) :
    s.answered ((s.dev.lotEnters l (s.dev.lot l).resumed).afterResume l) tag 0x43 .ok (u8 (s.dev.lot l).resumed.pos) =
      if (s.dev.lot l).good = (s.dev.lot l).target then
        s.answered ((s.dev.lotEnters l .filled).notify (noticeLot l)) tag 0x43 .ok [4]
      else if 0 < (s.dev.lot l).digits ∧ (s.dev.lot l).good + (s.dev.lot l).inFlight < (s.dev.lot l).target ∧
          (s.dev.lot l).reissue = [] ∧ (s.dev.lot l).last < (s.dev.lot l).next then
        s.answered ((s.dev.lotEnters l .exhausted).notify (noticeLot l)) tag 0x43 .ok [5]
      else if (s.dev.lot l).good + (s.dev.lot l).inFlight < (s.dev.lot l).target then
        s.answered ((s.dev.lotEnters l .running).signalOpen l) tag 0x43 .ok [2]
      else s.answered (s.dev.lotEnters l .running) tag 0x43 .ok [2] := by
  have hafter := fun st => (s.dev.lotEnters l st).afterResume_eq l (congrArg Lot.state (s.dev.lotEnters_lot l st))
  unfold Lot.resumed
  simp only [Lot.serialized_iff]
  split
  · rw [(hafter .filled).1 (.inl rfl)]
    rfl
  · split
    · rw [(hafter .exhausted).1 (.inr rfl)]
      rfl
    · rw [(hafter .running).2 rfl, Device.lotEnters_lot]
      split <;> rfl

/-- Settles O25, from the checks of each request in their order. -/
theorem startHoldResumeAndMark : Obligations.StartHoldResumeAndMark := by
  refine ⟨fun s tag lot mark h => ⟨fun hn => ?_, fun l hl => ⟨exec_lotStart h hl, exec_lotHold h hl, exec_lotMark h hl mark⟩⟩,
    fun s tag lot h => ⟨fun hn => exec_refused h rfl rfl rfl (withSlot_ge hn), fun l hl => ?_⟩⟩
  · exact ⟨exec_refused h rfl rfl rfl (withSlot_ge hn), exec_refused h rfl rfl rfl (withSlot_ge hn),
      exec_refused h rfl rfl rfl (withSlot_ge hn)⟩
  · rw [exec_lotResume h hl, State.answered_resumed]
    rfl

/-! ## The admission-open signal (R82, R96) -/

section
variable {d : Device} {c : Chan} {l : LotNo}

theorem Device.answerSignal_idle (h : (d.chan c).state = .idle) : d.answerSignal c = d.evalFeed c := by
  unfold Device.answerSignal
  rw [h]

theorem Device.answerSignal_loaded (h : (d.chan c).state = .loaded) : d.answerSignal c = d.admissionPoint c := by
  unfold Device.answerSignal
  rw [h]

theorem Device.answerSignal_busy (h : (d.chan c).state ≠ .idle) (h' : (d.chan c).state ≠ .loaded) : d.answerSignal c = d := by
  unfold Device.answerSignal
  split
  · exact absurd ‹_› h
  · exact absurd ‹_› h'
  all_goals rfl

theorem Lot.isOpen_iff (x : Lot) : x.isOpen = true ↔ x.state = .running ∧ x.good + x.inFlight < x.target := by
  rw [Lot.isOpen, Bool.and_eq_true, beq_iff_eq, decide_eq_true_iff]

theorem Device.feedCondition_iff : d.feedCondition c = true ↔ (d.chan c).hold = false ∧
    ∃ l, (d.chan c).lot = some l ∧ (d.lot l).state = .running ∧ (d.lot l).good + (d.lot l).inFlight < (d.lot l).target := by
  unfold Device.feedCondition
  cases (d.chan c).lot with
  | none => simp
  | some l => simp [Lot.isOpen_iff]

theorem Device.evalFeed_feeds (hs : (d.chan c).state = .idle) (hf : d.feedCondition c = true) :
    d.evalFeed c = d.modChan c fun ch => { ch with state := .feeding, out := { ch.out with feed := true }
                                                   timers := { ch.timers with feed := some feedTimeoutMs } } := if_pos ⟨hs, hf⟩

theorem Device.evalFeed_rests (h : ¬ ((d.chan c).state = .idle ∧ d.feedCondition c = true)) : d.evalFeed c = d := if_neg h

end

/-- Settles O29. -/
theorem admissionOpenSignal : Obligations.AdmissionOpenSignal := by
  refine ⟨fun d l => ⟨⟨arrivalOrder d.freeCount (d.assigned l), arrivalOrder_perm _ _, rfl⟩, fun c =>
    ⟨Device.answerSignal_idle, Device.answerSignal_loaded, Device.answerSignal_busy⟩⟩, fun d c => ?_⟩
  refine ⟨?_, fun h => ?_⟩
  · intro l hs hh hl hr ht
    exact Device.evalFeed_feeds hs (Device.feedCondition_iff.2 ⟨hh, l, hl, hr, ht⟩)
  · refine Device.evalFeed_rests fun ⟨hs, hf⟩ => ?_
    obtain ⟨hh, l, hl, hr, ht⟩ := Device.feedCondition_iff.1 hf
    rcases h with h | h | h | ⟨l', h, h'⟩
    · exact h hs
    · exact nomatch hh.symm.trans h
    · exact nomatch hl.symm.trans h
    · obtain rfl := Option.some.inj (hl.symm.trans h)
      exact h'.elim (· hr) (Nat.not_le.2 ht)

end Sys2Proof.Machine
end

section
/-! PROOFS. The host's settings of a channel (its hold flag, its lot, its timing) under the events of the bays and the timers: each
event leaves them alone, function by function in the order of the model. A field equation of a channel is proved by `(rfl)`, so that
`simp` rewrites with it and does not take it for a definitional unfolding. -/

open Sys2Proof Sys2Proof.Machine

namespace Sys2Proof.Machine

/-- The hold flag, the assigned lot and the timing settings of a channel: what requests alone set (R112, R114, R117). -/
def Channel.settings (ch : Channel) : Bool × Option LotNo × Nat × Nat := (ch.hold, ch.lot, ch.stepInterval, ch.settle)

@[simp] theorem Channel.settings_fold (ch : Channel) : (ch.hold, ch.lot, ch.stepInterval, ch.settle) = ch.settings := (rfl)

@[simp] theorem Channel.settings_mk (state : ChanState) (work : Work) (fault : Option FaultRecord) (faultPending : Bool)
    (ejectBin : Bin) (hold : Bool) (lot : Option LotNo) (master : Bool) (stepInterval settle period headCyl : Nat)
    (calibrated : Bool) (last : Option LastOutcome) (media : Bool) (lines : Lines) (out : Outputs) (timers : Timers)
    (measure : Measure) (motion : Motion) (ctx : Option CopyContext) :
    (Channel.mk state work fault faultPending ejectBin hold lot master stepInterval settle period headCyl calibrated last media
      lines out timers measure motion ctx).settings = (hold, lot, stepInterval, settle) := (rfl)

/-- The settings of each channel of the part. -/
def Device.settings (d : Device) (c : Chan) : Bool × Option LotNo × Nat × Nat := (d.chan c).settings

/-! ## What a channel does by itself -/

section
variable (ch : Channel)

@[simp] theorem Channel.stopDrive_settings : ch.stopDrive.settings = ch.settings := (rfl)
@[simp] theorem Channel.pulse_settings (inward : Bool) : (ch.pulse inward).settings = ch.settings := (rfl)
@[simp] theorem Channel.startSettle_settings (m : Motion) : (ch.startSettle m).settings = ch.settings := (rfl)
@[simp] theorem Channel.enterSpinup_settings (w : Work) : (ch.enterSpinup w).settings = ch.settings := (rfl)
@[simp] theorem Channel.calibrated0_settings : ch.calibrated0.settings = ch.settings := (rfl)
@[simp] theorem Channel.startSeek_settings (target : Nat) : (ch.startSeek target).settings = ch.settings := (rfl)
@[simp] theorem Channel.openWrite_settings (x : CopyContext) (m : List Host.Cell) (n : Nat) :
    (ch.openWrite x m n).settings = ch.settings := (rfl)
@[simp] theorem Channel.closeWrite_settings : ch.closeWrite.settings = ch.settings := (rfl)
@[simp] theorem Channel.restartIndex_settings : ch.restartIndex.settings = ch.settings := (rfl)

@[simp] theorem Channel.enterCalibrating_settings : ch.enterCalibrating.settings = ch.settings := by
  unfold Channel.enterCalibrating
  dsimp only
  split <;> rfl

@[simp] theorem Channel.recalFound_settings (back : Nat) : (ch.recalFound back).settings = ch.settings := by
  unfold Channel.recalFound
  split <;> rfl

@[simp] theorem Channel.startRecal_settings : ch.startRecal.settings = ch.settings := by
  unfold Channel.startRecal
  dsimp only
  split
  · exact Channel.recalFound_settings _ _
  · rfl

@[simp] theorem Channel.position_settings (x : CopyContext) (key : Key) : (ch.position x key).settings = ch.settings := by
  unfold Channel.position
  split <;> rfl

@[simp] theorem Channel.copyPositioned_settings : ch.copyPositioned.settings = ch.settings := by
  unfold Channel.copyPositioned
  split
  · rfl
  · split <;> rfl

end

/-! ## Updates of the part -/

/-- A change of a channel that leaves its settings leaves every channel's. -/
@[simp] theorem Device.setChan_settings {d : Device} {c : Chan} {x : Channel} (h : x.settings = (d.chan c).settings) :
    (d.setChan c x).settings = d.settings := by
  funext c'
  unfold Device.settings
  rw [Device.setChan_chan]
  split
  · rename_i e; subst e; exact h
  · rfl

@[simp] theorem Device.modChan_settings {d : Device} {c : Chan} {f : Channel → Channel} (h : ∀ ch, (f ch).settings = ch.settings) :
    (d.modChan c f).settings = d.settings := Device.setChan_settings (h _)

section
variable (d : Device) (c : Chan)

@[simp] theorem Device.setLot_settings (l : LotNo) (x : Lot) : (d.setLot l x).settings = d.settings := rfl
@[simp] theorem Device.setImage_settings (i : ImageNo) (x : Image) : (d.setImage i x).settings = d.settings := rfl
@[simp] theorem Device.setCapture_settings (x : CaptureContext) : (d.setCapture x).settings = d.settings := rfl
@[simp] theorem Device.setStore_settings (st : Store) : ({ d with store := st } : Device).settings = d.settings := rfl
@[simp] theorem Device.notify_settings (k : Nat) : (d.notify k).settings = d.settings := rfl
@[simp] theorem Device.pin_settings (i : ImageNo) : (d.pin i).settings = d.settings := rfl

@[simp] theorem Device.sample_settings (l : Lines) : (d.sample c l).settings = d.settings := Device.modChan_settings fun _ => rfl
@[simp] theorem Device.setCtx_settings (x : CopyContext) : (d.setCtx c x).settings = d.settings :=
  Device.modChan_settings fun _ => rfl
@[simp] theorem Device.beginEject_settings (b : Bin) : (d.beginEject c b).settings = d.settings :=
  Device.modChan_settings fun _ => rfl

/-! ## Channels and lots (chapters 4 and 5) -/

@[simp] theorem Device.evalFeed_settings : (d.evalFeed c).settings = d.settings := by
  unfold Device.evalFeed
  split <;> simp

@[simp] theorem Device.enterIdle_settings : (d.enterIdle c).settings = d.settings := by
  simp [Device.enterIdle]

@[simp] theorem Device.completeEject_settings : (d.completeEject c).settings = d.settings := by
  unfold Device.completeEject
  split <;> simp

@[simp] theorem Device.protectedReject_settings (l : LotNo) : (d.protectedReject c l).settings = d.settings := by
  simp [Device.protectedReject]

@[simp] theorem Device.requestAdmission_settings (l : LotNo) : (d.requestAdmission c l).settings = d.settings := by
  unfold Device.requestAdmission
  dsimp only
  split
  · simp
  · split <;> simp
  all_goals simp

@[simp] theorem Device.admissionPoint_settings : (d.admissionPoint c).settings = d.settings := by
  unfold Device.admissionPoint
  split
  · rfl
  · split <;> simp

@[simp] theorem Device.enterLoaded_settings : (d.enterLoaded c).settings = d.settings := by
  simp [Device.enterLoaded]

@[simp] theorem Device.answerSignal_settings : (d.answerSignal c).settings = d.settings := by
  unfold Device.answerSignal
  split <;> simp

@[simp] theorem Device.signalOpen_settings (l : LotNo) : (d.signalOpen l).settings = d.settings := by
  have fold : ∀ (cs : List Chan) (e : Device), (cs.foldl Device.answerSignal e).settings = e.settings := by
    intro cs
    induction cs with
    | nil => intro e; rfl
    | cons c cs ih => intro e; rw [List.foldl_cons, ih, Device.answerSignal_settings]
  exact (fold _ _).trans rfl

/-! ## The copy engine (chapter 6) -/

@[simp] theorem Device.unpin_settings (i : ImageNo) : (d.unpin i).settings = d.settings :=
  funext fun c => congrArg Channel.settings ((d.unpin_rest i).1 c)

@[simp] theorem Device.accountEnd_settings (l : LotNo) (o : CopyOutcome) (n : Option Nat) :
    (d.accountEnd l o n).settings = d.settings :=
  funext fun c => congrArg Channel.settings ((d.accountEnd_rest l o n).1 c)

@[simp] theorem Device.copyEnd_settings (o : CopyOutcome) (key : Option Key) : (d.copyEnd c o key).settings = d.settings := by
  unfold Device.copyEnd
  split
  · rfl
  · rename_i x _
    dsimp only
    split <;> split <;> simp

@[simp] theorem Device.copyCut_settings (r : RejectReason) : (d.copyCut c r).settings = d.settings := by
  simp [Device.copyCut]

@[simp] theorem Device.beginTrack_settings (k : Key) : (d.beginTrack c k).settings = d.settings := by
  unfold Device.beginTrack
  split
  · rfl
  · dsimp only
    split <;> simp

@[simp] theorem Device.enterCopying_settings : (d.enterCopying c).settings = d.settings := by
  simp [Device.enterCopying]

@[simp] theorem Device.trackDone_settings : (d.trackDone c).settings = d.settings := by
  unfold Device.trackDone
  split
  · rfl
  · dsimp only
    split
    · simp
    · split <;> simp

@[simp] theorem Device.timeLimit_settings (x : CopyContext) : (d.timeLimit c x).settings = d.settings := by
  simp [Device.timeLimit]

@[simp] theorem Device.passFailed_settings (x : CopyContext) (f : VerifyFault) : (d.passFailed c x f).settings = d.settings := by
  unfold Device.passFailed
  dsimp only
  split
  · simp
  · split
    · simp
    · split
      · exact Device.modChan_settings Channel.startRecal_settings
      · simp

@[simp] theorem Device.endVerify_settings (x : CopyContext) : (d.endVerify c x).settings = d.settings := by
  unfold Device.endVerify
  split
  · rfl
  · split <;> simp

@[simp] theorem Device.endWrite_settings (x : CopyContext) : (d.endWrite c x).settings = d.settings := by
  unfold Device.endWrite
  dsimp only
  split
  · simp
  · split <;> simp

@[simp] theorem Device.copyPulse_settings : (d.copyPulse c).settings = d.settings := by
  unfold Device.copyPulse
  split
  · rfl
  · split
    · rfl
    · rfl
    · split
      · simp
      · split <;> simp
    · split <;> simp
    · simp
    · simp

@[simp] theorem Device.copyIdBlock_settings (id crcRead : List Byte) : (d.copyIdBlock c id crcRead).settings = d.settings := by
  unfold Device.copyIdBlock
  split
  · rfl
  · split <;> simp

@[simp] theorem Device.copyDataBlock_settings (m : Mark) (raw : List Byte) : (d.copyDataBlock c m raw).settings = d.settings := by
  unfold Device.copyDataBlock
  split
  · rfl
  · split <;> simp

/-! ## The capture engine (chapter 7) -/

@[simp] theorem Device.clearOwner_settings (i : Option ImageNo) : (d.clearOwner i).settings = d.settings :=
  funext fun c => congrArg Channel.settings (d.clearOwner_chan i c)

@[simp] theorem Device.captureChannelEnd_settings (r : EndReason) : (d.captureChannelEnd c r).settings = d.settings := by
  unfold Device.captureChannelEnd
  cases r <;> simp

@[simp] theorem Device.captureEnd_settings (r : EndReason) : (d.captureEnd c r).settings = d.settings := by
  simp [Device.captureEnd]

@[simp] theorem Device.beginKey_settings (k : Key) : (d.beginKey c k).settings = d.settings := by
  unfold Device.beginKey
  dsimp only
  split <;> simp

@[simp] theorem Device.enterCapturing_settings : (d.enterCapturing c).settings = d.settings := by
  simp [Device.enterCapturing]

@[simp] theorem Device.keySettled_settings : (d.keySettled c).settings = d.settings := by
  unfold Device.keySettled
  split <;> simp

@[simp] theorem Device.keyFailed_settings (r : FailReason) : (d.keyFailed c r).settings = d.settings := by
  simp [Device.keyFailed]

@[simp] theorem Device.judgeScan_settings : (d.judgeScan c).settings = d.settings := by
  unfold Device.judgeScan
  dsimp only
  repeat' split
  all_goals simp

@[simp] theorem Device.installCapture_settings : (d.installCapture c).settings = d.settings := by
  unfold Device.installCapture
  split
  · dsimp only
    split <;> simp
  · rfl

@[simp] theorem Device.judgeRead_settings : (d.judgeRead c).settings = d.settings := by
  unfold Device.judgeRead
  split
  · simp
  · split <;> simp

@[simp] theorem Device.capturePulse_settings : (d.capturePulse c).settings = d.settings := by
  unfold Device.capturePulse
  split <;> simp

@[simp] theorem Device.captureIdBlock_settings (a b n z : Byte) (crcRead : List Byte) :
    (d.captureIdBlock a b n z crcRead).settings = d.settings := by
  unfold Device.captureIdBlock
  split <;> simp

@[simp] theorem Device.captureDataBlock_settings (m : Mark) (raw : List Byte) :
    (d.captureDataBlock m raw).settings = d.settings := by
  unfold Device.captureDataBlock
  split <;> simp

@[simp] theorem Device.capturePositioned_settings : (d.capturePositioned c).settings = d.settings := by
  unfold Device.capturePositioned
  split <;> simp

/-! ## The events of a bay -/

@[simp] theorem Device.driveFault_settings (f : FaultRecord) : (d.driveFault c f).settings = d.settings := by
  unfold Device.driveFault
  split <;> simp

theorem Device.insertion_settings : (d.insertion c).settings = d.settings := by
  unfold Device.insertion
  dsimp only
  split
  · rfl
  · split <;> simp

theorem Device.removal_settings : (d.removal c).settings = d.settings := by
  unfold Device.removal
  dsimp only
  repeat' split
  all_goals simp

@[simp] theorem Device.measured_settings (p : Nat) : (d.measured c p).settings = d.settings := by
  unfold Device.measured
  split
  · exact Device.modChan_settings fun _ => Channel.enterCalibrating_settings _
  · simp

@[simp] theorem Device.pulseTaken_settings (t : Nat) : (d.pulseTaken c t).settings = d.settings := by
  unfold Device.pulseTaken
  dsimp only
  split
  · split <;> simp
  all_goals simp

@[simp] theorem Device.indexPulse_settings (t : Nat) : (d.indexPulse c t).settings = d.settings := by
  unfold Device.indexPulse
  split <;> simp

theorem Device.budgetPulse_settings : (d.budgetPulse c).settings = d.settings := by
  unfold Device.budgetPulse
  split <;> simp

theorem Device.spinUpExpired_settings : (d.spinUpExpired c).settings = d.settings := by
  unfold Device.spinUpExpired
  split <;> simp

theorem Device.indexExpired_settings : (d.indexExpired c).settings = d.settings := by
  unfold Device.indexExpired
  split <;> simp

@[simp] theorem Device.stepExpired_settings : (d.stepExpired c).settings = d.settings := by
  unfold Device.stepExpired
  split
  · rfl
  · split
    · split
      · simp
      · split
        · simp
        · exact Device.modChan_settings fun _ => rfl
    · split
      · exact Device.modChan_settings fun _ => Channel.recalFound_settings _ _
      · split
        · simp
        · exact Device.modChan_settings fun _ => rfl
    · split <;> simp
    · split <;> simp
    all_goals rfl

theorem Device.noTrack0Expired_settings : (d.noTrack0Expired c).settings = d.settings := by
  unfold Device.noTrack0Expired
  split <;> simp

@[simp] theorem Device.calibrationDone_settings : (d.calibrationDone c).settings = d.settings := by
  unfold Device.calibrationDone
  split <;> simp

@[simp] theorem Device.positioned_settings : (d.positioned c).settings = d.settings := by
  unfold Device.positioned
  split <;> simp

theorem Device.settleExpired_settings : (d.settleExpired c).settings = d.settings := by
  unfold Device.settleExpired
  split
  · rfl
  · dsimp only
    split <;> simp

theorem Device.feedExpired_settings : (d.feedExpired c).settings = d.settings := by
  unfold Device.feedExpired
  split <;> simp

theorem Device.ejectExpired_settings : (d.ejectExpired c).settings = d.settings := by
  unfold Device.ejectExpired
  split <;> simp

theorem Device.idBlockRead_settings (a b n z : Byte) (crcRead : List Byte) :
    (d.idBlockRead c a b n z crcRead).settings = d.settings := by
  unfold Device.idBlockRead
  split <;> simp

theorem Device.dataBlockRead_settings (m : Mark) (raw : List Byte) : (d.dataBlockRead c m raw).settings = d.settings := by
  unfold Device.dataBlockRead
  split <;> simp

end

end Sys2Proof.Machine
end

section
/-! PROOFS. What leaves a set notice flag set (O53): the events of the bays and timers, every request but NOTICE CLEAR and PART RESET,
and every access that works no request. -/

open Sys2Proof Sys2Proof.Machine

namespace Sys2Proof.Machine

/-! ## Flags that stay set -/

/-- Every flag that is set in `d` is set in `e`. -/
def KeepsFlags (d e : Device) : Prop := ∀ k, d.notices.flags.getLsbD k = true → e.notices.flags.getLsbD k = true

section
variable {d e : Device}

theorem KeepsFlags.of_eq (h : e.notices.flags = d.notices.flags := by rfl) : KeepsFlags d e := fun k hk => by rwa [h]

theorem KeepsFlags.notify (h : KeepsFlags d e) (n : Nat) : KeepsFlags d (e.notify n) := fun k hk => by
  change (e.notices.flags ||| noticeBit n).getLsbD k = true
  rw [BitVec.getLsbD_or, h k hk, Bool.true_or]

/-- The events of the bays, the timers, the lots and the engines set flags and clear none. -/
theorem Moves.keepsFlags (h : Moves d e) : KeepsFlags d e := by
  induction h with
  | refl => exact .of_eq
  | setChan _ _ _ ih => exact ih
  | setLot _ _ _ ih => exact ih
  | setImage _ _ _ ih => exact ih
  | notify n _ _ ih => exact ih.notify n
  | setCapture _ _ ih => exact ih
  | count _ ih => exact ih
  | vacate _ _ ih => exact ih
  | captured _ _ _ _ _ _ _ _ ih => exact ih

/-! ## Requests -/

theorem KeepsFlags.slot {n : Nat} {b : Byte} {k : Fin n → Device × Response} (h : ∀ i, KeepsFlags d (k i).1) :
    KeepsFlags d (withSlot n b d k).1 :=
  withSlot_elim (P := fun x => KeepsFlags d x.1) (fun _ => .of_eq) fun i _ => h i

theorem KeepsFlags.checks {cs : List (Bool × Completion)} {k : Device × Response} (h : KeepsFlags d k.1) :
    KeepsFlags d (checked d cs k).1 :=
  checked_elim (P := fun x => KeepsFlags d x.1) (fun _ => .of_eq) fun _ => h

theorem KeepsFlags.refused (c : Completion) : KeepsFlags d (refuse d c).1 := .of_eq

section
variable (d : Device)

theorem workImageRetire_keepsFlags (i : Byte) : KeepsFlags d (workImageRetire i d).1 :=
  .slot fun j => .checks (by
    split
    · exact (Moves.freed (Moves.refl.vacate j)).keepsFlags
    · exact .of_eq)

theorem workTrackLoad_keepsFlags (ps : LoadParams) : KeepsFlags d (workTrackLoad ps d).1 :=
  .slot fun _ => .checks (by
    split
    · exact .refused _
    · split
      · exact .of_eq
      · exact .checks .of_eq)

theorem workTrackFill_keepsFlags (ps : FillParams) : KeepsFlags d (workTrackFill ps d).1 :=
  .slot fun _ => .checks (by split <;> exact .of_eq)

theorem workTrackRemove_keepsFlags (i c h : Byte) : KeepsFlags d (workTrackRemove i c h d).1 :=
  .slot fun _ => .checks (by split <;> exact .of_eq)

theorem workTrackRead_keepsFlags (i c h : Byte) : KeepsFlags d (workTrackRead i c h d).1 :=
  .slot fun _ => .checks (by
    split
    · exact .of_eq
    · split
      · exact .of_eq
      · exact .checks .of_eq)

theorem workSectorAmend_keepsFlags (i c h j : Byte) (o : Half) (n : Byte) (bs : List Byte) :
    KeepsFlags d (workSectorAmend i c h j o n bs d).1 :=
  .slot fun _ => .checks (by
    split
    · exact .refused _
    · exact .checks .of_eq)

theorem workProfileSet_keepsFlags (ps : ProfileParams) : KeepsFlags d (workProfileSet ps d).1 :=
  .slot fun _ => .checks (by
    split
    · exact .of_eq
    · exact .checks .of_eq)

theorem workLotClose_keepsFlags (l : Byte) : KeepsFlags d (workLotClose l d).1 :=
  .slot fun l => .checks (by
    split
    · refine KeepsFlags.notify ?_ (noticeLot l)
      exact .of_eq
    · exact .of_eq)

theorem workChannelAssign_keepsFlags (c l : Byte) : KeepsFlags d (workChannelAssign c l d).1 :=
  .slot fun c => by
    split
    · exact .refused _
    · exact .checks (Device.reconsider_moves c (Moves.refl.modChan _ _)).keepsFlags

theorem workChannelClear_keepsFlags (c : Byte) : KeepsFlags d (workChannelClear c d).1 :=
  .slot fun c => by
    split
    · exact .refused _
    · rename_i e he
      exact (Device.cleared_moves he).keepsFlags

end

/-- Every request but NOTICE CLEAR and PART RESET leaves the set flags set (R173). -/
theorem work_keepsFlags {r : Request} (hr : r ≠ .partReset) (hc : ∀ m, r ≠ .noticeClear m) (d : Device) :
    KeepsFlags d (work r d).1 := by
  cases r with
  | imageCreate => exact .slot fun _ => .slot fun _ => .checks .of_eq
  | imageSeal | imageUnseal | imageDiscard => exact .slot fun _ => .checks .of_eq
  | imageRetire i => exact workImageRetire_keepsFlags d i
  | trackLoad ps => exact workTrackLoad_keepsFlags d ps
  | trackFill ps => exact workTrackFill_keepsFlags d ps
  | trackRemove i c h => exact workTrackRemove_keepsFlags d i c h
  | trackRead i c h => exact workTrackRead_keepsFlags d i c h
  | trackQuery | sectorPeek => exact .slot fun _ => .checks .of_eq
  | sectorAmend i c h j o n bs => exact workSectorAmend_keepsFlags d i c h j o n bs
  | imageQuery | profileQuery | lotQuery | channelQuery => exact .slot fun _ => .of_eq
  | streamAbort | captureQuery | noticeRead | storeStatus => exact .of_eq
  | profileSet ps => exact workProfileSet_keepsFlags d ps
  | lotCreate => exact .slot fun _ => .checks (.slot fun _ => .checks .of_eq)
  | lotStart => exact .slot fun l => .checks (Device.signalOpen_moves l (Moves.refl.setLot _ _)).keepsFlags
  | lotResume => exact .slot fun l => .checks (Device.afterResume_moves l (Moves.refl.setLot _ _)).keepsFlags
  | lotHold | lotDelete | lotMark => exact .slot fun _ => .checks .of_eq
  | lotClose l => exact workLotClose_keepsFlags d l
  | channelEnable => exact .slot fun c => .checks (Device.enterService_moves c .refl).keepsFlags
  | channelAssign c l => exact workChannelAssign_keepsFlags d c l
  | channelHold => exact .slot fun _ => .of_eq
  | channelRelease => exact .slot fun c => (Device.released_moves c .refl).keepsFlags
  | channelAbort => exact .slot fun c => .checks (Device.copyCut_moves c _ .refl).keepsFlags
  | channelDisable | channelEject | channelTiming => exact .slot fun _ => .checks .of_eq
  | channelClear c => exact workChannelClear_keepsFlags d c
  | captureStart => exact .slot fun _ => .slot fun _ => .checks .of_eq
  | captureAbort => exact .checks (Device.abortCapture_moves .refl).keepsFlags
  | noticeClear m => exact absurd rfl (hc m)
  | noticeEnable => exact .checks .of_eq
  | partReset => exact absurd rfl hr

end

/-! ## The request a frame stands for (R163) -/

/-- Whatever a row of the request summary reads has the row's code. -/
def ReadsItsCode (row : RequestRow) : Prop := ∀ ps r, row.read ps = some r → r.code = row.code

section
variable {code : Byte}

theorem ReadsItsCode.bare {r : Request} (h : r.code = code) : ReadsItsCode (rowNone code r) := by
  rintro ps _ ⟨⟩
  exact h

theorem ReadsItsCode.one {f : Byte → Request} (h : ∀ a, (f a).code = code) : ReadsItsCode (rowOne code f) := by
  intro ps r hr
  unfold rowOne at hr
  dsimp only at hr
  split at hr <;> cases hr
  exact h _

theorem ReadsItsCode.three {f : Byte → Byte → Byte → Request} (h : ∀ a b c, (f a b c).code = code) :
    ReadsItsCode (rowThree code f) := by
  intro ps r hr
  unfold rowThree at hr
  dsimp only at hr
  split at hr <;> cases hr
  exact h _ _ _

theorem ReadsItsCode.five {f : Byte → Byte → Byte → Byte → Byte → Request} (h : ∀ a b c x y, (f a b c x y).code = code) :
    ReadsItsCode (rowFive code f) := by
  intro ps r hr
  unfold rowFive at hr
  dsimp only at hr
  split at hr <;> cases hr
  exact h _ _ _ _ _

end

theorem readImageCreate_code : ReadsItsCode ⟨0x10, readImageCreate⟩ := fun ps r hr => by
  dsimp only [readImageCreate] at hr
  split at hr
  · split at hr <;> cases hr
    rfl
  · cases hr

theorem readTrackLoad_code : ReadsItsCode ⟨0x20, readTrackLoad⟩ := fun ps r hr => by
  dsimp only [readTrackLoad] at hr
  split at hr
  · split at hr <;> cases hr
    rfl
  · cases hr

theorem readTrackFill_code : ReadsItsCode ⟨0x21, readTrackFill⟩ := fun ps r hr => by
  dsimp only [readTrackFill] at hr
  split at hr <;> cases hr
  rfl

theorem readSectorPeek_code : ReadsItsCode ⟨0x25, readSectorPeek⟩ := fun ps r hr => by
  dsimp only [readSectorPeek] at hr
  split at hr <;> cases hr
  rfl

theorem readSectorAmend_code : ReadsItsCode ⟨0x26, readSectorAmend⟩ := fun ps r hr => by
  dsimp only [readSectorAmend] at hr
  split at hr <;> cases hr
  rfl

theorem readProfileSet_code : ReadsItsCode ⟨0x30, readProfileSet⟩ := fun ps r hr => by
  dsimp only [readProfileSet] at hr
  split at hr <;> cases hr
  rfl

theorem readLotCreate_code : ReadsItsCode ⟨0x40, readLotCreate⟩ := fun ps r hr => by
  dsimp only [readLotCreate] at hr
  split at hr <;> cases hr
  rfl

theorem readLotMark_code : ReadsItsCode ⟨0x46, readLotMark⟩ := fun ps r hr => by
  dsimp only [readLotMark] at hr
  split at hr <;> cases hr
  rfl

theorem readChannelAssign_code : ReadsItsCode ⟨0x52, readChannelAssign⟩ := fun ps r hr => by
  dsimp only [readChannelAssign] at hr
  split at hr <;> cases hr
  rfl

theorem readNoticeClear_code : ReadsItsCode ⟨0x71, readNoticeClear⟩ := fun ps r hr => by
  dsimp only [readNoticeClear] at hr
  split at hr <;> cases hr
  rfl

theorem readNoticeEnable_code : ReadsItsCode ⟨0x72, readNoticeEnable⟩ := fun ps r hr => by
  dsimp only [readNoticeEnable] at hr
  split at hr <;> cases hr
  rfl

theorem requestTable_readsItsCode : ∀ row ∈ requestTable, ReadsItsCode row := by
  simp only [requestTable, List.cons_append, List.nil_append, List.forall_mem_cons, List.not_mem_nil, false_implies, implies_true,
    and_true]
  exact ⟨readImageCreate_code, .one fun _ => rfl, .one fun _ => rfl, .one fun _ => rfl, .one fun _ => rfl, .one fun _ => rfl,
    readTrackLoad_code, readTrackFill_code, .three fun _ _ _ => rfl, .three fun _ _ _ => rfl, .five fun _ _ _ _ _ => rfl,
    readSectorPeek_code, readSectorAmend_code, .bare rfl, readProfileSet_code, .one fun _ => rfl, readLotCreate_code,
    .one fun _ => rfl, .one fun _ => rfl, .one fun _ => rfl, .one fun _ => rfl, .one fun _ => rfl, readLotMark_code,
    .one fun _ => rfl, .one fun _ => rfl, .one fun _ => rfl, readChannelAssign_code, .one fun _ => rfl, .one fun _ => rfl,
    .one fun _ => rfl, .one fun _ => rfl, .one fun _ => rfl, .three fun _ _ _ => rfl, .one fun _ => rfl,
    .five fun _ _ _ _ _ => rfl, .bare rfl, .bare rfl, .bare rfl, readNoticeClear_code, readNoticeEnable_code, .bare rfl,
    .bare rfl⟩

/-- The request read out of a frame has the frame's code, whatever its parameters are (R163). -/
theorem decodeRequest_code {code : Byte} {ps : List Byte} {r : Request} (h : decodeRequest code ps = .ok r) : r.code = code := by
  unfold decodeRequest at h
  split at h
  · cases h
  · rename_i row hrow
    split at h
    · cases h
    · rename_i r' hr'
      cases h
      have hcode : row.code = code := by simpa using List.find?_some hrow
      exact (requestTable_readsItsCode row (List.mem_of_find?_eq_some hrow) ps r hr').trans hcode

/-! ## The three ways a command can leave the flags set -/

/-- A frame on a ready port that is neither NOTICE CLEAR's nor PART RESET's. -/
theorem Device.postFrame_keepsFlags {d : Device} (h : PortReady d) {f : Frame} (hc : f.code ≠ 0x71) (hr : f.code ≠ 0xF0) :
    KeepsFlags d (d.postFrame f) := by
  rw [Device.postFrame_ready h]
  have refused : ∀ c, KeepsFlags d (replied (refuse (d.taking f) c)).1 := fun _ => .of_eq
  have worked : KeepsFlags d (workFrame f (d.taking f)).1 := by
    unfold workFrame
    split
    · exact refused _
    · split
      · exact refused _
      · split
        · exact refused _
        · exact refused _
        · rename_i r hd
          have hcode := decodeRequest_code hd
          exact work_keepsFlags (fun e => hr (by rw [← hcode, e]; rfl)) (fun m e => hc (by rw [← hcode, e]; rfl)) (d.taking f)
  exact worked

theorem Request.code_noticeClear {r : Request} (h : ∀ m, r ≠ .noticeClear m) : r.code ≠ 0x71 := by
  cases r with
  | noticeClear m => exact absurd rfl (h m)
  | _ => exact nofun

theorem Request.code_partReset {r : Request} (h : r ≠ .partReset) : r.code ≠ 0xF0 := by
  cases r with
  | partReset => exact absurd rfl h
  | _ => exact nofun

/-- A request row on a ready port, whatever bytes it spells. -/
theorem Device.submit_keepsFlags {d : Device} (h : PortReady d) (tag : Byte) {r : Request} (hr : r ≠ .partReset)
    (hc : ∀ m, r ≠ .noticeClear m) : KeepsFlags d (d.submit tag r) :=
  Device.access_elim (P := KeepsFlags d) (f := fun d => d.postFrame (requestFrame tag r)) .of_eq
    (Device.postFrame_keepsFlags h (Request.code_noticeClear hc) (Request.code_partReset hr))

/-- A bay or timer command takes the part through an event, which leaves the host's settings. -/
theorem exec_bay {c : Instr} {s t : State} (h : exec c s = .next t) (hb : (bayOf c).isSome = true) :
    Moves s.dev t.dev ∧ t.dev.settings = s.dev.settings := by
  have sampled : ∀ c l, Moves s.dev (s.dev.sample c l) := fun c l => Moves.refl.sample c l
  have unset : ∀ c l {e : Device}, e.settings = (s.dev.sample c l).settings → e.settings = s.dev.settings := fun c l _ he =>
    he.trans (s.dev.sample_settings c l)
  cases c with
  | insertion c l => cases h; exact ⟨Device.insertion_moves c (sampled c l), unset c l (Device.insertion_settings ..)⟩
  | removal c l => cases h; exact ⟨Device.removal_moves c (sampled c l), unset c l (Device.removal_settings ..)⟩
  | indexPulse c l n => cases h; exact ⟨Device.indexPulse_moves c n (sampled c l), unset c l (Device.indexPulse_settings ..)⟩
  | idBlock c a b n z hi lo => cases h; exact ⟨Device.idBlockRead_moves c a b n z _ .refl, Device.idBlockRead_settings ..⟩
  | dataBlock c m raw => cases h; exact ⟨Device.dataBlockRead_moves c m raw .refl, Device.dataBlockRead_settings ..⟩
  | revolutionBudget c l => cases h; exact ⟨Device.budgetPulse_moves c (sampled c l), unset c l (Device.budgetPulse_settings ..)⟩
  | spinUpWait c l => cases h; exact ⟨Device.spinUpExpired_moves c (sampled c l), unset c l (Device.spinUpExpired_settings ..)⟩
  | indexTimeout c l => cases h; exact ⟨Device.indexExpired_moves c (sampled c l), unset c l (Device.indexExpired_settings ..)⟩
  | stepInterval c l => cases h; exact ⟨Device.stepExpired_moves c (sampled c l), unset c l (Device.stepExpired_settings ..)⟩
  | noTrack0 c l => cases h; exact ⟨Device.noTrack0Expired_moves c (sampled c l), unset c l (Device.noTrack0Expired_settings ..)⟩
  | settle c l => cases h; exact ⟨Device.settleExpired_moves c (sampled c l), unset c l (Device.settleExpired_settings ..)⟩
  | feedTimeout c l => cases h; exact ⟨Device.feedExpired_moves c (sampled c l), unset c l (Device.feedExpired_settings ..)⟩
  | ejectTimeout c l => cases h; exact ⟨Device.ejectExpired_moves c (sampled c l), unset c l (Device.ejectExpired_settings ..)⟩
  | _ => cases hb

theorem Device.readBody_notices (d : Device) : d.readBody.notices = d.notices := by
  unfold Device.readBody
  split
  · rfl
  · split <;> rfl

theorem Device.writeStreamByte_notices (d : Device) (v : Byte) : (d.writeStreamByte v).notices = d.notices := by
  unfold Device.writeStreamByte
  split
  · dsimp only
    split <;> rfl
  all_goals rfl

theorem Device.readStreamByte_notices (d : Device) : d.readStreamByte.notices = d.notices := by
  unfold Device.readStreamByte
  split
  · dsimp only
    split <;> rfl
  all_goals rfl

/-- An access that takes no request from the queue leaves the notice unit as it is. -/
theorem exec_access_notices {c : Instr} {s t : State} (h : exec c s = .next t) (hr : c.request? = none) (hb : bayOf c = none)
    (hpost : c ≠ .post) (hnext : c ≠ .nextReply) (hreset : c ≠ .reset) (hpower : c ≠ .powerOn) :
    t.dev.notices = s.dev.notices := by
  have write : ∀ f : Device → Device, (f s.dev).notices = s.dev.notices → (s.dev.access f).notices = s.dev.notices := fun f hf =>
    Device.access_elim (P := fun d => d.notices = s.dev.notices) rfl hf
  have read : ∀ f : Device → Device, (f s.dev).notices = s.dev.notices → (s.dev.readAccess f).notices = s.dev.notices :=
    fun f hf => Device.readAccess_elim (P := fun d => d.notices = s.dev.notices) rfl hf
  cases c with
  | frameWrite b => cases h; exact write (fun d => d.openFrame b) rfl
  | bodyWrite b => cases h; exact write (fun d => d.writeBody b) rfl
  | bodyRead => cases h; exact read Device.readBody s.dev.readBody_notices
  | cancelFrame => cases h; exact write Device.cancelFrame rfl
  | streamWrite v => cases h; exact write (fun d => d.writeStreamByte v) (s.dev.writeStreamByte_notices v)
  | streamRead => cases h; exact read Device.readStreamByte s.dev.readStreamByte_notices
  | resetInputRelease => cases h; rfl
  | post => exact absurd rfl hpost
  | nextReply => exact absurd rfl hnext
  | reset => exact absurd rfl hreset
  | powerOn => exact absurd rfl hpower
  | insertion | removal | indexPulse | idBlock | dataBlock | revolutionBudget | spinUpWait | indexTimeout | stepInterval | noTrack0
  | settle | feedTimeout | ejectTimeout => cases hb
  | _ => cases hr

/-- Settles O53. A bay or timer command is a chain of moves, none of which clears a flag, touches the port or the settings; a request
other than NOTICE CLEAR and PART RESET clears none either; the other accesses leave the notice unit as it is. -/
theorem noticesStaySet : Obligations.NoticesStaySet := by
  intro c s t h
  refine ⟨fun hb => ?_, fun hc => ?_⟩
  · obtain ⟨hmoves, hsettings⟩ := exec_bay h hb
    obtain ⟨hprofiles, hinput, henable, hhigh⟩ := hmoves.still
    refine ⟨hmoves.port, hprofiles, hinput, henable, hhigh, fun n => ?_⟩
    have hn : (t.dev.chan n).settings = (s.dev.chan n).settings := congrFun hsettings n
    simpa only [Channel.settings, Prod.mk.injEq] using hn
  · change KeepsFlags s.dev t.dev
    rcases hc with hb | ⟨tag, r, hr, hready, hreset, hclear⟩ | ⟨hr, hpost, hnext, hreset, hpower⟩
    · exact (exec_bay h hb).1.keepsFlags
    · rw [exec_row hr] at h
      cases h
      exact Device.submit_keepsFlags hready tag hreset hclear
    · cases hb : bayOf c with
      | some b => exact (exec_bay h (by rw [hb]; rfl)).1.keepsFlags
      | none => exact .of_eq (congrArg Notices.flags (exec_access_notices h hr hb hpost hnext hreset hpower))

end Sys2Proof.Machine
end

section
/-! PROOFS. What keeps one drive channel in order: a channel at rest may take any state of rest, a working one moves its head, changes its
copy context and passes from one working state to the next. -/

open Sys2Proof Sys2Proof.Machine

namespace Sys2Proof.Machine

section
variable {ch : Channel}

/-! ## What the invariant speaks of -/

/-- All of a channel that its invariant speaks of, but for the head movement. -/
def Channel.core (ch : Channel) : ChanState × Work × Option CopyContext × (Bool × Bool × Bool × Bool × Bin) ×
    (Bool × Bool × Bool × Bool) × Bin × Bool × Bool × Bool × Bool :=
  (ch.state, ch.work, ch.ctx, (ch.out.motor, ch.out.writeGate, ch.out.feed, ch.out.eject, ch.out.bin),
    (ch.timers.index.isSome, ch.timers.spinUp.isSome, ch.timers.feed.isSome, ch.timers.eject.isSome), ch.ejectBin,
    ch.faultPending, ch.fault.isSome, ch.media, ch.master)

/-- What lies outside the core changes freely; a calibration goes on in CALIBRATING alone. -/
theorem ChannelOk.ofCore (h : ChannelOk ch) {ch' : Channel} (hcore : ch'.core = ch.core)
    (hcal : ch'.motion.calibrates = true → ch.state = .calibrating) : ChannelOk ch' := by
  simp only [Channel.core, Prod.mk.injEq] at hcore
  obtain ⟨hstate, hwork, hctx, ⟨hmotor, hgate, hfeed, heject, hbin⟩, ⟨hindex, hspin, hft, het⟩, hejectBin, hpending, hfault, hmedia,
    hmaster⟩ := hcore
  constructor
  · rw [WorkOk, hstate, hwork]; exact h.work
  · rw [hctx, hwork]; exact h.context
  · rw [hmotor, hstate]; exact h.motor
  · rw [hindex, hstate, ← Option.not_isSome, hspin, Option.not_isSome]; exact h.monitored
  · rw [hspin, hstate]; exact h.spinUp
  · rw [hfeed, hstate]; exact h.feed
  · rw [hft, hstate]; exact h.feedTimer
  · rw [heject, hstate]; exact h.eject
  · rw [het, hstate]; exact h.ejectTimer
  · rw [hbin, hstate, hejectBin]; exact h.bin
  · rw [hpending, hstate, hfault]; exact h.pendingFault
  · rw [hstate, hfault]; exact h.faulted
  · rw [SeatedOk, hstate, hmedia]; exact h.seated
  · rw [hmaster, hmedia]; exact h.master
  · rw [hgate, hstate, hctx]; exact h.gate
  · rw [hstate, hctx]; exact h.held
  · rw [hstate]; exact hcal
  · rw [hctx]; exact h.plan

/-- A change outside the core that leaves the head movement as it is. -/
theorem ChannelOk.aside (h : ChannelOk ch) {ch' : Channel} (hcore : ch'.core = ch.core) (hm : ch'.motion = ch.motion) :
    ChannelOk ch' := h.ofCore hcore (by rw [hm]; exact h.calibration)

/-! ## A channel at rest -/

/-- What makes a channel one at rest. -/
def Channel.still (ch : Channel) : Work × Option CopyContext × (Bool × Bool × Bool × Bool) ×
    (Option Nat × Option Nat × Option Nat × Option Nat) × Bool :=
  (ch.work, ch.ctx, (ch.out.motor, ch.out.writeGate, ch.out.feed, ch.out.eject),
    (ch.timers.index, ch.timers.spinUp, ch.timers.feed, ch.timers.eject), ch.motion.calibrates)

/-- A channel at rest: no work, no copy, every line but bin select inactive, their timers stopped, and no calibration. -/
def Quiet (ch : Channel) : Prop :=
  ch.still = (.none, none, (false, false, false, false), (none, none, none, none), false)

/-- A channel at rest that ejects nothing. -/
structure Settled (ch : Channel) : Prop where
  quiet : Quiet ch
  bin : ch.out.bin = .good
  pending : ch.faultPending = false
  master : ch.master = true → ch.media = true

theorem ChanState.ne_of_works {s t : ChanState} (hs : s.works = false) (ht : t.works = true) : s ≠ t := by
  rintro rfl
  exact nomatch hs.symm.trans ht

/-- Only a working channel has work (R92). -/
theorem workOk_iff_none (hs : ch.state.works = false) : WorkOk ch ↔ ch.work = .none := by
  unfold WorkOk
  revert hs
  cases ch.state <;> intro hs <;> first | exact Iff.rfl | cases hs

/-- A channel that does not work is at rest but for its feed and eject lines and their timers. -/
theorem ChannelOk.still_eq (h : ChannelOk ch) (hs : ch.state.works = false) : ch.still =
    (.none, none, (false, false, ch.out.feed, ch.out.eject), (none, none, ch.timers.feed, ch.timers.eject), false) := by
  have hgate : ch.out.writeGate = false := Bool.eq_false_iff.2 fun e => ChanState.ne_of_works hs rfl (h.gate e).1
  have hspin : ch.timers.spinUp = none := Option.not_isSome_iff_eq_none.1 fun e => ChanState.ne_of_works hs rfl (h.spinUp e)
  have hcal : ch.motion.calibrates = false := Bool.eq_false_iff.2 fun e => ChanState.ne_of_works hs rfl (h.calibration e)
  have hindex : ch.timers.index = none := Option.not_isSome_iff_eq_none.1 (by rw [h.monitored, hs]; exact Bool.false_ne_true)
  rw [Channel.still, (workOk_iff_none hs).1 h.work, h.rest hs, h.motor, hs, hgate, hspin, hcal, hindex]

theorem ChannelOk.feed_off (h : ChannelOk ch) (hs : ch.state ≠ .feeding) : ch.out.feed = false ∧ ch.timers.feed = none := by
  have hf := h.feed
  have ht := h.feedTimer
  rw [beq_false_of_ne hs] at hf ht
  exact ⟨hf, by simpa using ht⟩

theorem ChannelOk.eject_off (h : ChannelOk ch) (hs : ch.state ≠ .ejecting) : ch.out.eject = false ∧ ch.timers.eject = none := by
  have hf := h.eject
  have ht := h.ejectTimer
  rw [beq_false_of_ne hs] at hf ht
  exact ⟨hf, by simpa using ht⟩

/-- Bin select and fault pending while nothing is ejected (R93, R106). -/
theorem ChannelOk.ejects_nothing (h : ChannelOk ch) (he : ch.state ≠ .ejecting) (hj : ch.state ≠ .jammed) :
    ch.out.bin = .good ∧ ch.faultPending = false := by
  refine ⟨h.bin.trans (if_neg (not_or.2 ⟨he, hj⟩)), Bool.eq_false_iff.2 fun e => ?_⟩
  exact (h.pendingFault e).1.elim he hj

/-- The states in which a channel is at rest and ejects nothing. -/
def ChanState.settles : ChanState → Bool
  | .offline | .idle | .starved | .loaded | .fault => true
  | .feeding | .ejecting | .jammed | .spinup | .calibrating | .copying | .held | .capturing => false

theorem ChanState.not_works_of_settles {s : ChanState} (hs : s.settles = true) : s.works = false := by
  revert hs
  cases s <;> decide

theorem ChanState.ne_of_settles {s t : ChanState} (hs : s.settles = true) (ht : t.settles = false) : s ≠ t := by
  rintro rfl
  exact nomatch hs.symm.trans ht

theorem ChannelOk.settled (h : ChannelOk ch) (hs : ch.state.settles = true) : Settled ch := by
  obtain ⟨hbin, hpending⟩ := h.ejects_nothing (ChanState.ne_of_settles hs rfl) (ChanState.ne_of_settles hs rfl)
  obtain ⟨hf, hft⟩ := h.feed_off (ChanState.ne_of_settles hs rfl)
  obtain ⟨he, het⟩ := h.eject_off (ChanState.ne_of_settles hs rfl)
  exact ⟨by rw [Quiet, h.still_eq (ChanState.not_works_of_settles hs), hf, he, hft, het], hbin, hpending, h.master⟩

/-- A FEEDING channel whose feed line has dropped (R96, R97). -/
theorem ChannelOk.fed (h : ChannelOk ch) (hs : ch.state = .feeding) :
    Settled { ch with out := { ch.out with feed := false }, timers := { ch.timers with feed := none } } := by
  obtain ⟨hbin, hpending⟩ := h.ejects_nothing (by rw [hs]; decide) (by rw [hs]; decide)
  obtain ⟨he, het⟩ := h.eject_off (by rw [hs]; decide)
  have hq := h.still_eq (by rw [hs]; rfl)
  simp only [Channel.still, Prod.mk.injEq] at hq
  refine ⟨?_, hbin, hpending, h.master⟩
  simp [Quiet, Channel.still, hq, he, het]

/-- An EJECTING or JAMMED channel whose eject line has dropped (R106). -/
theorem ChannelOk.ejected (h : ChannelOk ch) (hs : ch.state = .ejecting ∨ ch.state = .jammed) :
    Quiet { ch with out := { ch.out with eject := false }, timers := { ch.timers with eject := none } } := by
  have hw : ch.state.works = false := by rcases hs with hs | hs <;> rw [hs] <;> rfl
  obtain ⟨hf, hft⟩ := h.feed_off (by rcases hs with hs | hs <;> rw [hs] <;> decide)
  have hq := h.still_eq hw
  simp only [Channel.still, Prod.mk.injEq] at hq
  simp [Quiet, Channel.still, hq, hf, hft]

/-- A working channel whose drive has stopped, its work being over (R105, R108). -/
theorem ChannelOk.stopped (h : ChannelOk ch) (hs : ch.state.works = true) :
    Quiet { ch.stopDrive with work := .none, ctx := none } := by
  have ne : ∀ s : ChanState, s.works = false → ch.state ≠ s := fun s hn => (ChanState.ne_of_works hn hs).symm
  obtain ⟨hf, -⟩ := h.feed_off (ne _ rfl)
  obtain ⟨he, -⟩ := h.eject_off (ne _ rfl)
  simp [Quiet, Channel.still, Channel.stopDrive, hf, he, Timers.stopped, Motion.calibrates]

/-! ## States that a channel at rest may take -/

/-- A channel that does not work is in order when its feed and eject lines, their timers, bin select, the fault record and the media
level are as its state asks. -/
theorem ChannelOk.of_still {feed eject : Option Nat} (hw : ch.state.works = false)
    (hstill : ch.still = (.none, none, (false, false, ch.state == .feeding, ch.state == .ejecting), (none, none, feed, eject), false))
    (hfeed : feed.isSome = (ch.state == .feeding)) (heject : eject.isSome = (ch.state == .ejecting))
    (hbin : ch.out.bin = if ch.state = .ejecting ∨ ch.state = .jammed then ch.ejectBin else .good)
    (hpending : ch.faultPending = true → (ch.state = .ejecting ∨ ch.state = .jammed) ∧ ch.fault.isSome = true)
    (hfault : ch.state = .fault → ch.fault.isSome = true) (hseated : SeatedOk ch) (hmaster : ch.master = true → ch.media = true) :
    ChannelOk ch := by
  simp only [Channel.still, Prod.mk.injEq] at hstill
  obtain ⟨hwork, hctx, ⟨hmotor, hgate, hf, he⟩, ⟨hindex, hspin, rfl, rfl⟩, hcal⟩ := hstill
  exact
    { work := (workOk_iff_none hw).2 hwork
      context := by rw [hctx, hwork]; rfl
      motor := by rw [hmotor, hw]
      monitored := by rw [hindex, hw]; rfl
      spinUp := by rw [hspin]; exact nofun
      feed := hf
      feedTimer := hfeed
      eject := he
      ejectTimer := heject
      bin := hbin
      pendingFault := hpending
      faulted := hfault
      seated := hseated
      master := hmaster
      gate := by rw [hgate]; exact nofun
      held := fun e => absurd e (ChanState.ne_of_works hw rfl)
      calibration := by rw [hcal]; exact nofun
      plan := by
        rw [hctx]
        intro x e
        cases e }

theorem Settled.enter (q : Settled ch) (hs : ch.state.settles = true) (hfault : ch.state = .fault → ch.fault.isSome = true)
    (hseated : SeatedOk ch) : ChannelOk ch := by
  have hfeeding : (ch.state == .feeding) = false := beq_false_of_ne (ChanState.ne_of_settles hs rfl)
  have hejecting : (ch.state == .ejecting) = false := beq_false_of_ne (ChanState.ne_of_settles hs rfl)
  refine .of_still (feed := none) (eject := none) (ChanState.not_works_of_settles hs) ?_ ?_ ?_ ?_ ?_ hfault hseated q.master
  · rw [hfeeding, hejecting]; exact q.quiet
  · rw [hfeeding]; rfl
  · rw [hejecting]; rfl
  · rw [q.bin, if_neg (not_or.2 ⟨ChanState.ne_of_settles hs rfl, ChanState.ne_of_settles hs rfl⟩)]
  · rw [q.pending]; exact nofun

theorem Settled.idle (q : Settled ch) (hm : ch.media = false) : ChannelOk { ch with state := .idle } :=
  Settled.enter (ch := { ch with state := .idle }) ⟨q.quiet, q.bin, q.pending, q.master⟩ rfl nofun hm

theorem Settled.loaded (q : Settled ch) (hm : ch.media = true) : ChannelOk { ch with state := .loaded } :=
  Settled.enter (ch := { ch with state := .loaded }) ⟨q.quiet, q.bin, q.pending, q.master⟩ rfl nofun hm

theorem Settled.starved (q : Settled ch) (hm : ch.media = false) : ChannelOk { ch with state := .starved } :=
  Settled.enter (ch := { ch with state := .starved }) ⟨q.quiet, q.bin, q.pending, q.master⟩ rfl nofun hm

theorem Settled.fault (q : Settled ch) (hf : ch.fault.isSome = true) : ChannelOk { ch with state := .fault } :=
  Settled.enter (ch := { ch with state := .fault }) ⟨q.quiet, q.bin, q.pending, q.master⟩ rfl (fun _ => hf) trivial

theorem Settled.offline (q : Settled ch) : ChannelOk ch.disabled := by
  have hq := q.quiet
  simp only [Quiet, Channel.still, Prod.mk.injEq] at hq
  refine Settled.enter (ch := ch.disabled) ⟨?_, rfl, rfl, q.master⟩ rfl nofun trivial
  simp [Quiet, Channel.still, Channel.disabled, Outputs.inactive, hq]

/-- The feed begins in IDLE (R96). -/
theorem ChannelOk.feeds (h : ChannelOk ch) (hs : ch.state = .idle) (ms : Nat) : ChannelOk
    { ch with state := .feeding, out := { ch.out with feed := true }, timers := { ch.timers with feed := some ms } } := by
  have q : Settled ch := h.settled (by rw [hs]; rfl)
  have hq := q.quiet
  simp only [Quiet, Channel.still, Prod.mk.injEq] at hq
  have hseated : SeatedOk ch := h.seated
  rw [SeatedOk, hs] at hseated
  refine .of_still (feed := some ms) (eject := none) rfl ?_ rfl rfl q.bin ?_ nofun hseated q.master
  · simp [Channel.still, hq]
  · exact fun e => nomatch q.pending.symm.trans e

/-- An eject begins on a channel at rest with its diskette (R106). -/
theorem Quiet.ejects (q : Quiet ch) (hm : ch.media = true) (hf : ch.faultPending = true → ch.fault.isSome = true) (bin : Bin)
    (ms : Nat) : ChannelOk { ch with state := .ejecting, ejectBin := bin, out := { ch.out with bin := bin, eject := true },
                                     timers := { ch.timers with eject := some ms } } := by
  simp only [Quiet, Channel.still, Prod.mk.injEq] at q
  refine .of_still (feed := none) (eject := some ms) rfl ?_ rfl rfl rfl (fun e => ⟨.inl rfl, hf e⟩) nofun hm fun _ => hm
  simp [Channel.still, q]

/-- The eject timer has expired: bin select and fault pending stay (R106). -/
theorem ChannelOk.jams (h : ChannelOk ch) (hs : ch.state = .ejecting) : ChannelOk
    { ch with state := .jammed, out := { ch.out with eject := false }, timers := { ch.timers with eject := none } } := by
  have hbin := h.bin
  have hseated := h.seated
  rw [if_pos (.inl hs)] at hbin
  rw [SeatedOk, hs] at hseated
  exact .of_still (feed := none) (eject := none) rfl (h.ejected (.inl hs)) rfl rfl hbin
    (fun e => ⟨.inr rfl, (h.pendingFault e).2⟩) nofun hseated h.master

/-! ## A working channel -/

/-- A LOADED channel begins to spin up for a copy or for a capture (R100). -/
theorem ChannelOk.spinsUp (h : ChannelOk ch) (hs : ch.state = .loaded) {w : Work} {o : Option CopyContext} (hw : w ≠ .none)
    (ho : o.isSome = (w == .copy)) (hx : ∀ x, o = some x → x.plan = none ∧ x.phase = none) :
    ChannelOk { ch.enterSpinup w with ctx := o } := by
  have q : Settled ch := h.settled (by rw [hs]; rfl)
  have hq := q.quiet
  simp only [Quiet, Channel.still, Prod.mk.injEq] at hq
  obtain ⟨-, -, ⟨-, hgate, hfeed, heject⟩, ⟨hindex, -, hft, het⟩, -⟩ := hq
  have hseated := h.seated
  rw [SeatedOk, hs] at hseated
  exact
    { work := hw
      context := ho
      motor := rfl
      monitored := by simp [Channel.enterSpinup, hindex]
      spinUp := fun _ => rfl
      feed := hfeed
      feedTimer := by simp [Channel.enterSpinup, hft]
      eject := heject
      ejectTimer := by simp [Channel.enterSpinup, het]
      bin := q.bin
      pendingFault := fun e => nomatch q.pending.symm.trans e
      faulted := nofun
      seated := hseated
      master := h.master
      gate := fun e => nomatch hgate.symm.trans e
      held := nofun
      calibration := nofun
      plan := fun x e => by
        obtain ⟨hp, hph⟩ := hx x e
        refine ⟨by rw [hp, hph]; rfl, ?_⟩
        rw [hp]
        intro p e
        cases e }

/-- A working channel has its diskette (R109). -/
theorem seatedOk_iff_of_works (hs : ch.state.works = true) : SeatedOk ch ↔ ch.media = true := by
  unfold SeatedOk
  revert hs
  cases ch.state <;> intro hs <;> first | exact Iff.rfl | cases hs

/-- What of a working channel does not depend on which working state it is in. -/
theorem ChannelOk.toState (h : ChannelOk ch) (hs : ch.state.works = true) {s : ChanState} (hnew : s.works = true)
    (hwork : WorkOk { ch with state := s }) (hspin : ch.timers.spinUp = none) (hgate : ch.out.writeGate = false)
    (hheld : s = .held → ch.ctx.bind CopyContext.phase = none) (hcal : ch.motion.calibrates = true → s = .calibrating) :
    ChannelOk { ch with state := s } := by
  have rest : ∀ t : ChanState, t.works = false → ch.state ≠ t ∧ s ≠ t := fun t ht =>
    ⟨(ChanState.ne_of_works ht hs).symm, (ChanState.ne_of_works ht hnew).symm⟩
  obtain ⟨hf, hft⟩ := h.feed_off (rest _ rfl).1
  obtain ⟨he, het⟩ := h.eject_off (rest _ rfl).1
  obtain ⟨hbin, hpending⟩ := h.ejects_nothing (rest _ rfl).1 (rest _ rfl).1
  have hseated : SeatedOk { ch with state := s } := (seatedOk_iff_of_works hnew).2 ((seatedOk_iff_of_works hs).1 h.seated)
  exact
    { work := hwork
      context := h.context
      motor := h.motor.trans (hs.trans hnew.symm)
      monitored := by rw [h.monitored, hs]; exact congrArg (· && _) hnew.symm
      spinUp := by rw [hspin]; exact nofun
      feed := hf.trans (beq_false_of_ne (rest _ rfl).2).symm
      feedTimer := by rw [hft]; exact (beq_false_of_ne (rest _ rfl).2).symm
      eject := he.trans (beq_false_of_ne (rest _ rfl).2).symm
      ejectTimer := by rw [het]; exact (beq_false_of_ne (rest _ rfl).2).symm
      bin := hbin.trans (if_neg (not_or.2 ⟨(rest _ rfl).2, (rest _ rfl).2⟩)).symm
      pendingFault := fun e => nomatch hpending.symm.trans e
      faulted := fun e => absurd e (rest _ rfl).2
      seated := hseated
      master := h.master
      gate := fun e => nomatch hgate.symm.trans e
      held := hheld
      calibration := hcal
      plan := h.plan }

/-- The copy context of a channel changes. -/
theorem ChannelOk.withCtx (h : ChannelOk ch) (hw : ch.work = .copy) {y : CopyContext} (hy : ContextOk y)
    (hgate : ch.out.writeGate = true → y.phase = some .write) (hheld : ch.state = .held → y.phase = none) :
    ChannelOk { ch with ctx := some y } :=
  { h with
    context := by rw [hw]; rfl
    gate := fun e => ⟨(h.gate e).1, hgate e⟩
    held := hheld
    plan := fun x e => by
      cases e
      exact hy }

end

end Sys2Proof.Machine
end

section
/-! PROOFS. What a drive channel does by itself keeps the channels in order: feeding, the admission point, ejecting, and the ends of a copy
and of a capture. -/

open Sys2Proof Sys2Proof.Machine

namespace Sys2Proof.Machine

section
variable {d e : Device} {c : Chan} {ch : Channel} {l : LotNo}

/-! ## One channel changes, the others stay in order -/

/-- The capture in progress is the one on channel `c` (R143). -/
def Device.capturesOn (d : Device) (c : Chan) : Prop := d.capture.state = .running ∧ d.capture.channel = some c

/-- Every channel but `c` is in order. -/
def BaysBut (d : Device) (c : Chan) : Prop :=
  ∀ c', c' ≠ c → ChannelOk (d.chan c') ∧ ((d.chan c').work = .capture ↔ d.capturesOn c')

theorem BaysOk.but (h : BaysOk d) (c : Chan) : BaysBut d c := fun c' _ => ⟨h.channel c', h.capture c'⟩

/-- Where there is no work CAPTURE there is no capture. -/
theorem BaysOk.notCapturing (h : BaysOk d) (hw : (d.chan c).work ≠ .capture) : ¬ d.capturesOn c := fun hc => hw ((h.capture c).2 hc)

/-- The channels and the capture's channel are as they were. -/
theorem BaysOk.same (h : BaysOk d) (hc : ∀ c, e.chan c = d.chan c)
    (hcap : (e.capture.state, e.capture.channel) = (d.capture.state, d.capture.channel)) : BaysOk e := by
  simp only [Prod.mk.injEq] at hcap
  exact ⟨fun c => by rw [hc]; exact h.channel c, fun c => by rw [hc, hcap.1, hcap.2]; exact h.capture c⟩

theorem BaysBut.same (h : BaysBut d c) (hc : ∀ c', c' ≠ c → e.chan c' = d.chan c')
    (hcap : (e.capture.state, e.capture.channel) = (d.capture.state, d.capture.channel)) : BaysBut e c := by
  simp only [Prod.mk.injEq] at hcap
  intro c' hc'
  rw [hc c' hc', Device.capturesOn, hcap.1, hcap.2]
  exact h c' hc'

theorem BaysBut.notify (h : BaysBut d c) (k : Nat) : BaysBut (d.notify k) c := h.same (fun _ _ => rfl) rfl

theorem BaysBut.modChan (h : BaysBut d c) (f : Channel → Channel) : BaysBut (d.modChan c f) c :=
  h.same (fun _ hc' => Device.modChan_chan_ne _ _ hc'.symm) rfl

theorem BaysBut.put (h : BaysBut d c) (ch : Channel) : BaysBut (d.setChan c ch) c :=
  h.same (fun _ hc' => Device.setChan_chan_ne _ _ hc'.symm) rfl

/-- Channel `c` takes a state in order again. -/
theorem BaysBut.setChan (h : BaysBut d c) (hch : ChannelOk ch) (hw : ch.work = .capture ↔ d.capturesOn c) :
    BaysOk (d.setChan c ch) := by
  have hall : ∀ c', ChannelOk ((d.setChan c ch).chan c') ∧ (((d.setChan c ch).chan c').work = .capture ↔ d.capturesOn c') := by
    intro c'
    rw [Device.setChan_chan]
    split
    · rename_i e
      exact e ▸ ⟨hch, hw⟩
    · rename_i e
      exact h c' (Ne.symm e)
  exact ⟨fun c' => (hall c').1, fun c' => (hall c').2⟩

theorem BaysBut.setRest (h : BaysBut d c) (hn : ¬ d.capturesOn c) (hch : ChannelOk ch) (hw : ch.work ≠ .capture) :
    BaysOk (d.setChan c ch) := h.setChan hch ⟨fun e => absurd e hw, fun e => absurd e hn⟩

theorem BaysOk.setChan (h : BaysOk d) (hch : ChannelOk ch) (hw : ch.work = (d.chan c).work) : BaysOk (d.setChan c ch) :=
  (h.but c).setChan hch (by rw [hw]; exact h.capture c)

theorem BaysOk.modChan (h : BaysOk d) {f : Channel → Channel} (hch : ChannelOk (f (d.chan c)))
    (hw : (f (d.chan c)).work = (d.chan c).work) : BaysOk (d.modChan c f) := h.setChan hch hw

theorem BaysOk.notify (h : BaysOk d) (k : Nat) : BaysOk (d.notify k) := h.same (fun _ => rfl) rfl

theorem Quiet.work (q : Quiet ch) : ch.work = .none := congrArg Prod.fst q

theorem Quiet.not_capture (q : Quiet ch) : ch.work ≠ .capture := by
  rw [q.work]
  decide

/-! ## Feeding (R96) -/

theorem BaysOk.evalFeed (h : BaysOk d) (c : Chan) : BaysOk (d.evalFeed c) := by
  by_cases hf : (d.chan c).state = .idle ∧ d.feedCondition c = true
  · rw [Device.evalFeed_feeds hf.1 hf.2]
    exact h.modChan ((h.channel c).feeds hf.1 _) rfl
  · rw [Device.evalFeed_rests hf]
    exact h

/-- Entry into IDLE (R96). -/
theorem BaysBut.enterIdle (h : BaysBut d c) (hn : ¬ d.capturesOn c) (q : Settled (d.chan c)) (hm : (d.chan c).media = false) :
    BaysOk (d.enterIdle c) := BaysOk.evalFeed (h.setRest hn (q.idle hm) q.quiet.not_capture) c

/-! ## The admission point (R98, R99) -/

theorem BaysOk.protectedReject (h : BaysOk d) (hs : (d.chan c).state = .loaded) (l : LotNo) : BaysOk (d.protectedReject c l) := by
  have hok := h.channel c
  have q : Settled (d.chan c) := hok.settled (by rw [hs]; rfl)
  have hm := hok.seated
  rw [SeatedOk, hs] at hm
  have hlot : BaysOk (d.setLot l (d.lot l).protectedReject) := h.same (fun _ => rfl) rfl
  have heject := q.quiet.ejects hm (fun e => nomatch q.pending.symm.trans e) .reject 3000
  rw [Device.protectedReject_eq]
  exact (hlot.setChan (heject.aside (ch' := { d.chan c with
    state := .ejecting, ejectBin := .reject, out := { (d.chan c).out with bin := .reject, eject := true }
    timers := { (d.chan c).timers with eject := some 3000 }, last := some (protectedOutcome l) }) rfl rfl) rfl).notify _

theorem BaysOk.requestAdmission (h : BaysOk d) (hs : (d.chan c).state = .loaded) (l : LotNo) : BaysOk (d.requestAdmission c l) := by
  have hok := h.channel c
  have q : Settled (d.chan c) := hok.settled (by rw [hs]; rfl)
  have hn : ¬ d.capturesOn c := h.notCapturing q.quiet.not_capture
  have hlot : BaysOk (d.setLot l (d.lot l).admission.1) := h.same (fun _ => rfl) rfl
  cases ha : (d.lot l).admission.2 with
  | granted o =>
    rw [Device.requestAdmission_granted ha]
    have hpin : BaysBut ((d.setLot l (d.lot l).admission.1).pin (d.lot l).image) c := (h.but c).same (fun _ _ => rfl) rfl
    exact hpin.setRest hn (hok.spinsUp hs (w := .copy) (o := some (beginContext l (d.lot l) o)) (by decide) rfl
      fun x e => by cases e; exact ⟨rfl, rfl⟩) nofun
  | exhausted =>
    unfold Device.requestAdmission
    dsimp only
    rw [ha]
    dsimp only
    split
    · exact hlot.notify _
    · exact hlot
  | notRunning | filled | closed | full =>
    unfold Device.requestAdmission
    dsimp only
    rw [ha]
    exact hlot

theorem BaysOk.admissionPoint (h : BaysOk d) (c : Chan) : BaysOk (d.admissionPoint c) := by
  cases hl : d.admissionLot c with
  | none => rw [Device.admissionPoint_none hl]; exact h
  | some l =>
    have hs := Device.admissionLot_loaded hl
    rw [Device.admissionPoint_some hl]
    split
    · exact h.protectedReject hs l
    · exact h.requestAdmission hs l

/-- Entry into LOADED (R98). -/
theorem BaysBut.enterLoaded (h : BaysBut d c) (hn : ¬ d.capturesOn c) (q : Settled (d.chan c)) (hm : (d.chan c).media = true) :
    BaysOk (d.enterLoaded c) := BaysOk.admissionPoint (h.setRest hn (q.loaded hm) q.quiet.not_capture) c

theorem BaysBut.enterService (h : BaysBut d c) (hn : ¬ d.capturesOn c) (q : Settled (d.chan c)) : BaysOk (d.enterService c) := by
  unfold Device.enterService
  split
  · exact h.enterLoaded hn q ‹_›
  · exact h.enterIdle hn q (Bool.eq_false_iff.2 ‹_›)

/-! ## The admission-open signal (R82) -/

theorem BaysOk.answerSignal (h : BaysOk d) (c : Chan) : BaysOk (d.answerSignal c) := by
  unfold Device.answerSignal
  split
  · exact h.evalFeed c
  · exact h.admissionPoint c
  all_goals exact h

theorem BaysOk.answerSignals (cs : List Chan) : ∀ {d : Device}, BaysOk d → BaysOk (cs.foldl Device.answerSignal d) := by
  induction cs with
  | nil => exact id
  | cons c cs ih => exact fun h => ih (h.answerSignal c)

theorem BaysOk.signalOpen (h : BaysOk d) (l : LotNo) : BaysOk (d.signalOpen l) :=
  BaysOk.answerSignals _ (h.same (fun _ => rfl) rfl)

theorem BaysOk.signalAfter (h : BaysOk d) (due : Bool) (l : LotNo) : BaysOk (d.signalAfter due l) := by
  unfold Device.signalAfter
  split
  · exact h.signalOpen l
  · exact h

/-! ## Ejecting (R106, R107) -/

/-- The diskette has left an EJECTING or JAMMED channel. -/
theorem BaysBut.completeEject (h : BaysBut d c) (hn : ¬ d.capturesOn c)
    (q : Quiet { d.chan c with out := { (d.chan c).out with eject := false }, timers := { (d.chan c).timers with eject := none } })
    (hm : (d.chan c).media = false) (hmaster : (d.chan c).master = false)
    (hf : (d.chan c).faultPending = true → (d.chan c).fault.isSome = true) : BaysOk (d.completeEject c) := by
  have hmaster' : (d.chan c).master = true → (d.chan c).media = true := fun e => nomatch hmaster.symm.trans e
  unfold Device.completeEject
  dsimp only
  split
  · rename_i hp
    rw [Device.modChan_modChan]
    refine BaysOk.notify (h.setRest hn (Settled.fault (ch := { d.chan c with
      out := { (d.chan c).out with eject := false, bin := .good }, timers := { (d.chan c).timers with eject := none }
      faultPending := false }) ⟨q, rfl, rfl, hmaster'⟩ (hf hp)) ?_) _
    exact q.not_capture
  · rename_i hp
    refine (h.modChan _).enterIdle hn ?_ ?_
    · rw [Device.modChan_chan_self]
      exact ⟨q, rfl, Bool.eq_false_iff.2 hp, hmaster'⟩
    · rw [Device.modChan_chan_self]
      exact hm

/-! ## The copy end and the capture end (R105, R108) -/

/-- A channel whose drive stops because its work is over. -/
def Channel.over (ch : Channel) : Channel := { ch.stopDrive with work := .none, ctx := none }

/-- A channel that is at rest once its drive has stopped. -/
structure Endable (ch : Channel) : Prop where
  quiet : Quiet ch.over
  bin : ch.out.bin = .good

theorem ChannelOk.endable (h : ChannelOk ch) (hs : ch.state.works = true) : Endable ch :=
  ⟨h.stopped hs, (h.ejects_nothing (ChanState.ne_of_works (s := .ejecting) rfl hs).symm
    (ChanState.ne_of_works (s := .jammed) rfl hs).symm).1⟩

theorem ChannelOk.working (h : ChannelOk ch) (hs : ch.state.works = true) : ch.media = true ∧ ch.faultPending = false :=
  ⟨(seatedOk_iff_of_works hs).1 h.seated, (h.ejects_nothing (ChanState.ne_of_works (s := .ejecting) rfl hs).symm
    (ChanState.ne_of_works (s := .jammed) rfl hs).symm).2⟩

/-- A copy ends: with its diskette it ejects, and without it the channel enters IDLE. -/
theorem BaysBut.copyEnd (h : BaysBut d c) (hn : ¬ d.capturesOn c) {x : CopyContext} (hx : (d.chan c).ctx = some x)
    (he : Endable (d.chan c)) {o : CopyOutcome} (hlost : o = .reject .mediaLost →
      (d.chan c).media = false ∧ (d.chan c).master = false ∧ (d.chan c).faultPending = false)
    (hkept : o ≠ .reject .mediaLost → (d.chan c).media = true ∧ ((d.chan c).faultPending = true → (d.chan c).fault.isSome = true))
    (key : Option Key) : BaysOk (d.copyEnd c o key) := by
  obtain ⟨ha, -, hacap, -⟩ := d.accountEnd_rest x.lot o x.serial
  obtain ⟨hu, -, hucap⟩ := (d.accountEnd x.lot o x.serial).unpin_rest x.image
  have hcap : (d.copyClosed c x o key).capture = d.capture := by
    rw [Device.copyClosed_eq, Device.notify_capture, Device.setChan_capture, hucap, hacap]
  have hbut : BaysBut (d.copyClosed c x o key) c := by
    refine h.same (fun c' hc' => ?_) (by rw [hcap])
    rw [Device.copyClosed_eq, Device.notify_chan, Device.setChan_chan_ne _ _ hc'.symm, hu, ha]
  have hn' : ¬ (d.copyClosed c x o key).capturesOn c := by rw [Device.capturesOn, hcap]; exact hn
  have q : Quiet ((d.chan c).copyClosed x o key) := he.quiet
  by_cases ho : o = .reject .mediaLost
  · obtain ⟨hm, hmaster, hp⟩ := hlost ho
    subst ho
    rw [Device.copyEnd_mediaLost hx]
    have hsettled : Settled ((d.chan c).copyClosed x (.reject .mediaLost) key) :=
      ⟨q, he.bin, hp, fun e => nomatch hmaster.symm.trans e⟩
    exact ((hbut.setRest hn' (hsettled.idle hm) nofun).signalAfter _ _).evalFeed c
  · obtain ⟨hm, hp⟩ := hkept ho
    rw [Device.copyEnd_eject hx ho, Device.beginEject_eq, Device.copyClosed_chan]
    exact (hbut.setRest hn' (q.ejects hm hp _ _) nofun).signalAfter _ _

/-- A copy ends by an outcome of the engine or of the host, whatever the engine has made of its context. -/
theorem BaysBut.copyEnds (h : BaysBut d c) (hn : ¬ d.capturesOn c) (hch : ChannelOk ch) (hs : ch.state.works = true)
    (y : CopyContext) {o : CopyOutcome} (ho : o ≠ .reject .mediaLost) (key : Option Key) :
    BaysOk ((d.setChan c { ch with ctx := some y }).copyEnd c o key) := by
  obtain ⟨hm, hp⟩ := hch.working hs
  have hself : (d.setChan c { ch with ctx := some y }).chan c = { ch with ctx := some y } := Device.setChan_chan_self ..
  refine BaysBut.copyEnd (x := y) (h.put _) hn (by rw [hself]) ?_ (fun e => absurd e ho) (fun _ => ?_) key
  · rw [hself]
    exact ⟨(hch.endable hs).quiet, (hch.endable hs).bin⟩
  · rw [hself]
    exact ⟨hm, fun e => nomatch hp.symm.trans e⟩

theorem Device.captureOver_chan (d : Device) (reason : EndReason) (c : Chan) : (d.captureOver reason).chan c = d.chan c := by
  rw [Device.captureOver, Device.clearOwner_chan]
  rfl

theorem Device.captureOver_capture (d : Device) (reason : EndReason) : (d.captureOver reason).capture = d.capture.over reason := by
  unfold Device.captureOver Device.clearOwner
  split <;> rfl

/-- A capture ends on its channel (R108, R154). -/
theorem BaysBut.captureEnd (h : BaysBut d c) (hc : d.capture.channel = some c) (hctx : (d.chan c).ctx = none)
    (he : Endable (d.chan c)) (hp : (d.chan c).faultPending = false) {reason : EndReason}
    (hlost : reason = .mediaLost → (d.chan c).media = false)
    (hfault : reason = .driveFault → (d.chan c).fault.isSome = true)
    (hkept : reason ≠ .mediaLost → reason ≠ .driveFault → (d.chan c).media = true) : BaysOk (d.captureEnd c reason) := by
  have hover : ∀ c', ¬ (d.captureOver reason).capturesOn c' := fun c' e => by
    rw [Device.capturesOn, Device.captureOver_capture] at e
    exact nomatch e.1
  have hbut : BaysBut (d.captureOver reason) c := by
    intro c' hc'
    obtain ⟨hok, hcap⟩ := h c' hc'
    rw [Device.captureOver_chan]
    refine ⟨hok, fun e => ?_, fun e => absurd e (hover c')⟩
    exact absurd (Option.some.inj ((hcap.1 e).2.symm.trans hc)) hc'
  have q : Quiet { (d.chan c).stopDrive with work := .none } := by
    have hq : Quiet (d.chan c).over := he.quiet
    rw [Channel.over, ← hctx] at hq
    exact hq
  have loaded : reason = .complete ∨ reason = .aborted ∨ reason = .noSpace → (d.chan c).media = true →
      BaysOk ((d.captureOver reason).captureChannelEnd c reason) := by
    intro hr hm
    rw [Device.captureChannelEnd_loaded hr, Device.captureOver_chan]
    refine hbut.setRest (hover c) (Settled.loaded (ch := { (d.chan c).stopDrive with work := .none, master := true }) ?_ hm) nofun
    exact ⟨q, he.bin, hp, fun _ => hm⟩
  rw [Device.captureEnd_eq]
  refine BaysOk.notify ?_ _
  cases reason with
  | complete => exact loaded (.inl rfl) (hkept nofun nofun)
  | aborted => exact loaded (.inr (.inl rfl)) (hkept nofun nofun)
  | noSpace => exact loaded (.inr (.inr rfl)) (hkept nofun nofun)
  | mediaLost =>
    rw [Device.captureChannelEnd_mediaLost, Device.captureOver_chan]
    refine BaysOk.evalFeed (hbut.setRest (hover c)
      (Settled.idle (ch := { (d.chan c).stopDrive with work := .none, master := false }) ?_ (hlost rfl)) nofun) c
    exact ⟨q, he.bin, hp, nofun⟩
  | driveFault =>
    rw [Device.captureChannelEnd_driveFault, Device.captureOver_chan]
    refine BaysOk.notify (hbut.setRest (hover c)
      (Settled.fault (ch := { (d.chan c).stopDrive with work := .none, master := (d.chan c).media }) ?_ (hfault rfl)) nofun) _
    exact ⟨q, he.bin, hp, id⟩

end

end Sys2Proof.Machine
end

section
/-! PROOFS. The copy engine and the capture engine keep the channels in order. -/

open Sys2Proof Sys2Proof.Machine

namespace Sys2Proof.Machine

section
variable {d : Device} {c : Chan} {ch : Channel} {x : CopyContext}

/-! ## The verify revolution's end (R130, R131) -/

theorem Device.copyPulse_verify (hx : ch.ctx = some x) (hp : x.phase = some .verify) :
    (d.setChan c ch).copyPulse c = (d.setChan c ch).endVerify c x := by
  rw [Device.copyPulse, Device.setChan_chan_self, hx]
  dsimp only
  rw [hp]

theorem Device.copyPulse_none (hx : ch.ctx = some x) (hp : x.phase = none) : (d.setChan c ch).copyPulse c = d.setChan c ch := by
  rw [Device.copyPulse, Device.setChan_chan_self, hx]
  dsimp only
  rw [hp]

/-- The copy context of a failed pass, before the retry test (R131). -/
def CopyContext.failedPass (x : CopyContext) (f : VerifyFault) : CopyContext :=
  { x with counter := some x.counted, failures := x.failures + 1, lastFault := some f }

/-- The copy context of a failed pass that may be tried again (R131). -/
def CopyContext.nextAttempt (x : CopyContext) (f : VerifyFault) : CopyContext := { x.failedPass f with attempt := x.failures + 2 }

/-- A failed pass (R131): the retry test, then the budget (R133), then RECAL or INDEX WAIT. -/
theorem Device.passFailed_eq (d : Device) (c : Chan) (ch : Channel) (x : CopyContext) (f : VerifyFault) :
    (d.setChan c ch).passFailed c x f =
      if x.retryLimit < x.failures + 1 then
        (d.setChan c { ch with ctx := some (x.failedPass f) }).copyEnd c (.reject .trackFailed) x.key
      else if x.budget ≤ x.counted then
        (d.setChan c { ch with ctx := some (x.nextAttempt f) }).copyEnd c (.reject .timeLimit) x.key
      else if (x.failures + 1) % 2 = 0 then
        d.setChan c { ch.startRecal with ctx := some { x.nextAttempt f with phase := some .recal } }
      else d.setChan c { ch with ctx := some { x.nextAttempt f with phase := some .indexWait } } := by
  unfold Device.passFailed
  dsimp only
  rw [Device.setChan_setCtx, Device.setChan_setCtx, Device.setChan_setCtx, Device.setChan_modChan]
  rfl

/-! ## What head movements keep (R102 to R104) -/

theorem Channel.core_work {ch' : Channel} (h : ch'.core = ch.core) : ch'.work = ch.work := congrArg (fun x => x.2.1) h

theorem Channel.core_state_gate {ch' : Channel} (h : ch'.core = ch.core) :
    ch'.state = ch.state ∧ ch'.out.writeGate = ch.out.writeGate := by
  simp only [Channel.core, Prod.mk.injEq] at h
  exact ⟨h.1, h.2.2.2.1.2.1⟩

theorem Channel.startRecal_core (ch : Channel) : ch.startRecal.core = ch.core ∧ ch.startRecal.motion.calibrates = false := by
  unfold Channel.startRecal Channel.recalFound
  dsimp only
  split
  · split <;> exact ⟨rfl, rfl⟩
  · exact ⟨rfl, rfl⟩

theorem Channel.recalFound_core (ch : Channel) (back : Nat) :
    (ch.recalFound back).core = ch.core ∧ (ch.recalFound back).motion.calibrates = false := by
  unfold Channel.recalFound
  split <;> exact ⟨rfl, rfl⟩

/-- A head movement that is no calibration. -/
theorem ChannelOk.moves (h : ChannelOk ch) {ch' : Channel} (hcore : ch'.core = ch.core) (hm : ch'.motion.calibrates = false) :
    ChannelOk ch' := h.ofCore hcore (by rw [hm]; exact nofun)

/-! ## Plans (R122, R38) -/

/-- The effective gap 3 lies between 8 and the programmed gap 3, when that is 8 or more (R38). -/
theorem effectiveGap_bounds {rate period g : Nat} {t : Track} (h : effectiveGap rate period t = some g) :
    g ≤ t.gap3 ∧ (8 ≤ t.gap3 → 8 ≤ g) := by
  unfold effectiveGap at h
  split at h
  · cases h
  · split at h
    · rename_i hg
      cases h
      exact ⟨Nat.min_le_left _ _, fun ht => Nat.le_min.2 ⟨ht, hg⟩⟩
    · cases h

/-- A context whose plan is kept, in a track that goes on. -/
theorem ContextOk.goOn (h : ContextOk x) {y : CopyContext} (hphase : x.phase.isSome = true) (hplan : y.plan = x.plan)
    (hy : y.phase.isSome = true) : ContextOk y := by
  rw [ContextOk, hplan, hy, ← hphase]
  exact h

/-- The context of a track that has been planned. -/
theorem contextOk_planned {y : CopyContext} {m : List Host.Cell} {t : Track} {rate period g : Nat} {patch : Option Patch}
    (hg : effectiveGap rate period t = some g) (hplan : y.plan = some (makePlan m t g patch)) (hphase : y.phase.isSome = true) :
    ContextOk y := by
  rw [ContextOk, hplan, hphase]
  refine ⟨rfl, fun p hp => ?_⟩
  cases hp
  exact effectiveGap_bounds hg

theorem contextOk_unplanned {y : CopyContext} (hplan : y.plan = none) (hphase : y.phase = none) : ContextOk y := by
  rw [ContextOk, hplan, hphase]
  exact ⟨rfl, fun p hp => nomatch hp⟩

theorem ChannelOk.copying (h : ChannelOk ch) (hs : ch.state = .copying) : ch.work = .copy := by
  have hw := h.work
  rw [WorkOk, hs] at hw
  exact hw

/-- Work goes on in a working state alone (R92). -/
theorem ChannelOk.works (h : ChannelOk ch) (hw : ch.work ≠ .none) : ch.state.works = true := by
  by_contra hs
  have hs : ch.state.works = false := Bool.eq_false_iff.2 hs
  exact hw ((workOk_iff_none hs).1 h.work)

theorem ChannelOk.not_works (h : ChannelOk ch) (hw : ch.work = .none) : ch.state.works = false := by
  have hwork := h.work
  unfold WorkOk at hwork
  rw [hw] at hwork
  revert hwork
  cases ch.state <;> intro hwork <;> first | rfl | exact nomatch hwork

theorem Channel.position_work (ch : Channel) (y : CopyContext) (key : Key) : (ch.position y key).work = ch.work := by
  unfold Channel.position
  split <;> rfl

/-- The head is positioned for a track that has been planned (R124). -/
theorem ChannelOk.position (h : ChannelOk ch) (hs : ch.state = .copying) (hgate : ch.out.writeGate = false) {y : CopyContext}
    (hy : ∀ phase, ContextOk { y with phase := some phase }) (key : Key) : ChannelOk (ch.position y key) := by
  have hw := h.copying hs
  have ctx : ∀ phase, ChannelOk { ch with ctx := some { y with phase := some phase } } := fun phase =>
    h.withCtx hw (hy phase) (fun e => nomatch hgate.symm.trans e) (fun e => nomatch hs.symm.trans e)
  unfold Channel.position
  split
  · exact (ctx .indexWait).aside rfl rfl
  · exact (ctx .seek).moves rfl rfl

/-! ## The copy engine (chapter 6) -/

/-- The engine begins a track, whatever it has made of the context of the one before. -/
theorem BaysBut.beginTrack (h : BaysBut d c) (hn : ¬ d.capturesOn c) (hch : ChannelOk ch) (hs : ch.state = .copying)
    (hgate : ch.out.writeGate = false) (y : CopyContext) (key : Key) :
    BaysOk ((d.setChan c { ch with ctx := some y }).beginTrack c key) := by
  have hctx : ((d.setChan c { ch with ctx := some y }).chan c).ctx = some y := by rw [Device.setChan_chan_self]
  cases hg : effectiveGap ((d.setChan c { ch with ctx := some y }).image y.image).rate
      ((d.setChan c { ch with ctx := some y }).chan c).period ((d.setChan c { ch with ctx := some y }).store.lookup y.image key) with
  | none =>
    rw [Device.beginTrack_overfull hctx hg, Device.setChan_chan_self, Device.setChan_setChan]
    exact h.copyEnds hn hch (by rw [hs]; rfl) _ (by decide) _
  | some g =>
    rw [Device.beginTrack_planned hctx hg, Device.setChan_chan_self, Device.setChan_setChan]
    refine h.setRest hn (hch.position hs hgate (fun phase => contextOk_planned hg rfl rfl) key) ?_
    rw [Channel.position_work]
    exact fun e => nomatch (hch.copying hs).symm.trans e

/-- A track is done: the copy ends, holds at the boundary, or goes on (R134, R135). -/
theorem BaysBut.trackDone (h : BaysBut d c) (hn : ¬ d.capturesOn c) (hch : ChannelOk ch) (hs : ch.state = .copying)
    (hgate : ch.out.writeGate = false) (y : CopyContext) : BaysOk ((d.setChan c { ch with ctx := some y }).trackDone c) := by
  have hctx : ((d.setChan c { ch with ctx := some y }).chan c).ctx = some y := by rw [Device.setChan_chan_self]
  have hwork := hch.copying hs
  cases hk : y.key.bind ((d.setChan c { ch with ctx := some y }).image y.image).nextKey with
  | none =>
    rw [Device.trackDone_last hctx hk, Device.setChan_chan_self, Device.setChan_setChan]
    exact h.copyEnds hn hch (by rw [hs]; rfl) _ (by decide) _
  | some k =>
    rw [Device.trackDone_next hctx hk, Device.setChan_chan_self, Device.setChan_setChan, Device.setChan_setChan]
    split
    · have hbetween : ChannelOk { ch with ctx := some { y.doneTrack with phase := none } } :=
        hch.withCtx hwork (contextOk_unplanned rfl rfl) (fun e => nomatch hgate.symm.trans e) fun _ => rfl
      refine h.setRest hn (hbetween.toState (s := .held) (by rw [hs]; rfl) rfl hwork ?_ hgate (fun _ => rfl) ?_)
        (fun e => nomatch hwork.symm.trans e)
      · exact Option.not_isSome_iff_eq_none.1 fun e => nomatch hs.symm.trans (hch.spinUp e)
      · exact fun e => nomatch hs.symm.trans (hch.calibration e)
    · exact h.beginTrack hn hch hs hgate _ k

/-- The context of a channel that copies goes on in its track. -/
theorem BaysBut.goOn (h : BaysBut d c) (hn : ¬ d.capturesOn c) (hch : ChannelOk ch) (hs : ch.state = .copying)
    {y : CopyContext} (hy : ContextOk y) (hgate : ch.out.writeGate = true → y.phase = some .write) :
    BaysOk (d.setChan c { ch with ctx := some y }) :=
  h.setRest hn (hch.withCtx (hch.copying hs) hy hgate fun e => nomatch hs.symm.trans e)
    fun e => nomatch (hch.copying hs).symm.trans e

/-- The write gate is off outside WRITE (R126). -/
theorem ChannelOk.gate_off (h : ChannelOk ch) (hx : ch.ctx = some x) (hp : x.phase ≠ some .write) : ch.out.writeGate = false :=
  Bool.eq_false_iff.2 fun e => hp (by have := (h.gate e).2; rwa [hx] at this)

theorem BaysBut.timeLimit (h : BaysBut d c) (hn : ¬ d.capturesOn c) (hch : ChannelOk ch) (hs : ch.state = .copying)
    (y : CopyContext) : BaysOk ((d.setChan c ch).timeLimit c y) := by
  rw [Device.timeLimit, Device.setChan_setCtx]
  exact h.copyEnds hn hch (by rw [hs]; rfl) _ (by decide) _

/-- The write gate is asserted and WRITE begins (R125). -/
theorem BaysBut.openWrite (h : BaysBut d c) (hn : ¬ d.capturesOn c) (hch : ChannelOk ch) (hs : ch.state = .copying)
    (hx : ch.ctx = some x) (hp : x.phase.isSome = true) (m : List Host.Cell) (n : Nat) :
    BaysOk (d.setChan c (ch.openWrite x m n)) := by
  have hy : ContextOk { x with phase := some .write, counter := some n
                               rewrites := if 1 < x.attempt then x.rewrites + 1 else x.rewrites } :=
    (hch.plan x hx).goOn hp rfl rfl
  have hctx := hch.withCtx (hch.copying hs) hy (fun _ => rfl) fun e => nomatch hs.symm.trans e
  refine h.setRest hn { hctx with gate := fun _ => ⟨hs, rfl⟩ } fun e => nomatch (hch.copying hs).symm.trans e

/-- The write gate drops (R126). -/
theorem ChannelOk.closeWrite (h : ChannelOk ch) : ChannelOk ch.closeWrite := { h with gate := nofun }

theorem BaysBut.endWrite (h : BaysBut d c) (hn : ¬ d.capturesOn c) (hch : ChannelOk ch) (hs : ch.state = .copying)
    (hx : ch.ctx = some x) (hp : x.phase.isSome = true) : BaysOk ((d.setChan c ch).endWrite c x) := by
  rw [Device.endWrite_eq]
  split
  · exact h.trackDone hn hch.closeWrite hs rfl _
  · split
    · exact h.timeLimit hn hch.closeWrite hs x
    · exact h.goOn hn hch.closeWrite hs ((hch.plan x hx).goOn hp rfl rfl) nofun

theorem BaysBut.passFailed (h : BaysBut d c) (hn : ¬ d.capturesOn c) (hch : ChannelOk ch) (hs : ch.state = .copying)
    (hx : ch.ctx = some x) (hp : x.phase = some .verify) (f : VerifyFault) : BaysOk ((d.setChan c ch).passFailed c x f) := by
  have hgate : ch.out.writeGate = false := hch.gate_off hx (by rw [hp]; decide)
  have hgoOn : ∀ phase, ContextOk { x.nextAttempt f with phase := some phase } := fun phase =>
    (hch.plan x hx).goOn (by rw [hp]; rfl) rfl rfl
  have hworks : ch.state.works = true := by rw [hs]; rfl
  rw [Device.passFailed_eq]
  split
  · exact h.copyEnds hn hch hworks _ (by decide) _
  · split
    · exact h.copyEnds hn hch hworks _ (by decide) _
    · split
      · obtain ⟨hcore, hmotion⟩ := ch.startRecal_core
        have hrecal : ChannelOk ch.startRecal := hch.moves hcore hmotion
        obtain ⟨hstate, hg⟩ := Channel.core_state_gate hcore
        exact h.goOn hn hrecal (hstate.trans hs) (hgoOn .recal) fun e => nomatch (hg.trans hgate).symm.trans e
      · exact h.goOn hn hch hs (hgoOn .indexWait) fun e => nomatch hgate.symm.trans e

theorem BaysBut.endVerify (h : BaysBut d c) (hn : ¬ d.capturesOn c) (hch : ChannelOk ch) (hs : ch.state = .copying)
    (hx : ch.ctx = some x) (hp : x.phase = some .verify) : BaysOk ((d.setChan c ch).endVerify c x) := by
  unfold Device.endVerify
  split
  · exact h.setRest hn hch fun e => nomatch (hch.copying hs).symm.trans e
  · split
    · rw [Device.setChan_setCtx]
      exact h.trackDone hn hch hs (hch.gate_off hx (by rw [hp]; decide)) _
    · exact h.passFailed hn hch hs hx hp _

/-- The copy engine takes an index pulse. -/
theorem BaysBut.copyPulse (h : BaysBut d c) (hn : ¬ d.capturesOn c) (hch : ChannelOk ch) (hs : ch.state = .copying)
    (hx : ch.ctx = some x) : BaysOk ((d.setChan c ch).copyPulse c) := by
  have hstay : BaysOk (d.setChan c ch) := h.setRest hn hch fun e => nomatch (hch.copying hs).symm.trans e
  cases hp : x.phase with
  | none => rw [Device.copyPulse_none hx hp]; exact hstay
  | some phase =>
    have hsome : x.phase.isSome = true := by rw [hp]; rfl
    cases phase with
    | seek => rw [Device.copyPulse_seek hx hp]; exact hstay
    | indexWait =>
      rw [Device.copyPulse_indexWait hx hp]
      split
      · exact h.openWrite hn hch hs hx hsome _ _
      · split
        · exact h.timeLimit hn hch hs x
        · exact h.openWrite hn hch hs hx hsome _ _
    | write => rw [Device.copyPulse_write hx hp]; exact h.endWrite hn hch hs hx hsome
    | verify => rw [Device.copyPulse_verify hx hp]; exact h.endVerify hn hch hs hx hp
    | recal =>
      rw [Device.copyPulse_recal hx hp]
      split
      · exact h.timeLimit hn hch hs x
      · refine h.goOn hn hch hs ((hch.plan x hx).goOn hsome rfl hsome) fun e => ?_
        exact nomatch (hch.gate_off hx (by rw [hp]; decide)).symm.trans e

/-- A HELD channel returns to COPYING, and its engine goes on (R136). -/
theorem BaysOk.resumeCopy (h : BaysOk d) (hs : (d.chan c).state = .held) : BaysOk (d.resumeCopy c) := by
  have hok := h.channel c
  have hw : (d.chan c).work = .copy := by
    have := hok.work
    rwa [WorkOk, hs] at this
  have hn : ¬ d.capturesOn c := h.notCapturing (by rw [hw]; decide)
  have hgate : (d.chan c).out.writeGate = false := Bool.eq_false_iff.2 fun e => nomatch hs.symm.trans (hok.gate e).1
  have hcopying : ChannelOk { d.chan c with state := .copying } :=
    hok.toState (s := .copying) (by rw [hs]; rfl) rfl hw
      (Option.not_isSome_iff_eq_none.1 fun e => nomatch hs.symm.trans (hok.spinUp e)) hgate nofun
      fun e => nomatch hs.symm.trans (hok.calibration e)
  have hd : BaysOk (d.modChan c fun ch => { ch with state := .copying }) := h.modChan hcopying rfl
  unfold Device.resumeCopy Device.beginNext
  split
  · exact hd
  · rename_i x hx
    split
    · exact hd
    · split
      · exact hd
      · rw [Device.modChan_chan_self] at hx
        have hsame : ({ d.chan c with state := .copying } : Channel) = { d.chan c with state := .copying, ctx := some x } := by
          rw [← hx]
        rw [Device.modChan, hsame]
        exact (h.but c).beginTrack hn hcopying rfl hgate x _

/-- An engine that reads a block changes its reader alone. -/
theorem BaysOk.setReader (h : BaysOk d) (hx : (d.chan c).ctx = some x) {y : CopyContext} (hplan : y.plan = x.plan)
    (hphase : y.phase = x.phase) : BaysOk (d.setCtx c y) := by
  have hok := h.channel c
  have hwork : (d.chan c).work = .copy := by
    have := hok.context
    rw [hx] at this
    exact eq_of_beq this.symm
  have hy : ContextOk y := by
    rw [ContextOk, hplan, hphase]
    exact hok.plan x hx
  refine h.modChan (hok.withCtx hwork hy (fun e => ?_) fun e => ?_) rfl
  · have := (hok.gate e).2
    rwa [hx, Option.bind_some, ← hphase] at this
  · have := hok.held e
    rwa [hx, Option.bind_some, ← hphase] at this

theorem BaysOk.copyIdBlock (h : BaysOk d) (c : Chan) (id crcRead : List Byte) : BaysOk (d.copyIdBlock c id crcRead) := by
  unfold Device.copyIdBlock
  split
  · exact h
  · rename_i x hx
    split
    · exact h.setReader hx rfl rfl
    · exact h

theorem BaysOk.copyDataBlock (h : BaysOk d) (c : Chan) (m : Mark) (raw : List Byte) : BaysOk (d.copyDataBlock c m raw) := by
  unfold Device.copyDataBlock
  split
  · exact h
  · rename_i x hx
    split
    · exact h.setReader hx rfl rfl
    · exact h

/-- A seek or a recalibration of a copy is complete (R124, R132). -/
theorem ChannelOk.copyPositioned (h : ChannelOk ch) (hw : ch.work = .copy) : ChannelOk ch.copyPositioned := by
  have wait : ∀ x, ch.ctx = some x → x.phase.isSome = true → x.phase ≠ some .write →
      ChannelOk { ch with ctx := some { x with phase := some .indexWait } } := fun x hx hp hne => by
    refine h.withCtx hw ((h.plan x hx).goOn hp rfl rfl) (fun e => ?_) fun e => ?_
    · exact nomatch (h.gate_off hx hne).symm.trans e
    · have hheld := h.held e
      rw [hx, Option.bind_some] at hheld
      rw [hheld] at hp
      cases hp
  unfold Channel.copyPositioned
  split
  · exact h
  · rename_i x hx
    split
    · rename_i hp
      exact (wait x hx (by rw [hp]; rfl) (by rw [hp]; decide)).aside rfl rfl
    · rename_i hp
      exact wait x hx (by rw [hp]; rfl) (by rw [hp]; decide)
    · exact h

theorem Channel.copyPositioned_work (ch : Channel) : ch.copyPositioned.work = ch.work := by
  unfold Channel.copyPositioned
  split
  · rfl
  · split <;> rfl

end

/-! ## The capture engine (chapter 7) -/

section
variable {d : Device} {c : Chan}

/-- A capture goes on while its channel and its state stay. -/
theorem BaysOk.setCapture (h : BaysOk d) {y : CaptureContext}
    (hy : (y.state, y.channel) = (d.capture.state, d.capture.channel)) : BaysOk (d.setCapture y) := h.same (fun _ => rfl) hy

/-- A capture ends on the channel that captures, with its diskette in the bay. -/
theorem BaysOk.captureEnd (h : BaysOk d) (hw : (d.chan c).work = .capture) {reason : EndReason} (h1 : reason ≠ .mediaLost)
    (h2 : reason ≠ .driveFault) : BaysOk (d.captureEnd c reason) := by
  have hok := h.channel c
  have hs : (d.chan c).state.works = true := hok.works (by rw [hw]; decide)
  obtain ⟨hm, hp⟩ := hok.working hs
  exact (h.but c).captureEnd ((h.capture c).1 hw).2 (h.onCapture hw).2 (hok.endable hs) hp (fun e => absurd e h1)
    (fun e => absurd e h2) fun _ _ => hm

/-- The engine positions the head for a key (R147). -/
theorem BaysOk.beginKey (h : BaysOk d) (c : Chan) (key : Key) : BaysOk (d.beginKey c key) := by
  unfold Device.beginKey
  dsimp only
  split
  · exact BaysOk.modChan (h.setCapture (by rfl)) ((h.channel c).aside (by rfl) (by rfl)) (by rfl)
  · exact BaysOk.modChan (h.setCapture (by rfl)) ((h.channel c).moves (by rfl) (by rfl)) (by rfl)

theorem BaysOk.keySettled (h : BaysOk d) (hw : (d.chan c).work = .capture) : BaysOk (d.keySettled c) := by
  unfold Device.keySettled
  split
  · exact h.beginKey c _
  · exact h.captureEnd hw nofun nofun

theorem CaptureContext.fail_keeps (x : CaptureContext) (reason : FailReason) :
    ((x.fail reason).state, (x.fail reason).channel) = (x.state, x.channel) := by
  unfold CaptureContext.fail
  split
  · rfl
  · split <;> rfl

theorem BaysOk.keyFailed (h : BaysOk d) (hw : (d.chan c).work = .capture) (reason : FailReason) : BaysOk (d.keyFailed c reason) :=
  BaysOk.keySettled (d := d.setCapture (d.capture.fail reason)) (h.setCapture (CaptureContext.fail_keeps _ _)) hw

theorem BaysOk.judgeScan (h : BaysOk d) (hw : (d.chan c).work = .capture) : BaysOk (d.judgeScan c) := by
  unfold Device.judgeScan
  dsimp only
  split
  · exact h.keyFailed hw _
  · split
    · split
      · exact h.setCapture rfl
      · exact h.keyFailed hw _
    · split
      · exact BaysOk.keySettled (d := d.setCapture { d.capture with absent := d.capture.absent + 1 }) (h.setCapture rfl) hw
      · split
        · exact h.keyFailed hw _
        · split
          · exact h.keyFailed hw _
          · exact h.setCapture rfl

theorem BaysOk.installCapture (h : BaysOk d) (hw : (d.chan c).work = .capture) : BaysOk (d.installCapture c) := by
  unfold Device.installCapture
  split
  · dsimp only
    split
    · exact h.captureEnd hw nofun nofun
    · refine BaysOk.keySettled (h.same (fun _ => rfl) rfl) hw
  · exact h

theorem BaysOk.judgeRead (h : BaysOk d) (hw : (d.chan c).work = .capture) : BaysOk (d.judgeRead c) := by
  unfold Device.judgeRead
  split
  · exact h.installCapture hw
  · split
    · exact h.setCapture rfl
    · exact h.keyFailed hw _

/-- The capture engine takes an index pulse. -/
theorem BaysOk.capturePulse (h : BaysOk d) (hw : (d.chan c).work = .capture) : BaysOk (d.capturePulse c) := by
  unfold Device.capturePulse
  split
  · exact h.setCapture rfl
  · exact h.judgeScan hw
  · exact h.judgeRead hw
  all_goals exact h

theorem BaysOk.captureIdBlock (h : BaysOk d) (a b n s : Byte) (crcRead : List Byte) : BaysOk (d.captureIdBlock a b n s crcRead) := by
  unfold Device.captureIdBlock
  split
  · exact h.setCapture rfl
  · exact h.setCapture rfl
  all_goals exact h

theorem BaysOk.captureDataBlock (h : BaysOk d) (m : Mark) (raw : List Byte) : BaysOk (d.captureDataBlock m raw) := by
  unfold Device.captureDataBlock
  split
  · obtain ⟨hstate, hchannel, -⟩ := d.capture.readDataBlock_keeps m raw
    exact h.setCapture (by rw [hstate, hchannel])
  all_goals exact h

theorem BaysOk.capturePositioned (h : BaysOk d) (c : Chan) : BaysOk (d.capturePositioned c) := by
  unfold Device.capturePositioned
  split
  · exact BaysOk.modChan (h.setCapture (by rfl)) ((h.channel c).aside (by rfl) (by rfl)) (by rfl)
  · exact h

theorem BaysOk.abortCapture (h : BaysOk d) (hs : d.capture.state = .running) : BaysOk d.abortCapture := by
  cases hc : d.capture.channel with
  | none =>
    unfold Device.abortCapture
    rw [hc]
    exact h
  | some c =>
    rw [Device.abortCapture_some hc]
    exact h.captureEnd ((h.capture c).2 ⟨hs, hc⟩) nofun nofun

end

end Sys2Proof.Machine
end

section
/-! PROOFS. Every step keeps the drive channels in order (O57). -/

open Sys2Proof Sys2Proof.Machine

namespace Sys2Proof.Machine

section
variable {d : Device} {c : Chan}

/-! ## Ends that the channel or the host decides (R109, R110, R113) -/

theorem ChannelOk.copyContext {ch : Channel} (h : ChannelOk ch) (hw : ch.work = .copy) : ∃ x, ch.ctx = some x := by
  have hctx := h.context
  rw [hw] at hctx
  exact Option.isSome_iff_exists.1 hctx

/-- A copy is cut short, the channel's fault record and media level being as the reason asks. -/
theorem BaysOk.copyCut (h : BaysOk d) (hw : (d.chan c).work = .copy) (f : Channel → Channel)
    (hctx : (f (d.chan c)).ctx = (d.chan c).ctx) (he : Endable (f (d.chan c))) {r : RejectReason}
    (hlost : r = .mediaLost →
      (f (d.chan c)).media = false ∧ (f (d.chan c)).master = false ∧ (f (d.chan c)).faultPending = false)
    (hkept : r ≠ .mediaLost → (f (d.chan c)).media = true ∧
      ((f (d.chan c)).faultPending = true → (f (d.chan c)).fault.isSome = true)) : BaysOk ((d.modChan c f).copyCut c r) := by
  obtain ⟨x, hx⟩ := (h.channel c).copyContext hw
  have hself : (d.modChan c f).chan c = f (d.chan c) := Device.modChan_chan_self ..
  refine BaysBut.copyEnd (x := x) ((h.but c).modChan f) (h.notCapturing (by rw [hw]; decide)) ?_ ?_ ?_ ?_ _
  · rw [hself, hctx, hx]
  · rw [hself]; exact he
  · rw [hself]
    exact fun e => hlost (CopyOutcome.reject.inj e)
  · rw [hself]
    exact fun e => hkept fun hr => e (by rw [hr])

/-- CHANNEL ABORT's end of a copy (R113). -/
theorem BaysOk.abortCopy (h : BaysOk d) (hw : (d.chan c).work = .copy) : BaysOk (d.copyCut c .aborted) := by
  obtain ⟨x, hx⟩ := (h.channel c).copyContext hw
  have hs := (h.channel c).works (by rw [hw]; decide)
  obtain ⟨hm, hp⟩ := (h.channel c).working hs
  exact (h.but c).copyEnd (o := .reject .aborted) (h.notCapturing (by rw [hw]; decide)) hx ((h.channel c).endable hs) nofun
    (fun _ => ⟨hm, fun e => nomatch hp.symm.trans e⟩) _

/-- A drive fault ends the copy or the capture (R110). -/
theorem BaysOk.driveFault (h : BaysOk d) (c : Chan) (f : FaultRecord) : BaysOk (d.driveFault c f) := by
  have hok := h.channel c
  unfold Device.driveFault
  split
  · rename_i hw
    have hs := hok.works (by rw [hw]; decide)
    obtain ⟨hquiet, hbin⟩ := hok.endable hs
    exact h.copyCut hw _ rfl ⟨hquiet, hbin⟩ nofun fun _ => ⟨(hok.working hs).1, fun _ => rfl⟩
  · rename_i hw
    have hs := hok.works (by rw [hw]; decide)
    obtain ⟨hquiet, hbin⟩ := hok.endable hs
    have hself : (d.modChan c fun ch => { ch with fault := some f }).chan c = { d.chan c with fault := some f } :=
      Device.modChan_chan_self ..
    refine ((h.but c).modChan _).captureEnd ((h.capture c).1 hw).2 ?_ ?_ ?_ nofun (fun _ => ?_) fun _ e => absurd rfl e
    · rw [hself]; exact (h.onCapture hw).2
    · rw [hself]; exact ⟨hquiet, hbin⟩
    · rw [hself]; exact (hok.working hs).2
    · rw [hself]; rfl
  · exact h

/-! ## Insertion and removal (R95 to R97, R109) -/

/-- In OFFLINE and FAULT the media level changes freely (R95, R109). -/
theorem ChannelOk.setMedia {ch : Channel} (h : ChannelOk ch) (hs : ch.state = .offline ∨ ch.state = .fault) {media master : Bool}
    (hm : master = true → media = true) : ChannelOk { ch with media := media, master := master } := by
  have hsettles : ch.state.settles = true := by rcases hs with hs | hs <;> rw [hs] <;> rfl
  have q := h.settled hsettles
  refine Settled.enter (ch := { ch with media := media, master := master }) ⟨q.quiet, q.bin, q.pending, hm⟩ hsettles h.faulted ?_
  unfold SeatedOk
  rcases hs with hs | hs <;> rw [hs] <;> trivial

/-- A diskette enters an empty bay at rest that takes it (R96, R97). -/
theorem BaysOk.takesDiskette (h : BaysOk d) {ch : Channel} (q : Settled ch) (hm : ch.media = true) (hw : (d.chan c).work = .none) :
    BaysOk ((d.setChan c ch).enterLoaded c) := by
  refine ((h.but c).put ch).enterLoaded (h.notCapturing (by rw [hw]; decide)) ?_ ?_
  · rw [Device.setChan_chan_self]; exact q
  · rw [Device.setChan_chan_self]; exact hm

theorem BaysOk.insertion (h : BaysOk d) (c : Chan) : BaysOk (d.insertion c) := by
  have hok := h.channel c
  have hseated := hok.seated
  have settles : (d.chan c).state.settles = true →
      BaysOk ((d.modChan c fun ch => { ch with media := true }).enterLoaded c) := fun hs =>
    have q := hok.settled hs
    h.takesDiskette (ch := { d.chan c with media := true }) ⟨q.quiet, q.bin, q.pending, fun _ => rfl⟩ rfl q.quiet.work
  unfold SeatedOk at hseated
  unfold Device.insertion
  dsimp only
  split
  · exact h
  · rename_i hm
    split <;> rename_i hs <;> rw [hs] at hseated
    case h_1 | h_2 => exact settles (by rw [hs]; rfl)
    case h_3 =>
      have q := hok.fed hs
      rw [Device.modChan_modChan]
      exact h.takesDiskette ⟨q.quiet, q.bin, q.pending, fun _ => rfl⟩ rfl q.quiet.work
    case h_4 => exact h.modChan (hok.setMedia (.inl hs) fun _ => rfl) rfl
    case h_13 => exact h.modChan (hok.setMedia (.inr hs) fun _ => rfl) rfl
    all_goals exact absurd hseated hm

theorem BaysOk.removal (h : BaysOk d) (c : Chan) : BaysOk (d.removal c) := by
  have hok := h.channel c
  have hseated := hok.seated
  have hself : (d.modChan c fun ch => { ch with media := false, master := false }).chan c =
      { d.chan c with media := false, master := false } := Device.modChan_chan_self ..
  have cut : (d.chan c).state.works = true → BaysOk (match (d.chan c).work with
      | .copy => (d.modChan c fun ch => { ch with media := false, master := false }).copyCut c .mediaLost
      | .capture => (d.modChan c fun ch => { ch with media := false, master := false }).captureEnd c .mediaLost
      | .none => d.modChan c fun ch => { ch with media := false, master := false }) := fun hs => by
    obtain ⟨hquiet, hbin⟩ := hok.endable hs
    obtain ⟨-, hp⟩ := hok.working hs
    split
    · rename_i hw
      exact h.copyCut hw _ rfl ⟨hquiet, hbin⟩ (fun _ => ⟨rfl, rfl, hp⟩) fun e => absurd rfl e
    · rename_i hw
      refine ((h.but c).modChan _).captureEnd ((h.capture c).1 hw).2 ?_ ?_ ?_ (fun _ => ?_) nofun fun e => absurd rfl e
      · rw [hself]; exact (h.onCapture hw).2
      · rw [hself]; exact ⟨hquiet, hbin⟩
      · rw [hself]; exact hp
      · rw [hself]
    · rename_i hw
      exact nomatch hs.symm.trans (hok.not_works hw)
  have ejected : (d.chan c).state = .ejecting ∨ (d.chan c).state = .jammed →
      BaysOk ((d.modChan c fun ch => { ch with media := false, master := false }).completeEject c) := fun hs => by
    have hw : (d.chan c).work = .none := (hok.ejected hs).work
    refine ((h.but c).modChan _).completeEject (h.notCapturing (by rw [hw]; decide)) ?_ ?_ ?_ ?_
    · rw [hself]; exact hok.ejected hs
    · rw [hself]
    · rw [hself]
    · rw [hself]; exact fun e => (hok.pendingFault e).2
  unfold SeatedOk at hseated
  unfold Device.removal
  dsimp only
  split
  · exact h
  · rename_i hm
    split <;> rename_i hs
    case h_1 | h_2 | h_3 | h_4 | h_5 => exact cut (by rw [hs]; rfl)
    case h_6 =>
      have q := hok.settled (by rw [hs]; rfl)
      refine ((h.but c).modChan _).enterIdle (h.notCapturing q.quiet.not_capture) ?_ ?_
      · rw [hself]; exact ⟨q.quiet, q.bin, q.pending, nofun⟩
      · rw [hself]
    case h_7 => exact ejected (.inl hs)
    case h_8 => exact ejected (.inr hs)
    case h_9 => exact h.modChan (hok.setMedia (.inl hs) nofun) rfl
    case h_13 => exact h.modChan (hok.setMedia (.inr hs) nofun) rfl
    all_goals
      rw [hs] at hseated
      exact absurd hseated hm

/-! ## Index pulses (R100, R101) -/

/-- The motor is on and the spin-up wait is over while the index is monitored (R101). -/
theorem ChannelOk.monitored_works {ch : Channel} (h : ChannelOk ch) (hm : ch.timers.index.isSome = true) :
    ch.state.works = true ∧ ch.timers.spinUp = none := by
  have hmon := h.monitored
  rw [hm] at hmon
  obtain ⟨hs, hspin⟩ := Bool.and_eq_true_iff.1 hmon.symm
  exact ⟨hs, Option.isNone_iff_eq_none.1 hspin⟩

theorem ChannelOk.restartIndex {ch : Channel} (h : ChannelOk ch) (hm : ch.timers.index.isSome = true) :
    ChannelOk ch.restartIndex := h.aside (by simp [Channel.core, Channel.restartIndex, hm]) rfl

/-- The measured channel enters CALIBRATING (R100, R102). -/
theorem ChannelOk.enterCalibrating {ch : Channel} (h : ChannelOk ch) (hs : ch.state = .spinup)
    (hm : ch.timers.index.isSome = true) : ChannelOk ch.enterCalibrating := by
  have hwork := h.work
  rw [WorkOk, hs] at hwork
  have hcal : ChannelOk { ch with state := .calibrating } :=
    h.toState (s := .calibrating) (by rw [hs]; rfl) rfl hwork (h.monitored_works hm).2
      (Bool.eq_false_iff.2 fun e => nomatch hs.symm.trans (h.gate e).1) nofun fun _ => rfl
  unfold Channel.enterCalibrating
  dsimp only
  split
  · exact hcal.ofCore rfl fun _ => rfl
  · exact hcal.ofCore rfl fun _ => rfl

theorem Channel.enterCalibrating_work (ch : Channel) : ch.enterCalibrating.work = ch.work := by
  unfold Channel.enterCalibrating
  dsimp only
  split <;> rfl

theorem BaysOk.pulseTaken (h : BaysOk d) (hm : (d.chan c).timers.index.isSome = true) (time : Nat) :
    BaysOk (d.pulseTaken c time) := by
  have hok : ChannelOk (d.chan c).restartIndex := (h.channel c).restartIndex hm
  have hself : (d.modChan c Channel.restartIndex).chan c = (d.chan c).restartIndex := Device.modChan_chan_self ..
  have hd : BaysOk (d.modChan c Channel.restartIndex) := h.modChan hok rfl
  have restarted : ∀ measure, BaysOk ((d.modChan c Channel.restartIndex).modChan c fun ch => { ch with measure := measure }) :=
    fun measure => hd.modChan ((hd.channel c).aside rfl rfl) rfl
  unfold Device.pulseTaken
  dsimp only
  split <;> rename_i hs
  case h_1 =>
    split
    · exact hd
    · exact restarted _
    · exact restarted _
    · unfold Device.measured
      split
      · refine hd.modChan ?_ ?_
        · rw [hself]
          exact ChannelOk.enterCalibrating (hok.aside (ch' := { (d.chan c).restartIndex with period := _ }) rfl rfl) hs rfl
        · rw [Channel.enterCalibrating_work]
      · exact hd.driveFault c _
  case h_2 =>
    have hw := hok.copying hs
    obtain ⟨x, hx⟩ := hok.copyContext hw
    exact (h.but c).copyPulse (h.notCapturing fun e => nomatch hw.symm.trans e) hok hs hx
  case h_3 =>
    refine hd.capturePulse ?_
    rw [hself]
    exact hok.capturing hs
  all_goals exact hd

theorem BaysOk.indexPulse (h : BaysOk d) (c : Chan) (time : Nat) : BaysOk (d.indexPulse c time) := by
  unfold Device.indexPulse
  split
  · exact h.pulseTaken ‹_› time
  · exact h

/-! ## Timer expiries (R97, R100 to R104, R106) -/

theorem BaysOk.spinUpExpired (h : BaysOk d) (c : Chan) : BaysOk (d.spinUpExpired c) := by
  have hok := h.channel c
  unfold Device.spinUpExpired
  split
  · rename_i ht
    have hs := hok.spinUp ht
    exact h.modChan { hok with
      monitored := by rw [hs]; rfl
      spinUp := nofun } rfl
  · exact h

theorem BaysOk.indexExpired (h : BaysOk d) (c : Chan) : BaysOk (d.indexExpired c) := by
  unfold Device.indexExpired
  split
  · exact h.driveFault c _
  · exact h

theorem BaysOk.stepExpired (h : BaysOk d) (c : Chan) : BaysOk (d.stepExpired c) := by
  have hok := h.channel c
  unfold Device.stepExpired
  split
  · exact h
  · split
    · rename_i k hmotion
      have hs : (d.chan c).state = .calibrating := hok.calibration (by rw [hmotion]; rfl)
      split
      · exact h.modChan (hok.ofCore (by rfl) fun _ => hs) rfl
      · split
        · exact h.driveFault c _
        · exact h.modChan (hok.ofCore (by rfl) fun _ => hs) rfl
    · split
      · obtain ⟨hcore, hcal⟩ := Channel.recalFound_core { d.chan c with timers := { (d.chan c).timers with step := none } } ‹_›
        exact h.modChan (hok.moves hcore hcal) (Channel.core_work hcore)
      · split
        · exact h.driveFault c _
        · exact h.modChan (hok.moves (by rfl) (by rfl)) rfl
    · split
      · exact h.modChan (hok.moves (by rfl) (by rfl)) rfl
      · exact h.modChan (hok.aside (by rfl) (by rfl)) rfl
    · split
      · exact h.modChan (hok.moves (by rfl) (by rfl)) rfl
      · exact h.modChan (hok.aside (by rfl) (by rfl)) rfl
    all_goals exact h

/-- The settle timer of a calibration has expired: COPYING or CAPTURING begins (R102). -/
theorem BaysOk.calibrationDone (h : BaysOk d) (hs : (d.chan c).state = .calibrating)
    (hm : (d.chan c).motion.calibrates = false) : BaysOk (d.calibrationDone c) := by
  have hok := h.channel c
  have hspin : (d.chan c).timers.spinUp = none :=
    Option.not_isSome_iff_eq_none.1 fun e => nomatch hs.symm.trans (hok.spinUp e)
  have hgate : (d.chan c).out.writeGate = false := Bool.eq_false_iff.2 fun e => nomatch hs.symm.trans (hok.gate e).1
  have enter : ∀ s : ChanState, s.works = true → s ≠ .held → WorkOk { d.chan c with state := s } →
      ChannelOk { d.chan c with state := s } := fun s hnew hne hwork =>
    hok.toState (by rw [hs]; rfl) hnew hwork hspin hgate (fun e => absurd e hne) fun e => nomatch hm.symm.trans e
  unfold Device.calibrationDone
  split
  · rename_i hw
    obtain ⟨x, hx⟩ := hok.copyContext hw
    have hsame : ({ d.chan c with state := .copying } : Channel) = { d.chan c with state := .copying, ctx := some x } := by
      rw [← hx]
    rw [Device.enterCopying, Device.modChan, hsame]
    exact (h.but c).beginTrack (h.notCapturing (by rw [hw]; decide)) (enter .copying rfl (by decide) hw) rfl hgate x _
  · rename_i hw
    exact BaysOk.beginKey (h.modChan (enter .capturing rfl (by decide) hw) rfl) c _
  · exact h

theorem BaysOk.positioned (h : BaysOk d) (c : Chan) : BaysOk (d.positioned c) := by
  unfold Device.positioned
  split
  · rename_i hw
    exact h.modChan ((h.channel c).copyPositioned hw) (Channel.copyPositioned_work _)
  · exact h.capturePositioned c
  · exact h

theorem BaysOk.settleExpired (h : BaysOk d) (c : Chan) : BaysOk (d.settleExpired c) := by
  have hok := h.channel c
  have hd : BaysOk (d.modChan c fun ch => { ch with timers := { ch.timers with settle := none }, motion := .none }) :=
    h.modChan (hok.moves (by rfl) (by rfl)) rfl
  unfold Device.settleExpired
  split
  · exact h
  · dsimp only
    split
    · rename_i hmotion
      refine hd.calibrationDone ?_ ?_
      · rw [Device.modChan_chan_self]
        exact hok.calibration (by rw [hmotion]; rfl)
      · rw [Device.modChan_chan_self]
        rfl
    · exact hd.positioned c
    · exact hd.positioned c
    all_goals exact hd

theorem BaysOk.feedExpired (h : BaysOk d) (c : Chan) : BaysOk (d.feedExpired c) := by
  have hok := h.channel c
  unfold Device.feedExpired
  split
  · rename_i ht
    have hs : (d.chan c).state = .feeding := eq_of_beq (hok.feedTimer.symm.trans ht)
    have hm := hok.seated
    rw [SeatedOk, hs] at hm
    exact (h.modChan ((hok.fed hs).starved hm) rfl).notify _
  · exact h

theorem BaysOk.ejectExpired (h : BaysOk d) (c : Chan) : BaysOk (d.ejectExpired c) := by
  have hok := h.channel c
  unfold Device.ejectExpired
  split
  · rename_i ht
    exact (h.modChan (hok.jams (eq_of_beq (hok.ejectTimer.symm.trans ht))) rfl).notify _
  · exact h

theorem BaysOk.idBlockRead (h : BaysOk d) (c : Chan) (a b n s : Byte) (crcRead : List Byte) :
    BaysOk (d.idBlockRead c a b n s crcRead) := by
  unfold Device.idBlockRead
  split
  · exact h.copyIdBlock c _ _
  · exact h.captureIdBlock _ _ _ _ _
  all_goals exact h

theorem BaysOk.dataBlockRead (h : BaysOk d) (c : Chan) (m : Mark) (raw : List Byte) : BaysOk (d.dataBlockRead c m raw) := by
  unfold Device.dataBlockRead
  split
  · exact h.copyDataBlock c _ _
  · exact h.captureDataBlock _ _
  all_goals exact h

/-! ## Requests -/

theorem ChanState.settles_of_disables {s : ChanState} (hs : s.disables = true) : s.settles = true := by
  revert hs
  cases s <;> decide

section
variable (h : BaysOk d)
include h

theorem BaysOk.refused (code : Completion) : BaysOk (refuse d code).1 := h

theorem BaysOk.slot {n : Nat} {b : Byte} {k : Fin n → Device × Response} (hk : ∀ i, BaysOk (k i).1) :
    BaysOk (withSlot n b d k).1 := withSlot_elim (P := fun x => BaysOk x.1) h.refused fun i _ => hk i

theorem BaysOk.checks {cs : List (Bool × Completion)} {k : Device × Response} (hk : (∀ c ∈ cs, c.1 = true) → BaysOk k.1) :
    BaysOk (checked d cs k).1 := checked_elim (P := fun x => BaysOk x.1) h.refused hk

/-- A request that changes neither a channel nor the capture. -/
theorem BaysOk.away {e : Device} (hc : e.channels = d.channels := by rfl) (hcap : e.capture = d.capture := by rfl) : BaysOk e :=
  h.same (fun c => congrArg (fun v => Vector.get v c) hc) (by rw [hcap])

theorem BaysOk.workImageRetire (i : Byte) : BaysOk (workImageRetire i d).1 :=
  h.slot fun _ => h.checks fun _ => by split <;> exact h.away

theorem BaysOk.workTrackLoad (ps : LoadParams) : BaysOk (workTrackLoad ps d).1 :=
  h.slot fun _ => h.checks fun _ => by
    split
    · exact h
    · split
      · exact h.away
      · exact h.checks fun _ => h.away

theorem BaysOk.workTrackFill (ps : FillParams) : BaysOk (workTrackFill ps d).1 :=
  h.slot fun _ => h.checks fun _ => by split <;> exact h.away

theorem BaysOk.workTrackRemove (i c n : Byte) : BaysOk (workTrackRemove i c n d).1 :=
  h.slot fun _ => h.checks fun _ => by split <;> exact h.away

theorem BaysOk.workTrackRead (i c n : Byte) : BaysOk (workTrackRead i c n d).1 :=
  h.slot fun _ => h.checks fun _ => by
    split
    · exact h
    · split
      · exact h
      · exact h.checks fun _ => h.away

theorem BaysOk.workSectorAmend (i c n j : Byte) (o : Half) (m : Byte) (bs : List Byte) :
    BaysOk (workSectorAmend i c n j o m bs d).1 :=
  h.slot fun _ => h.checks fun _ => by
    split
    · exact h
    · exact h.checks fun _ => h.away

theorem BaysOk.workProfileSet (ps : ProfileParams) : BaysOk (workProfileSet ps d).1 :=
  h.slot fun _ => h.checks fun _ => by
    split
    · exact h.away
    · exact h.checks fun _ => h.away

theorem BaysOk.workLotClose (l : Byte) : BaysOk (workLotClose l d).1 :=
  h.slot fun _ => h.checks fun _ => by split <;> exact h.away

theorem BaysOk.afterResume (l : LotNo) : BaysOk (d.afterResume l) := by
  unfold Device.afterResume
  split
  · exact h.notify _
  · exact h.notify _
  · split
    · exact h.signalOpen l
    · exact h
  all_goals exact h

/-- A deleted lot leaves the channels unassigned (R75). -/
theorem BaysOk.unassign (l : LotNo) : BaysOk (d.unassign l) := by
  have keep : ∀ c, ChannelOk ((d.chan c).withoutLot l) ∧ ((d.chan c).withoutLot l).work = (d.chan c).work := fun c => by
    unfold Channel.withoutLot
    split
    · exact ⟨(h.channel c).aside rfl rfl, rfl⟩
    · exact ⟨h.channel c, rfl⟩
  exact ⟨fun c => by rw [Device.unassign_chan]; exact (keep c).1, fun c => by
    rw [Device.unassign_chan, (keep c).2]; exact h.capture c⟩

theorem BaysOk.workLotDelete (l : Byte) : BaysOk (workLotDelete l d).1 :=
  h.slot fun l => h.checks fun _ => BaysOk.unassign (d := d.setLot l Lot.vacant) h.away l

/-! ### Channel requests (R95, R112 to R117) -/

/-- A host's setting of a channel changes nothing that its invariant speaks of. -/
theorem BaysOk.setting {f : Channel → Channel} (hcore : (f (d.chan c)).core = (d.chan c).core)
    (hm : (f (d.chan c)).motion = (d.chan c).motion) : BaysOk (d.modChan c f) :=
  h.modChan ((h.channel c).aside hcore hm) (Channel.core_work hcore)

theorem BaysOk.workChannelEnable (b : Byte) : BaysOk (workChannelEnable b d).1 :=
  h.slot fun c => h.checks fun hcs => by
    have hs : (d.chan c).state = .offline := by simpa using hcs
    have q := (h.channel c).settled (by rw [hs]; rfl)
    exact (h.but c).enterService (h.notCapturing q.quiet.not_capture) q

theorem BaysOk.workChannelDisable (b : Byte) : BaysOk (workChannelDisable b d).1 :=
  h.slot fun c => h.checks fun hcs => by
    have hs : (d.chan c).state.disables = true := by simpa using hcs
    exact h.modChan ((h.channel c).settled (ChanState.settles_of_disables hs)).offline rfl

theorem BaysOk.workChannelAssign (b l : Byte) : BaysOk (workChannelAssign b l d).1 :=
  h.slot fun c => by
    split
    · exact h
    · exact h.checks fun _ => BaysOk.answerSignal (h.setting rfl rfl) c

theorem BaysOk.released (c : Chan) : BaysOk (d.released c) := by
  have hd : BaysOk (d.modChan c fun ch => { ch with hold := false }) := h.setting rfl rfl
  unfold Device.released
  dsimp only
  split
  · refine hd.resumeCopy ?_
    rw [Device.modChan_chan_self]
    assumption
  · exact hd.answerSignal c

theorem BaysOk.workChannelAbort (b : Byte) : BaysOk (workChannelAbort b d).1 :=
  h.slot fun c => h.checks fun hcs => by
    have hw : (d.chan c).work = .copy := by
      have ha : (d.chan c).abortable = true := by simpa using hcs
      exact eq_of_beq (Bool.and_eq_true_iff.1 ha).1
    exact h.abortCopy hw

theorem BaysOk.workChannelEject (b : Byte) : BaysOk (workChannelEject b d).1 :=
  h.slot fun c => h.checks fun hcs => by
    have hs : (d.chan c).state = .loaded := by simpa using hcs
    have q := (h.channel c).settled (by rw [hs]; rfl)
    have hm := (h.channel c).seated
    rw [SeatedOk, hs] at hm
    exact h.setChan (q.quiet.ejects hm (fun e => nomatch q.pending.symm.trans e) .reject ejectTimeoutMs) rfl

/-- CHANNEL CLEAR's effect in the three states it is accepted in (R97, R107, R111). -/
theorem BaysOk.cleared {e : Device} (he : d.cleared c = some e) : BaysOk e := by
  have hok := h.channel c
  have hseated := hok.seated
  unfold Device.cleared at he
  split at he <;> cases he <;> rename_i hs
  · have q := hok.settled (by rw [hs]; rfl)
    rw [SeatedOk, hs] at hseated
    exact (h.but c).enterIdle (h.notCapturing q.quiet.not_capture) q hseated
  · obtain ⟨hf, hft⟩ := hok.feed_off (by rw [hs]; decide)
    obtain ⟨he, het⟩ := hok.eject_off (by rw [hs]; decide)
    have q : Quiet (d.chan c) := by rw [Quiet, hok.still_eq (by rw [hs]; rfl), hf, hft, he, het]
    rw [SeatedOk, hs] at hseated
    exact h.modChan (q.ejects hseated (fun e => (hok.pendingFault e).2) _ _) rfl
  · have q := hok.settled (by rw [hs]; rfl)
    refine ((h.but c).modChan _).enterService (h.notCapturing q.quiet.not_capture) ?_
    rw [Device.modChan_chan_self]
    exact ⟨q.quiet, q.bin, q.pending, q.master⟩

theorem BaysOk.workChannelClear (b : Byte) : BaysOk (workChannelClear b d).1 :=
  h.slot fun c => by
    split
    · exact h
    · rename_i e he
      exact h.cleared he

/-- CAPTURE START: the capture runs on a LOADED channel, and there was none (R144, R145). -/
theorem BaysOk.startCapture (hs : (d.chan c).state = .loaded) (hrun : d.capture.state ≠ .running) (i : ImageNo) (f l k : Nat) :
    BaysOk (d.startCapture c i f l k) := by
  have hbut : BaysBut ((d.setCapture (startedCapture c i f l k)).setImage i { d.image i with captureOwner := some c }) c :=
    fun c' hc' => by
      obtain ⟨hok, hcap⟩ := h.but c c' hc'
      refine ⟨hok, fun e => absurd (hcap.1 e).1 hrun, fun e => absurd (Option.some.inj e.2).symm hc'⟩
  have hctx := (h.channel c).rest (by rw [hs]; rfl)
  have hspin : ChannelOk { (d.chan c).enterSpinup .capture with ctx := (d.chan c).ctx } :=
    (h.channel c).spinsUp hs (by decide) (by rw [hctx]; rfl) fun x hx => nomatch hctx.symm.trans hx
  exact hbut.setChan (ch := (d.chan c).enterSpinup .capture) hspin ⟨fun _ => ⟨rfl, rfl⟩, fun _ => rfl⟩

theorem BaysOk.workCaptureStart (c i f l k : Byte) : BaysOk (workCaptureStart c i f l k d).1 :=
  h.slot fun c => h.slot fun i => h.checks fun hcs => by
    simp only [List.mem_cons, List.not_mem_nil, or_false, forall_eq_or_imp, forall_eq, bne_iff_ne, beq_iff_eq] at hcs
    exact h.startCapture hcs.2.2.2.1 hcs.1 i _ _ _

/-- Every request but PART RESET keeps the channels in order. -/
theorem BaysOk.work {r : Request} (hr : r ≠ .partReset) : BaysOk (work r d).1 := by
  cases r with
  | imageCreate => exact h.slot fun _ => h.slot fun _ => h.checks fun _ => h.away
  | imageSeal | imageUnseal | imageDiscard => exact h.slot fun _ => h.checks fun _ => h.away
  | imageRetire i => exact h.workImageRetire i
  | trackLoad ps => exact h.workTrackLoad ps
  | trackFill ps => exact h.workTrackFill ps
  | trackRemove i c n => exact h.workTrackRemove i c n
  | trackRead i c n => exact h.workTrackRead i c n
  | trackQuery | sectorPeek => exact h.slot fun _ => h.checks fun _ => h
  | sectorAmend i c n j o m bs => exact h.workSectorAmend i c n j o m bs
  | imageQuery | profileQuery | lotQuery | channelQuery => exact h.slot fun _ => h
  | streamAbort => exact h.away
  | captureQuery | noticeRead | storeStatus => exact h
  | profileSet ps => exact h.workProfileSet ps
  | lotCreate => exact h.slot fun _ => h.checks fun _ => h.slot fun _ => h.checks fun _ => h.away
  | lotStart => exact h.slot fun l => h.checks fun _ => BaysOk.signalOpen h.away l
  | lotResume => exact h.slot fun l => h.checks fun _ => BaysOk.afterResume h.away l
  | lotHold | lotMark => exact h.slot fun _ => h.checks fun _ => h.away
  | lotClose l => exact h.workLotClose l
  | lotDelete l => exact h.workLotDelete l
  | channelEnable c => exact h.workChannelEnable c
  | channelDisable c => exact h.workChannelDisable c
  | channelAssign c l => exact h.workChannelAssign c l
  | channelHold => exact h.slot fun c => h.setting (c := c) (f := fun ch => { ch with hold := true }) rfl rfl
  | channelRelease => exact h.slot fun c => h.released c
  | channelAbort c => exact h.workChannelAbort c
  | channelEject c => exact h.workChannelEject c
  | channelClear c => exact h.workChannelClear c
  | channelTiming b s e =>
    exact h.slot fun c => h.checks fun _ =>
      h.setting (c := c) (f := fun ch => { ch with stepInterval := s.toNat, settle := e.toNat }) rfl rfl
  | captureStart c i f l k => exact h.workCaptureStart c i f l k
  | captureAbort => exact h.checks fun hcs => h.abortCapture (by simpa using hcs)
  | noticeClear => exact h.away
  | noticeEnable => exact h.checks fun _ => h.away
  | partReset => exact absurd rfl hr

/-! ## The step -/

theorem BaysOk.writeStreamByte (v : Byte) : BaysOk (d.writeStreamByte v) := by
  unfold Device.writeStreamByte
  split
  · dsimp only
    split <;> exact h.away
  all_goals exact h.away

theorem BaysOk.readStreamByte : BaysOk d.readStreamByte := by
  unfold Device.readStreamByte
  split
  · dsimp only
    split <;> exact h.away
  all_goals exact h.away

end

theorem Effect.bays {e : Device} (he : Effect d e) (h : BaysOk d) : BaysOk e := by
  have noTrack0 : ∀ c l, BaysOk ((d.sample c l).noTrack0Expired c) := fun c l => by
    unfold Device.noTrack0Expired
    split
    · exact (h.sample c l).stepExpired c
    · exact h.sample c l
  have budget : ∀ c l, BaysOk ((d.sample c l).budgetPulse c) := fun c l => by
    unfold Device.budgetPulse
    split
    · exact (h.sample c l).indexPulse c 0
    · exact h.sample c l
  cases he with
  | port => exact h.away
  | request r hr => exact h.work hr
  | reset => exact (BaysOk.afterReset d).away
  | release => exact h.away
  | written v => exact h.writeStreamByte v
  | read => exact h.readStreamByte
  | insertion c l => exact (h.sample c l).insertion c
  | removal c l => exact (h.sample c l).removal c
  | indexPulse c l t => exact (h.sample c l).indexPulse c t
  | idBlock c a b n z crcRead => exact h.idBlockRead c a b n z crcRead
  | dataBlock c m raw => exact h.dataBlockRead c m raw
  | budget c l => exact budget c l
  | spinUp c l => exact (h.sample c l).spinUpExpired c
  | indexTimeout c l => exact (h.sample c l).indexExpired c
  | stepInterval c l => exact (h.sample c l).stepExpired c
  | noTrack0 c l => exact noTrack0 c l
  | settle c l => exact (h.sample c l).settleExpired c
  | feedTimeout c l => exact (h.sample c l).feedExpired c
  | ejectTimeout c l => exact (h.sample c l).ejectExpired c

theorem effects_bays {e : Device} (h : Relation.ReflTransGen Effect d e) (hd : BaysOk d) : BaysOk e := by
  induction h with
  | refl => exact hd
  | tail _ he ih => exact he.bays ih

end

/-- Settles O57: every effect takes the channels from order to order, whatever the other blocks hold. -/
theorem baysStayConsistent : Obligations.BaysStayConsistent := fun _ _ h hs => effects_bays (step_chain h) hs.bays

end Sys2Proof.Machine
end

section
/-! PROOFS. The channel requests (O31 to O33). -/

open Sys2Proof Sys2Proof.Machine

namespace Sys2Proof.Machine

/-! ## A channel that is not waiting stands aside from the signals of the lots (R82, R96, R98) -/

section
variable {d : Device} {c c₁ : Chan}

theorem Device.evalFeed_chan_ne (h : c₁ ≠ c) : (d.evalFeed c₁).chan c = d.chan c := by
  unfold Device.evalFeed
  split
  · exact Device.modChan_chan_ne _ _ h
  · rfl

theorem Device.requestAdmission_chan_ne (h : c₁ ≠ c) (l : LotNo) : (d.requestAdmission c₁ l).chan c = d.chan c := by
  unfold Device.requestAdmission
  dsimp only
  split
  · exact Device.modChan_chan_ne _ _ h
  · split <;> rfl
  all_goals rfl

theorem Device.admissionPoint_chan_ne (h : c₁ ≠ c) : (d.admissionPoint c₁).chan c = d.chan c := by
  unfold Device.admissionPoint
  split
  · rfl
  · split
    · rw [Device.protectedReject_eq]
      exact Device.setChan_chan_ne _ _ h
    · exact Device.requestAdmission_chan_ne h _

/-- No signal changes a channel that neither waits in IDLE nor in LOADED. -/
theorem Device.answerSignal_chan_busy (h : (d.chan c).state ≠ .idle) (h' : (d.chan c).state ≠ .loaded) (c₁ : Chan) :
    (d.answerSignal c₁).chan c = d.chan c := by
  by_cases hc : c₁ = c
  · rw [hc, Device.answerSignal_busy h h']
  · unfold Device.answerSignal
    split
    · exact Device.evalFeed_chan_ne hc
    · exact Device.admissionPoint_chan_ne hc
    all_goals rfl

theorem Device.answerSignals_chan_busy (cs : List Chan) : ∀ {d : Device}, (d.chan c).state ≠ .idle → (d.chan c).state ≠ .loaded →
    (cs.foldl Device.answerSignal d).chan c = d.chan c := by
  induction cs with
  | nil => exact fun _ _ => rfl
  | cons c₁ cs ih =>
    intro d h h'
    have hstep := Device.answerSignal_chan_busy h h' c₁
    rw [List.foldl_cons, ih (by rw [hstep]; exact h) (by rw [hstep]; exact h'), hstep]

theorem Device.signalAfter_chan_busy (h : (d.chan c).state ≠ .idle) (h' : (d.chan c).state ≠ .loaded) (due : Bool) (l : LotNo) :
    (d.signalAfter due l).chan c = d.chan c := by
  unfold Device.signalAfter
  split
  · exact Device.answerSignals_chan_busy (d := { d with freeCount := d.freeCount + 1 }) _ h h'
  · rfl

/-- Every copy end but MEDIA_LOST leaves its channel EJECTING (R105). -/
theorem Device.copyEnd_ejecting {x : CopyContext} (hx : (d.chan c).ctx = some x) {o : CopyOutcome} (ho : o ≠ .reject .mediaLost)
    (key : Option Key) : ((d.copyEnd c o key).chan c).state = .ejecting := by
  have hself : (((d.copyClosed c x o key).beginEject c o.bin).chan c).state = .ejecting := by
    rw [Device.beginEject, Device.modChan_chan_self]
  rw [Device.copyEnd_eject hx ho, Device.signalAfter_chan_busy (by rw [hself]; decide) (by rw [hself]; decide), hself]

/-- The failed key of an end that the channel decides (R138). -/
theorem Device.copyCut_eq {x : CopyContext} (hx : (d.chan c).ctx = some x) (r : RejectReason) :
    d.copyCut c r = d.copyEnd c (.reject r) (if x.phase = none then none else x.key) := by
  rw [Device.copyCut, hx, Option.bind_some]
  cases h : x.phase <;> simp [CopyContext.keyInProgress, h]

end

/-! ## ENABLE and DISABLE (R95) -/

section
variable {s : State} {tag channel : Byte} {c : Chan}

theorem ChanState.disables_iff (t : ChanState) :
    t.disables = true ↔ ¬ (t ≠ .idle ∧ t ≠ .loaded ∧ t ≠ .starved ∧ t ≠ .fault) := by
  cases t <;> simp [ChanState.disables]

theorem Device.enterService_eq (d : Device) (c : Chan) : d.enterService c =
    if (d.chan c).media = true then (d.setChan c { d.chan c with state := .loaded }).admissionPoint c
    else (d.setChan c { d.chan c with state := .idle }).evalFeed c := rfl

theorem exec_channelEnable (h : PortReady s.dev) (hc : channel.toNat = c.val) :
    exec (.channelEnable tag channel) s = .next (
      if (s.dev.chan c).state ≠ .offline then s.refused tag 0x50 .wrongState
      else s.answered (s.dev.enterService c) tag 0x50 .ok (u8 ((s.dev.enterService c).chan c).state.pos)) := by
  rw [exec_worked h rfl rfl rfl, workChannelEnable, withChan_lt c hc]
  exact congrArg Host.Outcome.next (worked_check (by simp) fun _ => rfl)

theorem exec_channelDisable (h : PortReady s.dev) (hc : channel.toNat = c.val) :
    exec (.channelDisable tag channel) s = .next (
      if (s.dev.chan c).state ≠ .idle ∧ (s.dev.chan c).state ≠ .loaded ∧ (s.dev.chan c).state ≠ .starved ∧
          (s.dev.chan c).state ≠ .fault then
        s.refused tag 0x51 .wrongState
      else s.answered (s.dev.modChan c Channel.disabled) tag 0x51 .ok []) := by
  rw [exec_worked h rfl rfl rfl, workChannelDisable, withChan_lt c hc]
  exact congrArg Host.Outcome.next (worked_check (ChanState.disables_iff _) fun _ => rfl)

end

/-- Settles O31. -/
theorem enablingAndDisabling : Obligations.EnablingAndDisabling := by
  intro s tag channel h
  refine ⟨fun hn => ⟨exec_refused h rfl rfl rfl (withChan_ge hn), exec_refused h rfl rfl rfl (withChan_ge hn)⟩, fun c hc => ?_⟩
  exact ⟨exec_channelEnable h hc, exec_channelDisable h hc⟩

/-! ## ASSIGN, HOLD and RELEASE (R112, R114) -/

section
variable {s : State} {tag channel lot : Byte} {c : Chan}

theorem lotOrNone_named {l : LotNo} (hl : lot.toNat = l.val) : lotOrNone lot = some (some l) := by
  have hlt : lot.toNat < 8 := hl ▸ l.isLt
  have hne : lot ≠ 0xFF := fun e => by subst e; exact absurd hlt (by decide)
  rw [lotOrNone, if_neg hne, dif_pos hlt]
  exact congrArg (fun i => some (some i)) (Fin.ext hl)

theorem lotOrNone_outside (hn : 8 ≤ lot.toNat) (hne : lot ≠ 0xFF) : lotOrNone lot = none := by
  rw [lotOrNone, if_neg hne, dif_neg (Nat.not_lt.2 hn)]

theorem ChanState.works_iff (t : ChanState) :
    t.works = true ↔ t = .spinup ∨ t = .calibrating ∨ t = .copying ∨ t = .held ∨ t = .capturing := by
  cases t <;> simp [ChanState.works]

/-- ASSIGN with a lot parameter in range (R114): the state is checked first, then what the named lot asks for. -/
theorem exec_channelAssign (h : PortReady s.dev) (hc : channel.toNat = c.val) {o : Option LotNo} (ho : lotOrNone lot = some o)
    {rest : State} (hrest : s.worked tag 0x52 (checked s.dev (assignChecks s.dev c o)
      (answerOk ((s.dev.setChan c { s.dev.chan c with lot := o }).answerSignal c) [])) = rest) :
    exec (.channelAssign tag channel lot) s = .next (
      if (s.dev.chan c).state = .spinup ∨ (s.dev.chan c).state = .calibrating ∨ (s.dev.chan c).state = .copying ∨
          (s.dev.chan c).state = .held ∨ (s.dev.chan c).state = .capturing then
        s.refused tag 0x52 .wrongState
      else rest) := by
  rw [exec_worked h rfl rfl rfl, workChannelAssign, withChan_lt c hc, ho]
  refine congrArg Host.Outcome.next (worked_check ?_ fun _ => hrest)
  rw [Bool.not_eq_true', Bool.eq_false_iff, ne_eq, ChanState.works_iff]

theorem exec_channelAssign_outside (h : PortReady s.dev) (hc : channel.toNat = c.val) (ho : lotOrNone lot = none) :
    exec (.channelAssign tag channel lot) s = .next (s.refused tag 0x52 .noSuch) := by
  refine exec_refused h rfl rfl rfl ?_
  rw [workChannelAssign, withChan_lt c hc, ho]

theorem exec_channelHold (h : PortReady s.dev) (hc : channel.toNat = c.val) :
    exec (.channelHold tag channel) s = .next (s.answered (s.dev.setChan c { s.dev.chan c with hold := true }) tag 0x53 .ok
      (u8 (s.dev.chan c).state.pos)) := by
  rw [exec_worked h rfl rfl rfl, workChannelHold, withChan_lt c hc, answerState, Device.modChan_chan_self]
  rfl

theorem Device.released_eq (d : Device) (c : Chan) : d.released c =
    if (d.chan c).state = .held then (d.setChan c { d.chan c with hold := false, state := .copying }).beginNext c
    else (d.setChan c { d.chan c with hold := false }).answerSignal c := by
  rw [Device.released, Device.resumeCopy, Device.modChan_modChan]
  rfl

theorem exec_channelRelease (h : PortReady s.dev) (hc : channel.toNat = c.val) :
    exec (.channelRelease tag channel) s = .next (s.answered (s.dev.released c) tag 0x54 .ok
      (u8 ((s.dev.released c).chan c).state.pos)) := by
  rw [exec_worked h rfl rfl rfl, workChannelRelease, withChan_lt c hc]
  rfl

end

/-- Settles O32. -/
theorem assigningHoldingReleasing : Obligations.AssigningHoldingReleasing := by
  intro s tag channel lot h
  refine ⟨fun hn => ⟨exec_refused h rfl rfl rfl (withChan_ge hn), exec_refused h rfl rfl rfl (withChan_ge hn),
    exec_refused h rfl rfl rfl (withChan_ge hn)⟩, fun c hc => ?_⟩
  intro ch working
  refine ⟨fun hn hne => ?_, fun hnone => ?_, fun l hl => ?_, ?_, ?_⟩
  · exact exec_channelAssign_outside h hc (lotOrNone_outside hn hne)
  · exact exec_channelAssign h hc (if_pos hnone) rfl
  · exact exec_channelAssign h hc (lotOrNone_named hl) (worked_check (by simp [ch]) fun _ => worked_check (by simp) fun _ => rfl)
  · exact exec_channelHold h hc
  · intro released
    have hreleased : s.dev.released c = released := Device.released_eq s.dev c
    rw [exec_channelRelease h hc, hreleased]

/-! ## ABORT, EJECT, CLEAR and TIMING (R107, R111, R113, R116, R117) -/

section
variable {s : State} {tag channel step settle : Byte} {c : Chan}

theorem Channel.abortable_iff (ch : Channel) : ch.abortable = true ↔ ch.work = .copy ∧
    (ch.state = .spinup ∨ ch.state = .calibrating ∨ ch.state = .copying ∨ ch.state = .held) := by
  simp [Channel.abortable, or_assoc]

theorem exec_channelAbort_refused (h : PortReady s.dev) (hc : channel.toNat = c.val) (ha : ¬ (s.dev.chan c).abortable = true) :
    exec (.channelAbort tag channel) s = .next (s.refused tag 0x55 .wrongState) := by
  refine exec_refused h rfl rfl rfl ?_
  rw [workChannelAbort, withChan_lt c hc, checked_false (Bool.eq_false_iff.2 ha)]

theorem exec_channelAbort (h : PortReady s.dev) (hc : channel.toNat = c.val) (ha : (s.dev.chan c).abortable = true)
    {x : CopyContext} (hx : (s.dev.chan c).ctx = some x) :
    exec (.channelAbort tag channel) s = .next (s.answered
      (s.dev.copyEnd c (.reject .aborted) (if x.phase = none then none else x.key)) tag 0x55 .ok [10]) := by
  rw [exec_worked h rfl rfl rfl, workChannelAbort, withChan_lt c hc]
  rw [worked_pass ha, Device.copyCut_eq hx, answerState, Device.copyEnd_ejecting hx (by decide)]
  rfl

theorem exec_channelEject (h : PortReady s.dev) (hc : channel.toNat = c.val) :
    exec (.channelEject tag channel) s = .next (
      if (s.dev.chan c).state ≠ .loaded then s.refused tag 0x56 .wrongState
      else s.answered (s.dev.beginEject c .reject) tag 0x56 .ok [10]) := by
  rw [exec_worked h rfl rfl rfl, workChannelEject, withChan_lt c hc]
  refine congrArg Host.Outcome.next (worked_check (by simp) fun _ => ?_)
  rw [answerState, Device.beginEject_eq, Device.setChan_chan_self]
  rfl

theorem ChanState.retimes_iff (t : ChanState) : t.retimes = true ↔ ¬ (t ≠ .offline ∧ t ≠ .idle ∧ t ≠ .loaded) := by
  cases t <;> simp [ChanState.retimes]

theorem exec_channelTiming (h : PortReady s.dev) (hc : channel.toNat = c.val) :
    exec (.channelTiming tag channel step settle) s = .next (
      if step.toNat < 2 ∨ 8 < step.toNat ∨ settle.toNat < 10 ∨ 30 < settle.toNat then s.refused tag 0x58 .badValue
      else if (s.dev.chan c).state ≠ .offline ∧ (s.dev.chan c).state ≠ .idle ∧ (s.dev.chan c).state ≠ .loaded then
        s.refused tag 0x58 .wrongState
      else s.answered (s.dev.setChan c { s.dev.chan c with stepInterval := step.toNat, settle := settle.toNat }) tag 0x58 .ok
        []) := by
  rw [exec_worked h rfl rfl rfl, workChannelTiming, withChan_lt c hc]
  exact congrArg Host.Outcome.next (worked_check (by simp [within]; omega) fun _ =>
    worked_check (ChanState.retimes_iff _) fun _ => rfl)

theorem exec_channelClear (h : PortReady s.dev) (hc : channel.toNat = c.val) {e : Device} (he : s.dev.cleared c = some e) :
    exec (.channelClear tag channel) s = .next (s.answered e tag 0x57 .ok (u8 (e.chan c).state.pos)) := by
  rw [exec_worked h rfl rfl rfl, workChannelClear, withChan_lt c hc]
  rw [he]
  rfl

theorem exec_channelClear_refused (h : PortReady s.dev) (hc : channel.toNat = c.val) (he : s.dev.cleared c = none) :
    exec (.channelClear tag channel) s = .next (s.refused tag 0x57 .wrongState) := by
  refine exec_refused h rfl rfl rfl ?_
  rw [workChannelClear, withChan_lt c hc]
  rw [he]

theorem Device.cleared_starved {d : Device} (h : (d.chan c).state = .starved) : d.cleared c = some (d.enterIdle c) := by
  unfold Device.cleared
  rw [h]

theorem Device.cleared_jammed {d : Device} (h : (d.chan c).state = .jammed) :
    d.cleared c = some (d.beginEject c (d.chan c).ejectBin) := by
  unfold Device.cleared
  rw [h]

theorem Device.cleared_fault {d : Device} (h : (d.chan c).state = .fault) :
    d.cleared c = some ((d.modChan c fun ch => { ch with fault := none }).enterService c) := by
  unfold Device.cleared
  rw [h]

theorem Device.cleared_none {d : Device} (hs : (d.chan c).state ≠ .starved) (hj : (d.chan c).state ≠ .jammed)
    (hf : (d.chan c).state ≠ .fault) : d.cleared c = none := by
  unfold Device.cleared
  split
  · exact absurd ‹_› hs
  · exact absurd ‹_› hj
  · exact absurd ‹_› hf
  all_goals rfl

end

/-- Settles O33. -/
theorem abortEjectClearAndTiming : Obligations.AbortEjectClearAndTiming := by
  refine ⟨fun s tag channel step settle h => ⟨fun hn => ?_, fun c hc => ?_⟩,
    fun s tag channel h => ⟨fun hn => ?_, fun c hc => ?_⟩⟩
  · exact ⟨exec_refused h rfl rfl rfl (withChan_ge hn), exec_refused h rfl rfl rfl (withChan_ge hn),
      exec_refused h rfl rfl rfl (withChan_ge hn)⟩
  · intro ch copying
    exact ⟨fun hcopy => exec_channelAbort_refused h hc fun ha => hcopy (ch.abortable_iff.1 ha),
      fun hcopy x hx => exec_channelAbort h hc (ch.abortable_iff.2 hcopy) hx, exec_channelEject h hc, exec_channelTiming h hc⟩
  · exact exec_refused h rfl rfl rfl (withChan_ge hn)
  · intro ch starved faulted
    refine ⟨fun hs => exec_channelClear h hc (Device.cleared_starved hs), fun hj => ?_, fun hf => ?_,
      fun hs hj hf => exec_channelClear_refused h hc (Device.cleared_none hs hj hf)⟩
    · rw [exec_channelClear h hc (Device.cleared_jammed hj), Device.beginEject_eq, Device.setChan_chan_self]
      rfl
    · have hfaulted : (s.dev.modChan c fun x => { x with fault := none }).enterService c = faulted := by
        rw [Device.enterService_eq, Device.modChan_chan_self, Device.modChan, Device.setChan_setChan, Device.setChan_setChan]
      rw [exec_channelClear h hc (Device.cleared_fault hf), hfaulted]

end Sys2Proof.Machine
end

section
/-! PROOFS. The events of a bay and the expiries of a channel's timers (O34 to O38), function by function in the order of the model:
what each makes of a part whose channel `c` has been set to `ch`. -/

open Sys2Proof Sys2Proof.Machine

namespace Sys2Proof.Machine

section
variable {d : Device} {c : Chan} {ch : Channel}

theorem Device.setChan_enterLoaded (d : Device) (c : Chan) (ch : Channel) :
    (d.setChan c ch).enterLoaded c = (d.setChan c { ch with state := .loaded }).admissionPoint c := by
  rw [Device.enterLoaded, Device.setChan_modChan]

theorem Device.setChan_enterIdle (d : Device) (c : Chan) (ch : Channel) :
    (d.setChan c ch).enterIdle c = (d.setChan c { ch with state := .idle }).evalFeed c := by
  rw [Device.enterIdle, Device.setChan_modChan]

/-! ## Insertion (R95 to R97) -/

theorem Device.insertion_seated (h : ch.media = true) : (d.setChan c ch).insertion c = d.setChan c ch := by
  rw [Device.insertion, Device.setChan_chan_self, if_pos h]

theorem Device.insertion_waiting (h : ch.media = false) (hs : ch.state = .idle ∨ ch.state = .starved) :
    (d.setChan c ch).insertion c = (d.setChan c { ch with media := true, state := .loaded }).admissionPoint c := by
  rw [Device.insertion, Device.setChan_chan_self, if_neg (Bool.eq_false_iff.1 h), Device.setChan_modChan]
  dsimp only
  rcases hs with hs | hs
  all_goals
    rw [hs]
    exact Device.setChan_enterLoaded ..

theorem Device.insertion_feeding (h : ch.media = false) (hs : ch.state = .feeding) :
    (d.setChan c ch).insertion c = (d.setChan c { ch with
      media := true, state := .loaded, out := { ch.out with feed := false }
      timers := { ch.timers with feed := none } }).admissionPoint c := by
  rw [Device.insertion, Device.setChan_chan_self, if_neg (Bool.eq_false_iff.1 h), Device.setChan_modChan]
  dsimp only
  rw [hs]
  dsimp only
  rw [Device.setChan_modChan, Device.setChan_enterLoaded]

theorem Device.insertion_elsewhere (h : ch.media = false) (hi : ch.state ≠ .idle) (hs : ch.state ≠ .starved)
    (hf : ch.state ≠ .feeding) : (d.setChan c ch).insertion c = d.setChan c { ch with media := true } := by
  rw [Device.insertion, Device.setChan_chan_self, if_neg (Bool.eq_false_iff.1 h), Device.setChan_modChan]
  dsimp only
  split
  · exact absurd ‹_› hi
  · exact absurd ‹_› hs
  · exact absurd ‹_› hf
  all_goals rfl

/-! ## Removal (R106, R107, R109) -/

/-- A channel whose diskette has gone (R109, R115). -/
def Channel.gone (ch : Channel) : Channel := { ch with media := false, master := false }

theorem Device.setChan_gone (d : Device) (c : Chan) (ch : Channel) :
    ((d.setChan c ch).modChan c fun ch => { ch with media := false, master := false }) = d.setChan c ch.gone :=
  Device.setChan_modChan ..

theorem Device.removal_empty (h : ch.media = false) : (d.setChan c ch).removal c = d.setChan c ch := by
  rw [Device.removal, Device.setChan_chan_self, if_pos h]

section
variable (h : ch.media = true)
include h

theorem Device.removal_copy (hs : ch.state.works = true) (hw : ch.work = .copy) :
    (d.setChan c ch).removal c = (d.setChan c ch.gone).copyCut c .mediaLost := by
  rw [Device.removal, Device.setChan_chan_self, if_neg (by rw [h]; decide), Device.setChan_gone, hw]
  rcases (ChanState.works_iff _).1 hs with hs | hs | hs | hs | hs
  all_goals
    rw [hs]

theorem Device.removal_capture (hs : ch.state.works = true) (hw : ch.work = .capture) :
    (d.setChan c ch).removal c = (d.setChan c ch.gone).captureEnd c .mediaLost := by
  rw [Device.removal, Device.setChan_chan_self, if_neg (by rw [h]; decide), Device.setChan_gone, hw]
  rcases (ChanState.works_iff _).1 hs with hs | hs | hs | hs | hs
  all_goals
    rw [hs]

theorem Device.removal_loaded (hs : ch.state = .loaded) :
    (d.setChan c ch).removal c = (d.setChan c { ch.gone with state := .idle }).evalFeed c := by
  rw [Device.removal, Device.setChan_chan_self, if_neg (by rw [h]; decide), Device.setChan_gone, hs]
  exact Device.setChan_enterIdle ..

theorem Device.removal_ejects (hs : ch.state = .ejecting ∨ ch.state = .jammed) :
    (d.setChan c ch).removal c = (d.setChan c ch.gone).completeEject c := by
  rw [Device.removal, Device.setChan_chan_self, if_neg (by rw [h]; decide), Device.setChan_gone]
  rcases hs with hs | hs
  all_goals
    rw [hs]

theorem Device.removal_elsewhere
    (hs : ch.state = .offline ∨ ch.state = .idle ∨ ch.state = .feeding ∨ ch.state = .starved ∨ ch.state = .fault) :
    (d.setChan c ch).removal c = d.setChan c ch.gone := by
  rw [Device.removal, Device.setChan_chan_self, if_neg (by rw [h]; decide), Device.setChan_gone]
  rcases hs with hs | hs | hs | hs | hs
  all_goals
    rw [hs]

end

/-- A channel whose eject is complete (R106): eject off, its timer stopped, bin select GOOD. -/
def Channel.ejected (ch : Channel) : Channel :=
  { ch with out := { ch.out with eject := false, bin := .good }, timers := { ch.timers with eject := none } }

theorem Device.completeEject_faulted (h : ch.faultPending = true) : (d.setChan c ch).completeEject c =
    (d.setChan c { ch.ejected with state := .fault, faultPending := false }).notify (noticeChAlert c) := by
  rw [Device.completeEject, Device.setChan_chan_self]
  dsimp only
  rw [if_pos h, Device.setChan_modChan, Device.setChan_modChan]
  rfl

theorem Device.completeEject_idle (h : ch.faultPending = false) :
    (d.setChan c ch).completeEject c = (d.setChan c { ch.ejected with state := .idle }).evalFeed c := by
  rw [Device.completeEject, Device.setChan_chan_self]
  dsimp only
  rw [if_neg (Bool.eq_false_iff.1 h), Device.setChan_modChan]
  exact Device.setChan_enterIdle ..

/-! ## Index pulses that measure the drive (R100 to R102) -/

theorem Device.pulseTaken_calm (h : ch.state = .calibrating ∨ ch.state = .held) (t : Nat) :
    (d.setChan c ch).pulseTaken c t = d.setChan c ch.restartIndex := by
  rw [Device.pulseTaken, Device.setChan_chan_self, Device.setChan_modChan]
  rcases h with h | h
  all_goals
    rw [h]

section
variable (h : ch.state = .spinup)
include h

theorem Device.pulseTaken_waiting (hm : ch.measure = .waiting) (t : Nat) :
    (d.setChan c ch).pulseTaken c t = d.setChan c { ch.restartIndex with measure := .first t } := by
  rw [Device.pulseTaken, Device.setChan_chan_self, Device.setChan_modChan, h, hm]
  exact Device.setChan_modChan ..

theorem Device.pulseTaken_first {t1 : Nat} (hm : ch.measure = .first t1) (t : Nat) :
    (d.setChan c ch).pulseTaken c t = d.setChan c { ch.restartIndex with measure := .second t1 } := by
  rw [Device.pulseTaken, Device.setChan_chan_self, Device.setChan_modChan, h, hm]
  exact Device.setChan_modChan ..

theorem Device.pulseTaken_second {t1 : Nat} (hm : ch.measure = .second t1) (t : Nat) :
    (d.setChan c ch).pulseTaken c t = (d.setChan c ch.restartIndex).measured c ((t - t1) / 2) := by
  rw [Device.pulseTaken, Device.setChan_chan_self, Device.setChan_modChan, h, hm]
  rfl

end

theorem periodAccepted_iff (p : Nat) : periodAccepted p = true ↔ 196000 ≤ p ∧ p ≤ 204000 := by
  simp [periodAccepted]

theorem Device.measured_accepted {p : Nat} (hl : 196000 ≤ p) (hu : p ≤ 204000) :
    (d.setChan c ch).measured c p = d.setChan c { ch with period := p }.enterCalibrating := by
  rw [Device.measured, if_pos ((periodAccepted_iff p).2 ⟨hl, hu⟩), Device.setChan_modChan]

theorem Device.measured_outside {p : Nat} (h : p < 196000 ∨ 204000 < p) :
    (d.setChan c ch).measured c p = (d.setChan c ch).driveFault c (.speed p) := by
  refine if_neg fun hp => ?_
  obtain ⟨hl, hu⟩ := (periodAccepted_iff p).1 hp
  omega

theorem Channel.enterCalibrating_onTrack0 (h : ch.lines.trackZero = true) : ch.enterCalibrating =
    { ch with
      state := .calibrating, measure := .none, headCyl := 0, calibrated := true, motion := .calSettle
      out := { ch.out with head := 0, directionIn := false }
      timers := { ch.timers with step := none, settle := some ch.settle } } := if_pos h

theorem Channel.enterCalibrating_offTrack0 (h : ch.lines.trackZero = false) : ch.enterCalibrating =
    { ch with
      state := .calibrating, measure := .none, headCyl := ch.headCyl - 1, motion := .calOut 1
      out := { ch.out with head := 0, directionIn := false, stepPulses := ch.out.stepPulses + 1 }
      timers := { ch.timers with step := some ch.stepInterval } } := if_neg (Bool.eq_false_iff.1 h)

/-! ## Drive faults (R110) -/

theorem Device.driveFault_copy (h : (d.chan c).work = .copy) {x : CopyContext} (hx : (d.chan c).ctx = some x) (f : FaultRecord) :
    d.driveFault c f = (d.setChan c { d.chan c with fault := some f, faultPending := true }).copyEnd c (.reject .driveFault)
      (if x.phase = none then none else x.key) := by
  rw [Device.driveFault, h]
  exact Device.copyCut_eq (by rw [Device.modChan_chan_self]; exact hx) _

theorem Device.driveFault_capture (h : (d.chan c).work = .capture) (f : FaultRecord) :
    d.driveFault c f = (d.setChan c { d.chan c with fault := some f }).captureEnd c .driveFault := by
  rw [Device.driveFault, h]
  rfl

/-! ## Timer expiries -/

theorem Device.spinUpExpired_eq (d : Device) (c : Chan) (ch : Channel) : (d.setChan c ch).spinUpExpired c =
    if ch.timers.spinUp = none then d.setChan c ch
    else d.setChan c { ch with timers := { ch.timers with spinUp := none, index := some 400 }, measure := .waiting } := by
  rw [Device.spinUpExpired, Device.setChan_chan_self, Device.setChan_modChan]
  cases ch.timers.spinUp <;> rfl

theorem Device.feedExpired_eq (d : Device) (c : Chan) (ch : Channel) : (d.setChan c ch).feedExpired c =
    if ch.timers.feed = none then d.setChan c ch
    else (d.setChan c { ch with state := .starved, out := { ch.out with feed := false }
                                timers := { ch.timers with feed := none } }).notify (noticeChAlert c) := by
  rw [Device.feedExpired, Device.setChan_chan_self, Device.setChan_modChan]
  cases ch.timers.feed <;> rfl

theorem Device.ejectExpired_eq (d : Device) (c : Chan) (ch : Channel) : (d.setChan c ch).ejectExpired c =
    if ch.timers.eject = none then d.setChan c ch
    else (d.setChan c { ch with state := .jammed, out := { ch.out with eject := false }
                                timers := { ch.timers with eject := none } }).notify (noticeChAlert c) := by
  rw [Device.ejectExpired, Device.setChan_chan_self, Device.setChan_modChan]
  cases ch.timers.eject <;> rfl

theorem Device.indexExpired_eq (d : Device) (c : Chan) (ch : Channel) : (d.setChan c ch).indexExpired c =
    if ch.timers.index = none then d.setChan c ch else (d.setChan c ch).driveFault c (.noIndex ch.state) := by
  rw [Device.indexExpired, Device.setChan_chan_self, Channel.monitored]
  cases ch.timers.index <;> rfl

/-! ## Step expiries (R102 to R104) -/

/-- One pulse (R102, R103), toward a movement that is known. -/
theorem Channel.pulse_eq {m : Motion} (h : ch.motion = m) (inward : Bool) : ch.pulse inward =
    { ch with
      headCyl := if inward = true then ch.headCyl + 1 else ch.headCyl - 1, motion := m
      out := { ch.out with directionIn := inward, stepPulses := ch.out.stepPulses + 1 }
      timers := { ch.timers with step := some ch.stepInterval } } := by
  subst h
  rfl

/-- The channel is stepping out, in a calibration or a recalibration, and has issued 90 pulses or more (R102, R104). -/
def Motion.exhausted (m : Motion) : Prop := ∃ k, 90 ≤ k ∧ (m = .calOut k ∨ ∃ back, m = .recalOut k back)

theorem Motion.exhausted_calOut (k : Nat) : (Motion.calOut k).exhausted ↔ 90 ≤ k := by
  simp [Motion.exhausted]

theorem Motion.exhausted_recalOut (k back : Nat) : (Motion.recalOut k back).exhausted ↔ 90 ≤ k := by
  simp [Motion.exhausted]

theorem isNone_ne_true {α : Type} {o : Option α} (ho : o.isSome = true) : ¬ o.isNone = true :=
  Bool.eq_false_iff.1 (Option.isNone_eq_false_iff.2 ho)

theorem stepOutLimit_not_le {k : Nat} (hk : k < 90) : ¬ stepOutLimit ≤ k := Nat.not_le.2 hk

theorem Device.stepExpired_stopped (h : ch.timers.step = none) : (d.setChan c ch).stepExpired c = d.setChan c ch := by
  rw [Device.stepExpired, Device.setChan_chan_self, h]
  rfl

section
variable (h : ch.timers.step.isSome = true)
include h

theorem Device.stepExpired_calOut_found {k : Nat} (hm : ch.motion = .calOut k) (hz : ch.lines.trackZero = true) :
    (d.setChan c ch).stepExpired c = d.setChan c ({ ch with headCyl := 0, calibrated := true }.startSettle .calSettle) := by
  rw [Device.stepExpired, Device.setChan_chan_self, if_neg (isNone_ne_true h), hm]
  dsimp only
  rw [if_pos hz, Device.setChan_modChan]
  rfl

theorem Device.stepExpired_calOut_next {k : Nat} (hm : ch.motion = .calOut k) (hz : ch.lines.trackZero = false) (hk : k < 90) :
    (d.setChan c ch).stepExpired c = d.setChan c { ch.pulse false with motion := .calOut (k + 1) } := by
  rw [Device.stepExpired, Device.setChan_chan_self, if_neg (isNone_ne_true h), hm]
  dsimp only
  rw [if_neg (Bool.eq_false_iff.1 hz), if_neg (stepOutLimit_not_le hk), Device.setChan_modChan]

theorem Device.stepExpired_recalOut_found {k back : Nat} (hm : ch.motion = .recalOut k back) (hz : ch.lines.trackZero = true) :
    (d.setChan c ch).stepExpired c =
      d.setChan c ({ ch with timers := { ch.timers with step := none } }.recalFound back) := by
  rw [Device.stepExpired, Device.setChan_chan_self, if_neg (isNone_ne_true h), hm]
  dsimp only
  rw [if_pos hz, Device.setChan_modChan, ← hm]

theorem Device.stepExpired_recalOut_next {k back : Nat} (hm : ch.motion = .recalOut k back) (hz : ch.lines.trackZero = false)
    (hk : k < 90) : (d.setChan c ch).stepExpired c = d.setChan c { ch.pulse false with motion := .recalOut (k + 1) back } := by
  rw [Device.stepExpired, Device.setChan_chan_self, if_neg (isNone_ne_true h), hm]
  dsimp only
  rw [if_neg (Bool.eq_false_iff.1 hz), if_neg (stepOutLimit_not_le hk), Device.setChan_modChan]

/-- Track zero is not found within 90 pulses, in a calibration or a recalibration (R102, R104). -/
theorem Device.stepExpired_exhausted (hm : ch.motion.exhausted) (hz : ch.lines.trackZero = false) :
    (d.setChan c ch).stepExpired c = (d.setChan c ch).driveFault c (.noTrack0 90) := by
  rw [Device.stepExpired, Device.setChan_chan_self, if_neg (isNone_ne_true h)]
  obtain ⟨k, hk, hm | ⟨back, hm⟩⟩ := hm
  all_goals
    rw [hm]
    dsimp only
    exact (if_neg (Bool.eq_false_iff.1 hz)).trans (if_pos hk)

theorem Device.stepExpired_seek {target : Nat} (hm : ch.motion = .seek target) : (d.setChan c ch).stepExpired c = d.setChan c
    (if ch.headCyl = target then ch.startSettle .seekSettle else ch.pulse (decide (ch.headCyl < target))) := by
  rw [Device.stepExpired, Device.setChan_chan_self, if_neg (isNone_ne_true h), hm, apply_ite (d.setChan c)]
  dsimp only
  rw [Device.setChan_modChan, Device.setChan_modChan]

theorem Device.stepExpired_recalIn {back : Nat} (hm : ch.motion = .recalIn back) : (d.setChan c ch).stepExpired c = d.setChan c
    (if back ≤ ch.headCyl then ch.startSettle .recalSettle else ch.pulse true) := by
  rw [Device.stepExpired, Device.setChan_chan_self, if_neg (isNone_ne_true h), hm, apply_ite (d.setChan c)]
  dsimp only
  rw [Device.setChan_modChan, Device.setChan_modChan]

end

/-! ## The step expiry after the 90th pulse (R102, log 8) -/

theorem Device.noTrack0Due_iff : (d.setChan c ch).noTrack0Due c = true ↔
    ch.timers.step.isSome = true ∧ ch.lines.trackZero = false ∧ ch.motion.exhausted := by
  rw [Device.noTrack0Due, Device.setChan_chan_self, Bool.and_eq_true, Bool.and_eq_true, Bool.not_eq_true', and_assoc]
  refine and_congr_right fun _ => and_congr_right fun _ => ?_
  cases ch.motion with
  | calOut k => exact decide_eq_true_iff.trans (Motion.exhausted_calOut k).symm
  | recalOut k back => exact decide_eq_true_iff.trans (Motion.exhausted_recalOut k back).symm
  | _ => simp [Motion.exhausted]

theorem Device.noTrack0Expired_due (h : ch.timers.step.isSome = true) (hm : ch.motion.exhausted)
    (hz : ch.lines.trackZero = false) :
    (d.setChan c ch).noTrack0Expired c = (d.setChan c ch).driveFault c (.noTrack0 90) :=
  (if_pos (Device.noTrack0Due_iff.2 ⟨h, hz, hm⟩)).trans (Device.stepExpired_exhausted h hm hz)

theorem Device.noTrack0Expired_idle (h : ch.timers.step = none ∨ ch.lines.trackZero = true ∨ ¬ ch.motion.exhausted) :
    (d.setChan c ch).noTrack0Expired c = d.setChan c ch := by
  refine if_neg fun hdue => ?_
  obtain ⟨hrun, hz, hm⟩ := Device.noTrack0Due_iff.1 hdue
  rcases h with h | h | h
  · exact Option.ne_none_iff_isSome.2 hrun h
  · exact nomatch hz.symm.trans h
  · exact h hm

/-! ## The settle expiry (R102 to R104, R124, R132, R147) -/

/-- A channel whose head movement is over. -/
def Channel.arrived (ch : Channel) : Channel := { ch with timers := { ch.timers with settle := none }, motion := .none }

theorem Device.settleExpired_stopped (h : ch.timers.settle = none) : (d.setChan c ch).settleExpired c = d.setChan c ch := by
  rw [Device.settleExpired, Device.setChan_chan_self, h]
  rfl

section
variable (h : ch.timers.settle.isSome = true)
include h

theorem Device.settleExpired_calSettle (hm : ch.motion = .calSettle) :
    (d.setChan c ch).settleExpired c = (d.setChan c ch.arrived).calibrationDone c := by
  rw [Device.settleExpired, Device.setChan_chan_self, if_neg (isNone_ne_true h), Device.setChan_modChan, hm]
  rfl

theorem Device.settleExpired_positioned (hm : ch.motion = .seekSettle ∨ ch.motion = .recalSettle) :
    (d.setChan c ch).settleExpired c = (d.setChan c ch.arrived).positioned c := by
  rw [Device.settleExpired, Device.setChan_chan_self, if_neg (isNone_ne_true h), Device.setChan_modChan]
  rcases hm with hm | hm
  all_goals
    rw [hm]
    rfl

end

theorem Device.calibrationDone_copy (h : ch.work = .copy) :
    (d.setChan c ch).calibrationDone c = (d.setChan c { ch with state := .copying }).beginTrack c ⟨0, 0⟩ := by
  rw [← Device.setChan_modChan d c ch fun ch => { ch with state := .copying }, Device.calibrationDone, Device.setChan_chan_self, h]
  rfl

theorem Device.calibrationDone_capture (h : ch.work = .capture) : (d.setChan c ch).calibrationDone c =
    (d.setChan c { ch with state := .capturing }).beginKey c ⟨d.capture.firstCyl, 0⟩ := by
  rw [← Device.setChan_modChan d c ch fun ch => { ch with state := .capturing }, Device.calibrationDone, Device.setChan_chan_self, h]
  rfl

theorem Channel.copyPositioned_seek {x : CopyContext} {k : Key} (hx : ch.ctx = some x) (hp : x.phase = some .seek)
    (hk : x.key = some k) : ch.copyPositioned =
      { ch with ctx := some { x with phase := some .indexWait }, out := { ch.out with head := k.head } } := by
  rw [Channel.copyPositioned, hx]
  dsimp only
  rw [hp, hk]
  rfl

theorem Channel.copyPositioned_recal {x : CopyContext} (hx : ch.ctx = some x) (hp : x.phase = some .recal) :
    ch.copyPositioned = { ch with ctx := some { x with phase := some .indexWait } } := by
  rw [Channel.copyPositioned, hx]
  dsimp only
  rw [hp]

theorem Device.positioned_copy (h : ch.work = .copy) :
    (d.setChan c ch).positioned c = d.setChan c ch.copyPositioned := by
  rw [Device.positioned, Device.setChan_chan_self, h]
  exact Device.setChan_modChan ..

theorem Device.positioned_capture (h : ch.work = .capture) {k : Key} (hp : d.capture.phase = some .seek)
    (hk : d.capture.key = some k) : (d.setChan c ch).positioned c =
      { d.setChan c { ch with out := { ch.out with head := k.head } } with
        capture := { d.capture with phase := some .indexWait } } := by
  have hpositioned : (d.setChan c ch).positioned c = (d.setChan c ch).capturePositioned c := by
    rw [Device.positioned, Device.setChan_chan_self, h]
  rw [hpositioned, Device.capturePositioned, Device.setChan_capture, hp, hk]
  exact congrArg (fun e : Device => e.setCapture { d.capture with phase := some .indexWait })
    (Device.setChan_modChan d c ch fun y => { y with out := { y.out with head := k.head } })

end

/-! ## The obligations -/

/-- The outcome of an event that changes the part in one of two ways. -/
theorem next_dev_ite {s : State} {p : Prop} [Decidable p] {d e f : Device} (h : f = if p then d else e) :
    (Host.Outcome.next { s with dev := f } : Host.Outcome State Fault Refusal) =
      .next (if p then { s with dev := d } else { s with dev := e }) := by
  rw [h]
  split <;> rfl

/-- The outcome of an event, from what it makes of the part. -/
theorem next_dev {s : State} {f e : Device} (h : f = e) :
    (Host.Outcome.next { s with dev := f } : Host.Outcome State Fault Refusal) = .next { s with dev := e } := by rw [h]

/-- Settles O34. -/
theorem insertionsAndTimeouts : Obligations.InsertionsAndTimeouts := by
  refine ⟨fun s c l => ?_, fun s c l => ?_⟩
  · intro ch
    exact ⟨fun h => next_dev (Device.insertion_seated h), fun h => ⟨fun hs => next_dev (Device.insertion_waiting h hs),
      fun hs => next_dev (Device.insertion_feeding h hs), fun hi hs hf => next_dev (Device.insertion_elsewhere h hi hs hf)⟩⟩
  · intro ch idle
    exact ⟨next_dev_ite (Device.feedExpired_eq s.dev c ch), next_dev_ite (Device.ejectExpired_eq s.dev c ch),
      next_dev_ite (Device.spinUpExpired_eq s.dev c ch)⟩

/-- Settles O35. -/
theorem removals : Obligations.Removals := by
  intro s c l ch gone d out working
  have hworks : working → ch.state.works = true := (ChanState.works_iff _).2
  refine ⟨fun h => next_dev (Device.removal_empty h), fun h => ⟨fun hs hw x hx => ?_, fun hs hw => ?_, fun hs => ?_, fun hs => ?_,
    fun hs => next_dev (Device.removal_elsewhere h hs)⟩⟩
  · exact next_dev ((Device.removal_copy h (hworks hs) hw).trans (Device.copyCut_eq (by rw [Device.setChan_chan_self]; exact hx) _))
  · exact next_dev (Device.removal_capture h (hworks hs) hw)
  · rw [Device.setChan_setChan]
    exact next_dev (Device.removal_loaded h hs)
  · rw [Device.setChan_setChan, Device.setChan_setChan]
    exact ⟨fun hp => next_dev ((Device.removal_ejects h hs).trans (Device.completeEject_faulted hp)),
      fun hp => next_dev ((Device.removal_ejects h hs).trans (Device.completeEject_idle hp))⟩

/-- Settles O36 (`measuring` is the name of a state in the model's tests). -/
theorem measuring_holds : Obligations.Measuring := by
  intro s c l t ch at400
  refine ⟨fun h => next_dev (if_neg ?_), fun h => ?_⟩
  · rw [Device.sample, Device.modChan_chan_self, Channel.monitored]
    exact fun e => Option.ne_none_iff_isSome.2 e h
  · have hpulse : ∀ {e : Device}, (s.dev.setChan c ch).pulseTaken c t = e → exec (.indexPulse c l t) s = .next { s with dev := e } :=
      fun he => (exec_indexPulse_monitored h).trans (next_dev he)
    refine ⟨fun hs => hpulse (Device.pulseTaken_calm hs t), fun hs => ⟨fun hm => hpulse (Device.pulseTaken_waiting hs hm t),
      fun t1 hm => hpulse (Device.pulseTaken_first hs hm t), fun t1 hm => ?_⟩⟩
    intro p
    have hsecond := Device.pulseTaken_second (d := s.dev) (c := c) hs hm t
    refine ⟨fun hl hu => ?_, fun hout => hpulse (hsecond.trans (Device.measured_outside hout))⟩
    intro entered
    rw [Device.measured_accepted hl hu] at hsecond
    exact ⟨fun hz => hpulse (hsecond.trans (congrArg _ (Channel.enterCalibrating_onTrack0 hz))),
      fun hz => hpulse (hsecond.trans (congrArg _ (Channel.enterCalibrating_offTrack0 hz)))⟩

/-- Settles O37. -/
theorem driveFaults : Obligations.DriveFaults := by
  refine ⟨fun d c f => ⟨fun hw x hx => Device.driveFault_copy hw hx f, fun hw => Device.driveFault_capture hw f⟩, fun s c l => ?_⟩
  intro ch d
  refine ⟨next_dev (Device.indexExpired_eq s.dev c ch), fun h hz k back hk hm => ?_, fun h => next_dev ?_⟩
  · have hout : ch.motion.exhausted := ⟨k, hk, hm.imp_right fun e => ⟨back, e⟩⟩
    exact ⟨next_dev (Device.noTrack0Expired_due h hout hz), next_dev (Device.stepExpired_exhausted h hout hz)⟩
  · refine Device.noTrack0Expired_idle (h.imp_right (Or.imp_right fun hne => ?_))
    rintro ⟨k, hk, hm | ⟨back, hm⟩⟩
    · exact (hne k 0 hk).1 hm
    · exact (hne k back hk).2 hm

/-- Settles O38. -/
theorem headMovement : Obligations.HeadMovement := by
  refine ⟨fun s c l => ?_, fun s c l => ?_⟩
  · intro ch after settling pulsed
    have hafter : ∀ {x : Channel}, (s.dev.setChan c ch).stepExpired c = s.dev.setChan c x → exec (.stepInterval c l) s = after x :=
      next_dev
    refine ⟨fun h => hafter (Device.stepExpired_stopped h), fun h => ⟨fun k hm => ⟨fun hz => ?_, fun hz hk => ?_⟩,
      fun k back hm => ⟨fun hz => ?_, fun hz hk => ?_⟩, fun target hm => ?_, fun back hm => ?_⟩⟩
    · exact hafter (Device.stepExpired_calOut_found h hm hz)
    · exact hafter (Device.stepExpired_calOut_next h hm hz hk)
    · refine hafter ((Device.stepExpired_recalOut_found h hm hz).trans (congrArg _ ?_))
      unfold Channel.recalFound
      split <;> rfl
    · exact hafter (Device.stepExpired_recalOut_next h hm hz hk)
    · refine hafter ((Device.stepExpired_seek h hm).trans ?_)
      rw [Channel.pulse_eq hm]
      rfl
    · refine hafter ((Device.stepExpired_recalIn h hm).trans ?_)
      rw [Channel.pulse_eq hm]
      rfl
  · intro ch still after
    have hafter : ∀ {e : Device}, (s.dev.setChan c ch).settleExpired c = e → exec (.settle c l) s = after e := next_dev
    refine ⟨fun h => hafter (Device.settleExpired_stopped h), fun h => ⟨fun hm => ?_, fun hm => ?_⟩⟩
    · have hdone := Device.settleExpired_calSettle (d := s.dev) (c := c) h hm
      exact ⟨fun hw => hafter (hdone.trans (Device.calibrationDone_copy hw)),
        fun hw => hafter (hdone.trans (Device.calibrationDone_capture hw))⟩
    · have hdone := Device.settleExpired_positioned (d := s.dev) (c := c) h hm
      refine ⟨fun hw x hx => ?_, fun hw k hp hk => hafter (hdone.trans (Device.positioned_capture (ch := still) hw hp hk))⟩
      rw [Device.positioned_copy (ch := ch.arrived) hw] at hdone
      exact ⟨fun k hp hk => hafter (hdone.trans (congrArg _ (Channel.copyPositioned_seek (ch := still) hx hp hk))),
        fun hp => hafter (hdone.trans (congrArg _ (Channel.copyPositioned_recal (ch := still) hx hp)))⟩

end Sys2Proof.Machine
end

section
/-! PROOFS. The end of a verify revolution (O43). -/

open Sys2Proof Sys2Proof.Machine

namespace Sys2Proof.Machine

/-! ## The fault of the pass (R129, R130) -/

section
variable {r : VerifyReader} {mode : VerifyMode} {p : Plan}

theorem VerifyReader.verdict_detected {kind : VerifyKind} {slot : Nat} (h : r.fault = some (kind, slot)) :
    r.verdict mode p = some (kind, some slot) := by
  rw [VerifyReader.verdict, VerifyReader.closeSlot_eq, h]
  rfl

/-- With no fault detected before the ending pulse: a missing last data block, too few ID blocks, then the read sum (log 21). -/
theorem VerifyReader.verdict_clean (h : r.fault = none) : r.verdict mode p =
    if 0 < r.found ∧ r.dataSeen = false then some (.sectorMissing, some (r.found - 1))
    else if r.found < p.track.n then some (.sectorMissing, some r.found)
    else if mode = .crc ∧ r.readSum ≠ p.expected then some (.sumMismatch, none) else none := by
  rw [VerifyReader.verdict, VerifyReader.closeSlot_eq, h, VerifyReader.missing]
  by_cases hlast : 0 < r.found ∧ r.dataSeen = false
  · rw [if_pos hlast, if_pos hlast]
    rfl
  · rw [if_neg hlast, if_neg hlast]
    rfl

end

/-! ## The ending pulse (R130, R131) -/

section
variable {d : Device} {c : Chan} {ch : Channel} {x : CopyContext} {p : Plan}

theorem Device.endVerify_passed (hp : x.plan = some p) (hv : x.reader.verdict x.verify p = none) :
    (d.setChan c ch).endVerify c x = (d.setChan c { ch with ctx := some { x with counter := some x.counted } }).trackDone c := by
  rw [Device.endVerify, hp]
  dsimp only
  rw [hv]
  exact congrArg (Device.trackDone · c) (Device.setChan_setCtx d c ch _)

theorem Device.endVerify_failed (hp : x.plan = some p) {kind : VerifyKind} {slot : Option Nat}
    (hv : x.reader.verdict x.verify p = some (kind, slot)) :
    (d.setChan c ch).endVerify c x = (d.setChan c ch).passFailed c x (faultRecord x p kind slot) := by
  rw [Device.endVerify, hp]
  dsimp only
  rw [hv]

theorem faultRecord_eq {k : Key} (hk : x.key = some k) (kind : VerifyKind) (slot : Option Nat) : faultRecord x p kind slot =
    { kind := kind, key := k, attempt := x.attempt, slot := slot, logical := slot.bind fun q => p.slots[q]? } := by
  rw [faultRecord, hk]
  rfl

/-! ## A recalibration begins (R104) -/

theorem Channel.startRecal_offTrack0 (h : ch.lines.trackZero = false) : ch.startRecal =
    { ch with
      headCyl := ch.headCyl - 1, motion := .recalOut 1 ch.headCyl
      out := { ch.out with directionIn := false, stepPulses := ch.out.stepPulses + 1 }
      timers := { ch.timers with step := some ch.stepInterval } } := if_neg (Bool.eq_false_iff.1 h)

theorem Channel.startRecal_onTrack0 (h : ch.lines.trackZero = true) :
    ch.startRecal = { ch with out := { ch.out with directionIn := false } }.recalFound ch.headCyl := if_pos h

theorem Channel.recalFound_away (ch : Channel) {back : Nat} (h : back ≠ 0) : ch.recalFound back =
    { ch with
      headCyl := 1, motion := .recalIn back
      out := { ch.out with directionIn := true, stepPulses := ch.out.stepPulses + 1 }
      timers := { ch.timers with step := some ch.stepInterval } } := if_neg h

theorem Channel.recalFound_here (ch : Channel) : ch.recalFound 0 =
    { ch with headCyl := 0, motion := .recalSettle, timers := { ch.timers with step := none, settle := some ch.settle } } := rfl

end

/-- Settles O43. -/
theorem verifyEnds : Obligations.VerifyEnds := by
  intro s c l t n x p k hs hindex hx hphase hplan hn hk ch after r verdict
  have hverdict : x.reader.verdict x.verify p = verdict := by
    cases hf : x.reader.fault with
    | some f => exact (VerifyReader.verdict_detected hf).trans (by simp only [verdict, r, hf])
    | none => exact (VerifyReader.verdict_clean hf).trans (by simp only [verdict, r, hf])
  have hafter : ∀ {e : Device}, (s.dev.setChan c ch).endVerify c x = e → after e := fun he =>
    (exec_indexPulse_copying hs hindex).trans (next_dev ((Device.copyPulse_verify (ch := ch) hx hphase).trans he))
  have hcount := CopyContext.counted_some hn
  refine ⟨fun hv => hafter ?_, fun kind slot hv => ?_⟩
  · rw [Device.endVerify_passed hplan (hverdict.trans hv), hcount]
  · intro failed again
    have hfault := faultRecord_eq (p := p) hk kind slot
    have hfailed : x.failedPass (faultRecord x p kind slot) = failed := by
      rw [CopyContext.failedPass, hcount, hfault]
    have hagain : x.nextAttempt (faultRecord x p kind slot) = again := by
      rw [CopyContext.nextAttempt, hfailed]
    have hend := (Device.endVerify_failed (d := s.dev) (c := c) (ch := ch) hplan (hverdict.trans hv)).trans
      (Device.passFailed_eq s.dev c ch x _)
    rw [hfailed, hagain, hcount, hk] at hend
    refine ⟨fun hr => hafter (hend.trans (if_pos hr)), fun hr => ?_⟩
    rw [if_neg (Nat.not_lt.2 hr)] at hend
    refine ⟨fun hb => hafter (hend.trans (if_pos hb)), fun hb => ?_⟩
    rw [if_neg (Nat.not_le.2 hb)] at hend
    refine ⟨fun hodd => hafter (hend.trans (if_neg (by omega))), fun heven => ?_⟩
    rw [if_pos heven] at hend
    intro recal
    refine ⟨fun hz => hafter ?_, fun hz hcyl => hafter ?_, fun hz hcyl => hafter ?_⟩
    · rw [hend, Channel.startRecal_offTrack0 (ch := ch) hz]
    · rw [hend, Channel.startRecal_onTrack0 (ch := ch) hz, Channel.recalFound_away _ hcyl]
    · rw [hend, Channel.startRecal_onTrack0 (ch := ch) hz, hcyl, Channel.recalFound_here]

end Sys2Proof.Machine
end

section
/-! PROOFS. The pulse that reaches the revolution budget (O41). -/

open Sys2Proof Sys2Proof.Machine

namespace Sys2Proof.Machine

section
variable {d : Device} {c : Chan} {s : State} {l : Lines}

/-- The budget is due only in COPYING, with the index monitored and a counter started (R133, log 7). -/
theorem Device.budgetDue_iff : d.budgetDue c = true ↔
    (d.chan c).state = .copying ∧ (d.chan c).timers.index.isSome = true ∧
      ∃ x n, (d.chan c).ctx = some x ∧ x.counter = some n ∧ x.budget ≤ n + 1 := by
  rw [Device.budgetDue, Bool.and_eq_true, Bool.and_eq_true, beq_iff_eq, Channel.monitored, and_assoc]
  refine and_congr_right fun _ => and_congr_right fun _ => ?_
  cases (d.chan c).ctx with
  | none => simp
  | some x => cases hn : x.counter <;> simp [hn, CopyContext.counted]

theorem Device.sample_budgetDue (d : Device) (c : Chan) (l : Lines) : (d.sample c l).budgetDue c = d.budgetDue c := by
  simp only [Device.budgetDue, Device.sample, Device.modChan_chan_self, Channel.monitored]

/-- The row is an index pulse when the budget is due (log 7). -/
theorem exec_revolutionBudget_due (h : s.dev.budgetDue c = true) :
    exec (.revolutionBudget c l) s = exec (.indexPulse c l 0) s :=
  next_dev (if_pos ((s.dev.sample_budgetDue c l).trans h))

/-- At any other moment only the line levels are taken (logs 4 and 7). -/
theorem exec_revolutionBudget_early (h : s.dev.budgetDue c ≠ true) :
    exec (.revolutionBudget c l) s = .next { s with dev := s.dev.sample c l } :=
  next_dev (if_neg ((s.dev.sample_budgetDue c l).symm ▸ h))

end

/-- Settles O41. -/
theorem revolutionBudgetRow : Obligations.RevolutionBudgetRow := by
  refine fun s c l => ⟨fun x n hs hindex hx hn hb => ?_, fun h => exec_revolutionBudget_early fun hdue => ?_⟩
  · intro ch shut y
    have hctx : ch.ctx = some x := hx
    have hrow : exec (.revolutionBudget c l) s = exec (.indexPulse c l 0) s :=
      exec_revolutionBudget_due (Device.budgetDue_iff.2 ⟨hs, hindex, x, n, hx, hn, hb⟩)
    have hafter : ∀ {e : Device}, (s.dev.setChan c ch).copyPulse c = e →
        exec (.revolutionBudget c l) s = .next { s with dev := e } := fun he =>
      hrow.trans ((exec_indexPulse_copying hs hindex).trans (next_dev he))
    have hcount := CopyContext.counted_some hn
    have hlate : x.budget ≤ x.counted := hcount ▸ hb
    obtain ⟨-, -, hcounted⟩ := writeRevolutions s c l 0 x hs hindex hx
    obtain ⟨-, hrecal, hwrite⟩ := hcounted n hn
    refine ⟨hrow, ?_, fun hp hv => ?_, fun hp hv => ?_, fun p hp hplan hv => hafter ?_⟩
    · rintro (hp | ⟨hp, ha⟩)
      · exact hrow.trans ((hrecal hp).1 hb)
      · refine hafter ?_
        rw [Device.copyPulse_indexWait hctx hp, if_neg (Nat.ne_of_gt ha), if_pos hlate, Device.timeLimit_eq s.dev c ch hn]
    · obtain ⟨-, hover, -⟩ := hwrite hp
      exact hrow.trans (hover hv hb)
    · obtain ⟨hdone, -⟩ := hwrite hp
      exact hrow.trans (hdone hv)
    · rw [Device.copyPulse_verify hctx hp, Device.endVerify_passed hplan hv, hcount]
  · obtain ⟨hs, hindex, x, n, hx, hn, hb⟩ := Device.budgetDue_iff.1 hdue
    rcases h with hs' | hindex' | hcounter
    · exact hs' hs
    · exact Option.isSome_iff_ne_none.1 hindex hindex'
    · rcases hcounter x hx with hnone | ⟨m, hm, hlt⟩
      · exact nomatch hn.symm.trans hnone
      · obtain rfl := Option.some.inj (hn.symm.trans hm)
        exact Nat.not_le.2 hlt hb

end Sys2Proof.Machine
end

section
/-! PROOFS. The host's accesses at the request port, one rule for each: while the RESET input is asserted (O8) and with it released
(O5, O7), and the request rows as the accesses that send them (O3, O4). -/

open Sys2Proof Sys2Proof.Machine

namespace Sys2Proof.Machine

/-! ## Accesses and the RESET input (R172) -/

section
variable {d : Device} {f : Device → Device}

theorem Device.access_held (h : d.resetInput = true) : d.access f = d := if_pos h

theorem Device.access_released (h : d.resetInput = false) : d.access f = f d := if_neg (ne_true_of_eq_false h)

theorem Device.readAccess_held (h : d.resetInput = true) : d.readAccess f = d.returns 0 := if_pos h

theorem Device.readAccess_released (h : d.resetInput = false) : d.readAccess f = f d := if_neg (ne_true_of_eq_false h)

end

section
variable {s : State}

theorem exec_row_held (h : s.dev.resetInput = true) {i : Instr} (hi : i.request?.isSome = true) : exec i s = .next s := by
  obtain ⟨⟨tag, r⟩, hr⟩ := Option.isSome_iff_exists.1 hi
  exact (exec_row hr s).trans (next_dev (Device.access_held h))

theorem exec_frameWrite_held (h : s.dev.resetInput = true) (b : Byte) : exec (.frameWrite b) s = .next s :=
  next_dev (Device.access_held h)

theorem exec_bodyWrite_held (h : s.dev.resetInput = true) (b : Byte) : exec (.bodyWrite b) s = .next s :=
  next_dev (Device.access_held h)

theorem exec_streamWrite_held (h : s.dev.resetInput = true) (b : Byte) : exec (.streamWrite b) s = .next s :=
  next_dev (Device.access_held h)

theorem exec_post_held (h : s.dev.resetInput = true) : exec .post s = .next s := next_dev (Device.access_held h)

end

/-- While the RESET input is asserted the line is deasserted (R179). -/
theorem Device.lineAsserted_held {d : Device} (h : d.resetInput = true) : d.lineAsserted = false := by
  rw [Device.lineAsserted, h]
  rfl

/-- Settles O8: every access of the host goes through `Device.access` or `Device.readAccess`. -/
theorem resetInputHoldsThePort : Obligations.ResetInputHoldsThePort := fun _ h =>
  ⟨fun _ hc => exec_row_held h hc, fun b => ⟨exec_frameWrite_held h b, exec_bodyWrite_held h b, exec_streamWrite_held h b⟩,
    exec_post_held h, next_dev (Device.access_held h), next_dev (Device.access_held h), next_dev (Device.readAccess_held h),
    next_dev (Device.readAccess_held h), if_pos h, if_pos h, Device.lineAsserted_held h, rfl⟩

section
variable {s : State} (h : s.dev.resetInput = false)
include h

theorem exec_frameWrite (b : Byte) : exec (.frameWrite b) s = .next { s with dev := s.dev.openFrame b } :=
  next_dev (Device.access_released h)

theorem exec_bodyWrite (b : Byte) : exec (.bodyWrite b) s = .next { s with dev := s.dev.writeBody b } :=
  next_dev (Device.access_released h)

theorem exec_bodyRead : exec .bodyRead s = .next { s with dev := s.dev.readBody } := next_dev (Device.readAccess_released h)

theorem exec_post : exec .post s = .next { s with dev := s.dev.post } := next_dev (Device.access_released h)

theorem exec_nextReply : exec .nextReply s = .next { s with dev := s.dev.nextReply } := next_dev (Device.access_released h)

theorem exec_cancelFrame : exec .cancelFrame s = .next { s with dev := s.dev.cancelFrame } := next_dev (Device.access_released h)

end

/-! ## Composing and posting a frame (R160, R161) -/

theorem Frame.append_room {f : Frame} (h : f.body.length < 256) (b : Byte) : f.append b = { f with body := f.body ++ [b] } :=
  if_pos h

theorem Frame.append_full {f : Frame} (h : 256 ≤ f.body.length) (b : Byte) : f.append b = { f with long := true } :=
  if_neg (Nat.not_lt.2 h)

section
variable {d : Device} {f : Frame}

theorem Device.writeBody_closed (h : d.port.frame = none) (b : Byte) : d.writeBody b = d := by
  rw [Device.writeBody, h, Option.map_none, ← h]

theorem Device.writeBody_open (h : d.port.frame = some f) (b : Byte) :
    d.writeBody b = { d with port := { d.port with frame := some (f.append b) } } := by
  rw [Device.writeBody, h, Option.map_some]

theorem Device.cancelFrame_closed (h : d.port.frame = none) : d.cancelFrame = d := by
  rw [Device.cancelFrame, ← h]

theorem Device.post_closed (h : d.port.frame = none) : d.post = d := by
  rw [Device.post, h]

theorem Device.post_open (h : d.port.frame = some f) : d.post = d.postFrame f := by
  rw [Device.post, h]

theorem Device.postFrame_refused (h : 4 ≤ d.port.requests.length) (f : Frame) :
    d.postFrame f = { d with port := { d.port with frame := none, postRefused := true } } := if_neg (Nat.not_lt.2 h)

/-- Behind four replies a frame waits in the request queue (R162). -/
theorem Device.postFrame_queued (hq : d.port.requests.length < 4) (hr : 4 ≤ d.port.replies.length) (f : Frame) :
    d.postFrame f =
      { d with port := { d.port with frame := none, requests := d.port.requests ++ [f], postRefused := false } } :=
  (if_pos hq).trans (Device.runEngine_full (by exact hr) _)

end

/-- Settles O5. -/
theorem framing : Obligations.Framing := by
  refine ⟨fun s h => ⟨exec_frameWrite h, fun b => ⟨fun hf => ?_, fun f hf => ⟨fun hb => ?_, fun hb => ?_⟩⟩, exec_cancelFrame h,
    fun hf => ?_⟩, fun s h => ⟨fun hf => ?_, fun f hf => ⟨fun hq => ?_, fun hq hr => ?_, fun hready => ⟨_, ?_, rfl⟩⟩⟩⟩
  · exact (exec_bodyWrite h b).trans (next_dev (Device.writeBody_closed hf b))
  · rw [exec_bodyWrite h, Device.writeBody_open hf, Frame.append_room hb]
  · rw [exec_bodyWrite h, Device.writeBody_open hf, Frame.append_full hb]
  · exact (exec_cancelFrame h).trans (next_dev (Device.cancelFrame_closed hf))
  · exact (exec_post h).trans (next_dev (Device.post_closed hf))
  · rw [exec_post h, Device.post_open hf, Device.postFrame_refused hq]
  · rw [exec_post h, Device.post_open hf, Device.postFrame_queued hq hr]
  · rw [exec_post h, Device.post_open hf, Device.postFrame_ready hready]

/-! ## What the engine makes of a frame (R162, R163) -/

/-- The engine refuses a frame or has it worked as a request of its own code. -/
theorem workFrame_cases (f : Frame) (d : Device) :
    (∃ c, workFrame f d = replied (refuse d c)) ∨ ∃ r : Request, r.code = f.code ∧ workFrame f d = work r d := by
  unfold workFrame
  split
  · exact .inl ⟨_, rfl⟩
  · split
    · exact .inl ⟨_, rfl⟩
    · split
      · exact .inl ⟨_, rfl⟩
      · exact .inl ⟨_, rfl⟩
      · rename_i r hr
        exact .inr ⟨r, decodeRequest_code hr, rfl⟩

theorem Request.ne_partReset_of_code {r : Request} {f : Frame} (hc : r.code = f.code) (hf : f.code ≠ 0xF0) : r ≠ .partReset :=
  fun e => hf (by rw [← hc, e]; rfl)

/-- Every frame but PART RESET's has a reply. -/
theorem workFrame_works {f : Frame} (hf : f.code ≠ 0xF0) (d : Device) :
    Works d (workFrame f d).1 ∧ (workFrame f d).2.isSome = true := by
  rcases workFrame_cases f d with ⟨c, hw⟩ | ⟨r, hc, hw⟩ <;> rw [hw]
  · exact ⟨.refused d c, rfl⟩
  · exact work_works (Request.ne_partReset_of_code hc hf) d

/-- The engine takes one request and no other when its reply fills the reply queue, or when none waits behind it (R162). -/
theorem Device.engineCheck_takes {d : Device} {f : Frame} {rest : List Frame} (hq : d.port.requests = f :: rest)
    (hi : d.engineReady = true) (h : 3 ≤ d.port.replies.length ∨ rest = []) : d.engineCheck = d.workOne f rest := by
  have hstop : Device.runEngine rest.length (d.workOne f rest) = d.workOne f rest := by
    rcases d.workOne_port f rest with ⟨hreplies, hrest⟩ | hnone
    · rcases h with h | h
      · exact Device.runEngine_full (by omega) _
      · exact Device.runEngine_empty (hrest.trans h) _
    · exact Device.runEngine_empty hnone _
  rw [Device.engineCheck, hq, List.length_cons, Device.runEngine, hq]
  exact (if_pos hi).trans hstop

/-! ## Reading replies (R165) -/

section
variable {d : Device} {r : Reply} {rest : List Reply}

theorem Device.readBody_empty (h : d.port.replies = []) : d.readBody = d.returns 0 := by
  rw [Device.readBody, h]

theorem Device.readBody_byte (h : d.port.replies = r :: rest) {b : Byte} (hb : r.bytes[d.port.readPos]? = some b) :
    d.readBody = { d with port := { d.port with dataLines := b, readPos := d.port.readPos + 1 } } := by
  rw [Device.readBody, h]
  dsimp only
  rw [hb]

theorem Device.readBody_past (h : d.port.replies = r :: rest) (hb : r.bytes.length ≤ d.port.readPos) :
    d.readBody = d.returns 0 := by
  rw [Device.readBody, h]
  dsimp only
  rw [List.getElem?_eq_none hb]

theorem Device.nextReply_empty (h : d.port.replies = []) : d.nextReply = d := by
  rw [Device.nextReply, h]

theorem Device.nextReply_removes (h : d.port.replies = r :: rest) (hq : d.port.requests = []) :
    d.nextReply = { d with port := { d.port with replies := rest, readPos := 0 } } := by
  rw [Device.nextReply, h]
  exact Device.runEngine_empty (by exact hq) _

/-- The room that NEXT REPLY makes lets the engine take the oldest request, and that one alone (R162, R165). -/
theorem Device.nextReply_takes (h : d.port.replies = r :: rest) (hlen : rest.length = 3) (hi : d.port.working = none)
    {f : Frame} {more : List Frame} (hq : d.port.requests = f :: more) :
    d.nextReply = Device.workOne { d with port := { d.port with replies := rest, readPos := 0 } } f more := by
  rw [Device.nextReply, h]
  exact Device.engineCheck_takes hq (by simp [Device.engineReady, hi, hlen]) (.inl hlen.ge)

end

/-- Settles O7. -/
theorem readingReplies : Obligations.ReadingReplies := by
  refine fun s h => ⟨fun hr => ⟨?_, ?_⟩, fun r rest hr => ⟨fun b hb => ?_, fun hb => ?_, fun hq => ?_, fun f more hq hi hlen hc =>
    ⟨_, rfl, (workFrame_works hc _).2, ?_⟩⟩⟩
  · exact (exec_bodyRead h).trans (next_dev (Device.readBody_empty hr))
  · exact (exec_nextReply h).trans (next_dev (Device.nextReply_empty hr))
  · exact (exec_bodyRead h).trans (next_dev (Device.readBody_byte hr hb))
  · exact (exec_bodyRead h).trans (next_dev (Device.readBody_past hr hb))
  · exact (exec_nextReply h).trans (next_dev (Device.nextReply_removes hr hq))
  · exact (exec_nextReply h).trans (next_dev (Device.nextReply_takes hr hlen hi hq))

/-! ## A request row and its accesses -/

/-- Settles O3. -/
theorem requestsReadBack : Obligations.RequestsReadBack := fun tag _ h =>
  ⟨decodeRequest_params h, body_length_le h tag, rfl⟩

/-- An open frame after some body bytes: the first 256 stand in its body, and it is long when there were more (R160). -/
theorem Frame.foldl_append (code : Byte) : ∀ (bs body : List Byte) (long : Bool), body.length ≤ 256 →
    bs.foldl Frame.append ⟨code, body, long⟩ =
      ⟨code, (body ++ bs).take 256, long || decide (256 < (body ++ bs).length)⟩
  | [], body, long, hb => by
    rw [List.append_nil, List.take_of_length_le hb, decide_eq_false (Nat.not_lt.2 hb), Bool.or_false]
    rfl
  | b :: bs, body, long, hb => by
    rw [List.foldl_cons]
    by_cases hroom : body.length < 256
    · rw [Frame.append_room hroom, Frame.foldl_append code bs (body ++ [b]) long (by simp; omega), List.append_assoc]
      rfl
    · have hfull : body.length = 256 := by omega
      have hlong : 256 < (body ++ b :: bs).length := by simp; omega
      rw [Frame.append_full hfull.ge, Frame.foldl_append code bs body true hb, decide_eq_true hlong, Bool.or_true, Bool.true_or,
        List.take_left' hfull, List.take_left' hfull]

theorem requestFrame_eq_foldl (tag : Byte) (r : Request) :
    (r.body tag).foldl Frame.append ⟨r.code, [], false⟩ = requestFrame tag r :=
  Frame.foldl_append r.code (r.body tag) [] false (Nat.zero_le _)

theorem runCommands_cons {c : Instr} {s t : State} (h : exec c s = .next t) (cs : List Instr) :
    runCommands (c :: cs) s = runCommands cs t := by
  rw [runCommands, h]

/-- Commands that change nothing leave the state they meet. -/
theorem runCommands_of_still {s : State} : ∀ {cs : List Instr}, (∀ c ∈ cs, exec c s = .next s) → runCommands cs s = some s
  | [], _ => rfl
  | c :: _, h => (runCommands_cons (h c List.mem_cons_self) _).trans
      (runCommands_of_still fun c hc => h c (List.mem_cons_of_mem _ hc))

/-- The state with frame `f` open. -/
def State.framed (s : State) (f : Frame) : State := { s with dev := { s.dev with port := { s.dev.port with frame := some f } } }

theorem exec_bodyWrite_framed {s : State} (h : s.dev.resetInput = false) (f : Frame) (b : Byte) :
    exec (.bodyWrite b) (s.framed f) = .next (s.framed (f.append b)) :=
  exec_bodyWrite (s := s.framed f) h b

theorem runCommands_bodyWrites {s : State} (h : s.dev.resetInput = false) (cs : List Instr) : ∀ (bs : List Byte) (f : Frame),
    runCommands (bs.map .bodyWrite ++ cs) (s.framed f) = runCommands cs (s.framed (bs.foldl Frame.append f))
  | [], _ => rfl
  | b :: bs, f => (runCommands_cons (exec_bodyWrite_framed h f b) _).trans (runCommands_bodyWrites h cs bs (f.append b))

theorem exec_post_framed {s : State} (h : s.dev.resetInput = false) (f : Frame) :
    exec .post (s.framed f) = .next { s with dev := s.dev.postFrame f } :=
  exec_post (s := s.framed f) h

/-- The accesses that send a request, with the RESET input released: the composed frame is the one the row posts. -/
theorem runCommands_portAccesses {s : State} (h : s.dev.resetInput = false) (tag : Byte) (r : Request) :
    runCommands (portAccesses tag r) s = some { s with dev := s.dev.postFrame (requestFrame tag r) } := by
  have hopened : exec (.frameWrite r.code) s = .next (s.framed ⟨r.code, [], false⟩) := exec_frameWrite h r.code
  rw [portAccesses, runCommands_cons hopened, runCommands_bodyWrites h, requestFrame_eq_foldl,
    runCommands_cons (exec_post_framed h _)]
  rfl

/-- While the RESET input is asserted each of the accesses is lost. -/
theorem runCommands_portAccesses_held {s : State} (h : s.dev.resetInput = true) (tag : Byte) (r : Request) :
    runCommands (portAccesses tag r) s = some s := by
  refine runCommands_of_still fun c hc => ?_
  simp only [portAccesses, List.mem_cons, List.mem_append, List.mem_map, List.not_mem_nil, or_false] at hc
  rcases hc with rfl | ⟨b, _, rfl⟩ | rfl
  · exact exec_frameWrite_held h _
  · exact exec_bodyWrite_held h b
  · exact exec_post_held h

/-- Settles O4, by the level of the RESET input. -/
theorem requestRowIsItsAccesses : Obligations.RequestRowIsItsAccesses := by
  intro c tag r hc s
  cases h : s.dev.resetInput with
  | true => exact ⟨s, exec_row_held h (by rw [hc]; rfl), runCommands_portAccesses_held h tag r⟩
  | false => exact ⟨_, (exec_row hc s).trans (next_dev (Device.access_released h)), runCommands_portAccesses h tag r⟩

end Sys2Proof.Machine
end

section
/-! PROOFS. What one command can do to a request port in order, said once (`PortStep`), and what follows from it: STREAM FAULT stays
(O10), and the port stays in order (for O55). -/

open Sys2Proof Sys2Proof.Machine

namespace Sys2Proof.Machine

/-! ## Frames and STREAM FAULT -/

theorem FrameOk.empty (code : Byte) : FrameOk ⟨code, [], false⟩ := ⟨Nat.zero_le _, nofun⟩

theorem FrameOk.append {f : Frame} (h : FrameOk f) (b : Byte) : FrameOk (f.append b) := by
  obtain ⟨hlen, hlong⟩ := h
  by_cases hroom : f.body.length < 256
  · rw [Frame.append_room hroom]
    exact ⟨by simp; omega, fun hl => absurd (hlong hl) (by omega)⟩
  · rw [Frame.append_full (by omega)]
    exact ⟨hlen, fun _ => Nat.le_antisymm hlen (Nat.not_lt.1 hroom)⟩

theorem FrameOk.request (tag : Byte) (r : Request) : FrameOk (requestFrame tag r) := by
  refine ⟨List.length_take_le _ _, fun hl => ?_⟩
  have hbody : 256 < (r.body tag).length := of_decide_eq_true hl
  exact List.length_take_of_le hbody.le

/-- With the stream `x` and STREAM FAULT `fault` after it, STREAM FAULT has stayed set or a stream has opened (R168). -/
def FaultStays (p : Port) (x : Stream) (fault : Bool) : Prop :=
  p.streamFault = true → fault = true ∨ (p.stream = .closed ∧ x ≠ .closed)

theorem FaultStays.same (p : Port) : FaultStays p p.stream p.streamFault := .inl

/-- Of the requests other than PART RESET, one that opens a stream alone clears STREAM FAULT (R167, R168). -/
theorem Works.port_fault {d e : Device} (h : Works d e) :
    ∃ (x : Stream) (fault : Bool), e.port = { d.port with stream := x, streamFault := fault } ∧ FaultStays d.port x fault := by
  have same : ∃ (x : Stream) (fault : Bool),
      d.port = { d.port with stream := x, streamFault := fault } ∧ FaultStays d.port x fault := ⟨_, _, rfl, .same d.port⟩
  cases h with
  | moves h => rw [h.port]; exact same
  | profile | deleted | cleared | enabled | installed | removed | amended => exact same
  | loading r i key t p len _ hx => exact ⟨.inbound r len, false, rfl, fun _ => .inr ⟨hx, nofun⟩⟩
  | reading r len hx => exact ⟨.outbound r len, false, rfl, fun _ => .inr ⟨hx, nofun⟩⟩
  | aborted => exact ⟨.closed, d.port.streamFault, rfl, .inl⟩

/-! ## The port after one command -/

/-- `PortStep p q`: one command can take a port in order from `p` to `q`. -/
inductive PortStep (p : Port) : Port → Prop
  | reset : PortStep p (Port.reset p.dataLines)
  | composed (o : Option Frame) (refused : Bool) : (∀ f, o = some f → FrameOk f) →
      PortStep p { p with frame := o, postRefused := refused }
  | streamed (x : Stream) (fault : Bool) (lines : Byte) : (p.streamFault = true → fault = true) →
      PortStep p { p with stream := x, streamFault := fault, dataLines := lines }
  | byteRead {r : Reply} {rest : List Reply} (b : Byte) : p.replies = r :: rest → p.readPos < r.bytes.length →
      PortStep p { p with dataLines := b, readPos := p.readPos + 1 }
  | queued {f : Frame} : FrameOk f → p.requests.length < 4 → p.replies.length = 4 →
      PortStep p { p with frame := none, requests := p.requests ++ [f], postRefused := false }
  | answered (y : Reply) {x : Stream} {fault : Bool} : p.replies.length < 4 → FaultStays p x fault →
      PortStep p { p with frame := none, requests := [], replies := p.replies ++ [y], stream := x, postRefused := false,
                          streamFault := fault, working := none }
  | removed {r : Reply} {rest : List Reply} : p.replies = r :: rest → p.requests = [] →
      PortStep p { p with replies := rest, readPos := 0 }
  | taken {r : Reply} {rest : List Reply} {f : Frame} {more : List Frame} (y : Reply) {x : Stream} {fault : Bool} :
      p.replies = r :: rest → p.requests = f :: more → FaultStays p x fault →
      PortStep p { p with requests := more, replies := rest ++ [y], readPos := 0, stream := x, streamFault := fault,
                          working := none }

theorem PortStep.same (p : Port) : PortStep p p := .streamed p.stream p.streamFault p.dataLines id

theorem PortStep.returns (p : Port) (b : Byte) : PortStep p { p with dataLines := b } := .streamed p.stream p.streamFault b id

/-- The port after the engine has worked one frame: reset, or with the reply as the newest and nothing else changed but the stream
(R162, R171). -/
theorem Device.workOne_replies (d : Device) (f : Frame) (rest : List Frame) :
    (d.workOne f rest).port = Port.reset d.port.dataLines ∨
      ∃ (y : Reply) (x : Stream) (fault : Bool), FaultStays d.port x fault ∧ (d.workOne f rest).port =
        { d.port with requests := rest, replies := d.port.replies ++ [y], stream := x, streamFault := fault, working := none } := by
  unfold Device.workOne
  dsimp only
  generalize hd : ({ d with port := { d.port with requests := rest, working := some f } } : Device) = d1
  rcases workFrame_cases f d1 with ⟨c, hw⟩ | ⟨r, _, hw⟩ <;> rw [hw, ← hd]
  · exact .inr ⟨_, _, _, .same d.port, rfl⟩
  · by_cases hr : r = .partReset
    · subst hr
      exact .inl rfl
    · rw [hd]
      obtain ⟨hworks, hreply⟩ := work_works hr d1
      obtain ⟨y, hy⟩ := Option.isSome_iff_exists.1 hreply
      obtain ⟨x, fault, hport, hfault⟩ := hworks.port_fault
      subst hd
      refine .inr ⟨replyTo f y, x, fault, hfault, ?_⟩
      rw [hy, Device.placeReply, hport]

section
variable {d : Device} (hd : PortOk d.port)
include hd

/-- A frame posted is discarded, or waits behind four replies, or is worked at once (R161, R162). -/
theorem Device.postFrame_portStep {f : Frame} (hf : FrameOk f) : PortStep d.port (d.postFrame f).port := by
  by_cases hfull : 4 ≤ d.port.requests.length
  · rw [Device.postFrame_refused hfull]
    exact .composed none true nofun
  · have hroom : d.port.requests.length < 4 := Nat.not_le.1 hfull
    by_cases hreplies : 4 ≤ d.port.replies.length
    · rw [Device.postFrame_queued hroom hreplies]
      exact .queued hf hroom (Nat.le_antisymm hd.replies hreplies)
    · have hreplies : d.port.replies.length < 4 := Nat.not_le.1 hreplies
      have hnone : d.port.requests = [] := by
        by_contra hq
        exact Nat.ne_of_lt hreplies (hd.held hq)
      have htaken : d.postFrame f = Device.workOne { d with port :=
          { d.port with frame := none, requests := d.port.requests ++ [f], postRefused := false } } f [] :=
        (if_pos hroom).trans (Device.engineCheck_takes (by simp [hnone]) (by simp [Device.engineReady, hd.idle, hreplies]) (.inr rfl))
      rw [htaken]
      rcases Device.workOne_replies { d with port :=
          { d.port with frame := none, requests := d.port.requests ++ [f], postRefused := false } } f [] with hp | ⟨y, x, b, hb, hp⟩
      · rw [hp]
        exact .reset
      · rw [hp]
        exact .answered y hreplies hb

theorem Device.post_portStep : PortStep d.port d.post.port := by
  cases hf : d.port.frame with
  | none => rw [Device.post_closed hf]; exact .same _
  | some f => rw [Device.post_open hf]; exact Device.postFrame_portStep hd (hd.opened f hf)

/-- NEXT REPLY removes the oldest reply; with requests held back the oldest of them is worked (R162, R165). -/
theorem Device.nextReply_portStep : PortStep d.port d.nextReply.port := by
  cases hr : d.port.replies with
  | nil => rw [Device.nextReply_empty hr]; exact .same _
  | cons r rest =>
    cases hq : d.port.requests with
    | nil => rw [Device.nextReply_removes hr hq]; exact .removed hr hq
    | cons f more =>
      have hlen : rest.length = 3 := by
        have hfour := hd.held (by rw [hq]; exact List.cons_ne_nil _ _)
        rw [hr, List.length_cons] at hfour
        omega
      rw [Device.nextReply_takes hr hlen hd.idle hq]
      rcases Device.workOne_replies { d with port := { d.port with replies := rest, readPos := 0 } } f more with
        hp | ⟨y, x, b, hb, hp⟩
      · rw [hp]
        exact .reset
      · rw [hp]
        exact .taken y hr hq hb

theorem Device.writeBody_portStep (b : Byte) : PortStep d.port (d.writeBody b).port := by
  cases hf : d.port.frame with
  | none => rw [Device.writeBody_closed hf]; exact .same _
  | some f =>
    rw [Device.writeBody_open hf]
    exact .composed (some (f.append b)) d.port.postRefused fun g hg => Option.some.inj hg ▸ (hd.opened f hf).append b

end

section
variable (d : Device)

theorem Device.readBody_portStep : PortStep d.port d.readBody.port := by
  cases hr : d.port.replies with
  | nil => rw [Device.readBody_empty hr]; exact .returns _ 0
  | cons r rest =>
    by_cases hb : d.port.readPos < r.bytes.length
    · rw [Device.readBody_byte hr (List.getElem?_eq_getElem hb)]
      exact .byteRead _ hr hb
    · rw [Device.readBody_past hr (Nat.not_lt.1 hb)]
      exact .returns _ 0

theorem Device.writeStreamByte_portStep (v : Byte) : PortStep d.port (d.writeStreamByte v).port := by
  have stray : PortStep d.port d.stray.port := .streamed d.port.stream true d.port.dataLines fun _ => rfl
  unfold Device.writeStreamByte
  split
  · dsimp only
    split <;> exact .streamed _ d.port.streamFault d.port.dataLines id
  · exact stray
  · exact stray

theorem Device.readStreamByte_portStep : PortStep d.port d.readStreamByte.port := by
  have stray : PortStep d.port (d.returns 0).stray.port := .streamed d.port.stream true 0 fun _ => rfl
  unfold Device.readStreamByte
  split
  · dsimp only
    split <;> exact .streamed _ d.port.streamFault _ id
  · exact stray
  · exact stray

end

/-- Every command takes a port in order through one `PortStep`. -/
theorem exec_portStep {c : Instr} {s t : State} (hs : PortOk s.dev.port) (h : exec c s = .next t) :
    PortStep s.dev.port t.dev.port := by
  have write : ∀ f : Device → Device, PortStep s.dev.port (f s.dev).port → PortStep s.dev.port (s.dev.access f).port := fun f hf =>
    Device.access_elim (P := fun d => PortStep s.dev.port d.port) (.same _) hf
  have read : ∀ f : Device → Device, PortStep s.dev.port (f s.dev).port → PortStep s.dev.port (s.dev.readAccess f).port :=
    fun f hf => Device.readAccess_elim (P := fun d => PortStep s.dev.port d.port) (.returns _ 0) hf
  cases hr : c.request? with
  | some x =>
    obtain ⟨tag, r⟩ := x
    rw [exec_row hr] at h
    cases h
    exact write (fun d => d.postFrame (requestFrame tag r)) (Device.postFrame_portStep hs (.request tag r))
  | none =>
    cases hb : bayOf c with
    | some b => rw [(exec_bay h (by rw [hb]; rfl)).1.port]; exact .same _
    | none =>
      cases c with
      | reset | powerOn => cases h; exact .reset
      | frameWrite b =>
        cases h
        exact write (fun d => d.openFrame b) (.composed _ s.dev.port.postRefused fun f hf => Option.some.inj hf ▸ .empty b)
      | bodyWrite b => cases h; exact write (fun d => d.writeBody b) (Device.writeBody_portStep hs b)
      | bodyRead => cases h; exact read Device.readBody s.dev.readBody_portStep
      | post => cases h; exact write Device.post (Device.post_portStep hs)
      | nextReply => cases h; exact write Device.nextReply (Device.nextReply_portStep hs)
      | cancelFrame => cases h; exact write Device.cancelFrame (.composed none s.dev.port.postRefused nofun)
      | streamWrite v => cases h; exact write (fun d => d.writeStreamByte v) (s.dev.writeStreamByte_portStep v)
      | streamRead => cases h; exact read Device.readStreamByte s.dev.readStreamByte_portStep
      | resetInputRelease => cases h; exact .same _
      | insertion | removal | indexPulse | idBlock | dataBlock | revolutionBudget | spinUpWait | indexTimeout | stepInterval
      | noTrack0 | settle | feedTimeout | ejectTimeout => cases hb
      | _ => cases hr

/-! ## STREAM FAULT (R168) -/

theorem PortStep.fault {p q : Port} (h : PortStep p q) (hf : p.streamFault = true) :
    q.streamFault = true ∨ (p.stream = .closed ∧ q.stream ≠ .closed) ∨ q = Port.reset p.dataLines := by
  have stays : ∀ {x : Stream} {b : Bool}, FaultStays p x b →
      b = true ∨ (p.stream = .closed ∧ x ≠ .closed) ∨ q = Port.reset p.dataLines := fun hb => (hb hf).imp_right .inl
  cases h with
  | reset => exact .inr (.inr rfl)
  | composed | byteRead | queued | removed => exact .inl hf
  | streamed x b lines hb => exact .inl (hb hf)
  | answered y _ hb => exact stays hb
  | taken y _ _ hb => exact stays hb

section
variable {d : Device}

theorem Device.writeStreamByte_stray (h : ∀ r k, d.port.stream ≠ .inbound r k) (v : Byte) : d.writeStreamByte v = d.stray := by
  unfold Device.writeStreamByte
  split
  · exact absurd ‹_› (h _ _)
  · rfl
  · rfl

theorem Device.readStreamByte_stray (h : ∀ r k, d.port.stream ≠ .outbound r k) : d.readStreamByte = (d.returns 0).stray := by
  unfold Device.readStreamByte
  split
  · exact absurd ‹_› (h _ _)
  · rfl
  · rfl

end

/-- Settles O10. -/
theorem strayStreamAccesses : Obligations.StrayStreamAccesses :=
  ⟨fun _ h => ⟨fun hx v => (exec_streamWrite h v).trans (next_dev (Device.writeStreamByte_stray hx v)),
    fun hx => (exec_streamRead h).trans (next_dev (Device.readStreamByte_stray hx))⟩,
    fun _ _ _ hs h hf => (exec_portStep hs.1 h).fault hf⟩

/-! ## The port stays in order -/

theorem PortStep.ok {p q : Port} (hp : PortOk p) (h : PortStep p q) : PortOk q := by
  cases h with
  | reset => exact .reset _
  | composed o refused ho => exact ⟨hp.requests, hp.replies, hp.idle, hp.held, hp.queued, ho, hp.position⟩
  | streamed => exact ⟨hp.requests, hp.replies, hp.idle, hp.held, hp.queued, hp.opened, hp.position⟩
  | byteRead b hr hb =>
    refine ⟨hp.requests, hp.replies, hp.idle, hp.held, hp.queued, hp.opened, ?_⟩
    dsimp only
    rw [hr]
    exact hb
  | queued hf hroom hreplies =>
    refine ⟨by simp; omega, hp.replies, hp.idle, fun _ => hreplies, fun g hg => ?_, nofun, hp.position⟩
    rcases List.mem_append.1 hg with hg | hg
    · exact hp.queued g hg
    · rw [List.mem_singleton.1 hg]
      exact hf
  | answered y hreplies _ =>
    refine ⟨Nat.zero_le _, by simp; omega, rfl, fun h => absurd rfl h, nofun, nofun, ?_⟩
    have hpos := hp.position
    dsimp only
    cases hr : p.replies with
    | nil => rw [hr] at hpos; exact hpos.trans (Nat.zero_le _)
    | cons r rest => rw [hr] at hpos; exact hpos
  | removed hr hq =>
    have hlen := hp.replies
    rw [hr, List.length_cons] at hlen
    exact ⟨hp.requests, by dsimp only; omega, hp.idle, fun h => absurd hq h, hp.queued, hp.opened, Nat.zero_le _⟩
  | @taken r rest f more y _ _ hr hq _ =>
    have hlen := hp.requests
    have hfour := hp.held (by rw [hq]; exact List.cons_ne_nil _ _)
    rw [hq, List.length_cons] at hlen
    rw [hr, List.length_cons] at hfour
    exact ⟨by dsimp only; omega, by simp; omega, rfl, fun _ => by simp; omega,
      fun g hg => hp.queued g (by rw [hq]; exact List.mem_cons_of_mem _ hg), hp.opened, Nat.zero_le _⟩

theorem step_portOk {s t : State} (h : step s = .next t) (hs : PortOk s.dev.port) : PortOk t.dev.port := by
  unfold step at h
  split at h
  · cases h
    exact hs
  · rename_i c rest _
    exact (exec_portStep (s := { s with pending := rest }) hs h).ok hs

end Sys2Proof.Machine
end

section
/-! PROOFS. The notice unit and image memory stay in order, effect by effect, and with them the host side of the part (O55). -/

open Sys2Proof Sys2Proof.Machine

namespace Sys2Proof.Machine

/-! ## What every effect keeps -/

/-- A property of the notice unit and of the store that the requests, the events, the resets and the bytes of the stream keep is kept
by every effect. -/
theorem Effect.keeps {P : Notices → Store → Prop} (hrequest : ∀ {d e : Device}, Works d e → P d.notices d.store → P e.notices e.store)
    (hreset : P Notices.reset Store.reset)
    (hwritten : ∀ (d : Device) (v : Byte), P d.notices d.store → P d.notices (d.writeStreamByte v).store)
    (hread : ∀ d : Device, P d.notices d.store → P d.notices d.readStreamByte.store) {d e : Device} (h : Effect d e)
    (hd : P d.notices d.store) : P e.notices e.store := by
  have event : ∀ {e : Device}, Moves d e → P e.notices e.store := fun h => hrequest (.moves h) hd
  cases h with
  | port | release => exact hd
  | request r hr => exact hrequest (work_works hr d).1 hd
  | reset => exact hreset
  | written v => rw [d.writeStreamByte_notices]; exact hwritten d v hd
  | read => rw [d.readStreamByte_notices]; exact hread d hd
  | insertion c l => exact event (Device.insertion_moves c (Moves.refl.sample c l))
  | removal c l => exact event (Device.removal_moves c (Moves.refl.sample c l))
  | indexPulse c l t => exact event (Device.indexPulse_moves c t (Moves.refl.sample c l))
  | idBlock c a b n z crc => exact event (Device.idBlockRead_moves c a b n z crc .refl)
  | dataBlock c m raw => exact event (Device.dataBlockRead_moves c m raw .refl)
  | budget c l => exact event (Device.budgetPulse_moves c (Moves.refl.sample c l))
  | spinUp c l => exact event (Device.spinUpExpired_moves c (Moves.refl.sample c l))
  | indexTimeout c l => exact event (Device.indexExpired_moves c (Moves.refl.sample c l))
  | stepInterval c l => exact event (Device.stepExpired_moves c (Moves.refl.sample c l))
  | noTrack0 c l => exact event (Device.noTrack0Expired_moves c (Moves.refl.sample c l))
  | settle c l => exact event (Device.settleExpired_moves c (Moves.refl.sample c l))
  | feedTimeout c l => exact event (Device.feedExpired_moves c (Moves.refl.sample c l))
  | ejectTimeout c l => exact event (Device.ejectExpired_moves c (Moves.refl.sample c l))

theorem effects_keep {P : Notices → Store → Prop} (hP : ∀ {d e : Device}, Effect d e → P d.notices d.store → P e.notices e.store)
    {d e : Device} (h : Relation.ReflTransGen Effect d e) (hd : P d.notices d.store) : P e.notices e.store := by
  induction h with
  | refl => exact hd
  | tail _ he ih => exact hP he ih

/-! ## The notice unit (R173, R177) -/

/-- No notice is at position 0 or 23 (R173). -/
theorem noticeBit_reserved {k : Nat} (h : 1 ≤ k ∧ k ≤ 22) : noticeBit k &&& 0x800001#24 = 0#24 := by
  have hall : ∀ j : Fin 22, noticeBit (j.val + 1) &&& 0x800001#24 = 0#24 := by decide
  have hk := hall ⟨k - 1, by omega⟩
  rwa [Nat.sub_add_cancel h.1] at hk

theorem NoticesOk.notify {d : Device} (h : NoticesOk d.notices) {k : Nat} (hk : 1 ≤ k ∧ k ≤ 22) : NoticesOk (d.notify k).notices := by
  refine ⟨?_, h.enable⟩
  change (d.notices.flags ||| noticeBit k) &&& 0x800001#24 = 0#24
  rw [BitVec.and_or_distrib_right, h.flags, noticeBit_reserved hk, BitVec.or_zero]

theorem NoticesOk.clear {d : Device} (h : NoticesOk d.notices) (m : BitVec 24) : NoticesOk (d.clearNotices m).notices := by
  refine ⟨?_, h.enable⟩
  change (d.notices.flags &&& ~~~m) &&& 0x800001#24 = 0#24
  rw [BitVec.and_assoc, BitVec.and_comm (~~~m), ← BitVec.and_assoc, h.flags, BitVec.zero_and]

theorem Moves.noticesOk {d e : Device} (h : Moves d e) (hd : NoticesOk d.notices) : NoticesOk e.notices := by
  induction h with
  | refl => exact hd
  | setChan _ _ _ ih => exact ih
  | setLot _ _ _ ih => exact ih
  | setImage _ _ _ ih => exact ih
  | notify _ hk _ ih => exact ih.notify hk
  | setCapture _ _ ih => exact ih
  | count _ ih => exact ih
  | vacate _ _ ih => exact ih
  | captured _ _ _ _ _ _ _ _ ih => exact ih

theorem Works.noticesOk {d e : Device} (h : Works d e) (hd : NoticesOk d.notices) : NoticesOk e.notices := by
  cases h with
  | moves h => exact h.noticesOk hd
  | cleared m => exact hd.clear m
  | enabled m b hm => exact ⟨hd.flags, hm⟩
  | profile | deleted | installed | loading | removed | reading | amended | aborted => exact hd

theorem step_noticesOk {s t : State} (h : step s = .next t) (hs : NoticesOk s.dev.notices) : NoticesOk t.dev.notices :=
  effects_keep (P := fun n _ => NoticesOk n)
    (Effect.keeps (P := fun n _ => NoticesOk n) Works.noticesOk .reset (fun _ _ hd => hd) fun _ hd => hd) (step_chain h) hs

/-! ## Image memory (R3) -/

theorem Store.install_memory (st : Store) (r : RecNo) : (st.install r).memory = st.memory := by
  cases h : (st.image (st.record r).image).entry (st.record r).key with
  | none => rw [Store.install_absent h]; rfl
  | some o => rw [Store.install_replace h, Store.dispose_memory]; rfl

theorem Store.remove_memory (st : Store) (i : ImageNo) (key : Key) : (st.remove i key).memory = st.memory := by
  cases h : (st.image i).entry key with
  | none => rw [Store.remove_absent h]
  | some r => rw [Store.remove_present h, Store.dispose_memory]; rfl

theorem Store.vacate_memory (st : Store) (i : ImageNo) : (st.vacate i).memory = st.memory := Store.disposeAll_memory _ st

theorem Store.unpinRead_memory (st : Store) (r : RecNo) : (st.unpinRead r).memory = st.memory := by
  rw [Store.unpinRead_eq]
  split
  · exact Store.release_memory _ r
  · rfl

theorem Store.afterAbort_memory (st : Store) (x : Stream) : (st.afterAbort x).memory = st.memory := by
  cases x with
  | closed => rfl
  | inbound r _ => exact st.release_memory r
  | outbound r _ => exact st.unpinRead_memory r

theorem Store.completeLoad_memory (st : Store) (r : RecNo) : (st.completeLoad r).memory = st.memory := Store.install_memory _ r

theorem Store.captured_memory_wf {st : Store} (h : Memory.wf st.memory) (r : RecNo) (i : ImageNo) (key : Key) (t : Track) (p : Nat)
    (bytes : List Byte) : Memory.wf (st.captured r i key t p bytes).memory := by
  rw [Store.captured, Store.install_memory]
  exact dataWriteAll_wf bytes _ h _ 0

theorem Moves.memory_wf {d e : Device} (h : Moves d e) (hd : Memory.wf d.store.memory) : Memory.wf e.store.memory := by
  induction h with
  | refl => exact hd
  | setChan _ _ _ ih => exact ih
  | setLot _ _ _ ih => exact ih
  | setImage _ _ _ ih => exact ih
  | notify _ _ _ ih => exact ih
  | setCapture _ _ ih => exact ih
  | count _ ih => exact ih
  | vacate i _ ih => exact (Store.vacate_memory _ i).symm ▸ ih
  | captured r i key t p bytes _ _ ih => exact Store.captured_memory_wf ih r i key t p bytes

theorem Works.memory_wf {d e : Device} (h : Works d e) (hd : Memory.wf d.store.memory) : Memory.wf e.store.memory := by
  have same : ∀ {st : Store}, st.memory = d.store.memory → Memory.wf st.memory := fun h => h ▸ hd
  cases h with
  | moves h => exact h.memory_wf hd
  | profile | deleted | cleared | enabled | reading | loading => exact hd
  | installed r => exact same (Store.install_memory _ r)
  | removed i key => exact same (Store.remove_memory _ i key)
  | amended r j o bytes => exact dataWriteAll_wf bytes _ hd _ _
  | aborted => exact same (Store.afterAbort_memory _ _)

theorem Device.writeStreamByte_memory_wf (d : Device) (v : Byte) (hd : Memory.wf d.store.memory) :
    Memory.wf (d.writeStreamByte v).store.memory := by
  have taken : ∀ r b, Memory.wf (d.store.takeByte r b v).memory := fun r b => dataWrite_wf _ hd _ b v
  unfold Device.writeStreamByte
  split
  · dsimp only
    split
    · exact (Store.completeLoad_memory _ _).symm ▸ taken _ _
    · exact taken _ _
  · exact hd
  · exact hd

theorem Device.readStreamByte_memory_wf (d : Device) (hd : Memory.wf d.store.memory) : Memory.wf d.readStreamByte.store.memory := by
  unfold Device.readStreamByte
  split
  · dsimp only
    split
    · exact (Store.unpinRead_memory d.store _).symm ▸ hd
    · exact hd
  · exact hd
  · exact hd

theorem step_memory_wf {s t : State} (h : step s = .next t) (hs : Memory.wf s.dev.store.memory) : Memory.wf t.dev.store.memory :=
  effects_keep (P := fun _ st => Memory.wf st.memory)
    (Effect.keeps (P := fun _ st => Memory.wf st.memory) Works.memory_wf ⟨.nil, nofun⟩ Device.writeStreamByte_memory_wf
      Device.readStreamByte_memory_wf) (step_chain h) hs

/-- Settles O55: the port command by command, the notice unit and image memory effect by effect. -/
theorem hostSideStays : Obligations.HostSideStays := fun _ _ h =>
  ⟨fun ⟨hport, hnotices⟩ => ⟨step_portOk h hport, step_noticesOk h hnotices⟩, step_memory_wf h⟩

end Sys2Proof.Machine
end

section
/-! PROOFS. The request engine's own checks: what the request summary's readers need, against section 8.9's column (O6), and that a
refused request has changed nothing (O52). -/

open Sys2Proof Sys2Proof.Machine

namespace Sys2Proof.Machine

/-! ## How many parameter bytes a reader needs (R163) -/

/-- A reader gives a request exactly when it has `k` bytes. -/
def NeedsBytes (k : Nat) (read : List Byte → Option Request) : Prop := ∀ ps, (read ps).isSome = true ↔ k ≤ ps.length

section
variable {read : List Byte → Option Request} {k : Nat}

theorem NeedsBytes.zero (h : ∀ ps, (read ps).isSome = true) : NeedsBytes 0 read := fun ps => iff_of_true (h ps) (Nat.zero_le _)

/-- A reader that needs one byte and then `k` more. -/
theorem NeedsBytes.succ (hnil : read [] = none) (h : ∀ b, NeedsBytes k fun ps => read (b :: ps)) : NeedsBytes (k + 1) read
  | [] => iff_of_false (by rw [hnil]; exact nofun) (Nat.not_succ_le_zero k)
  | b :: ps => (h b ps).trans Nat.succ_le_succ_iff.symm

/-- A reader that measures what is left. -/
theorem NeedsBytes.measured (r : List Byte → Request) (k : Nat) :
    NeedsBytes k fun ps => if ps.length < k then none else some (r ps) := fun ps => by
  dsimp only
  split
  · exact iff_of_false nofun (Nat.not_le.2 ‹_›)
  · exact iff_of_true rfl (Nat.not_lt.1 ‹_›)

end

/-- A row of the request summary gives a request exactly when the frame holds the bytes that section 8.9 calls for. -/
def ReadsWhatItNeeds (row : RequestRow) : Prop :=
  ∀ ps, ∃ k, paramsNeeded row.code ps = some k ∧ ((row.read ps).isSome = true ↔ k ≤ ps.length)

section
variable {code : Byte}

theorem ReadsWhatItNeeds.fixed {read : List Byte → Option Request} (k : Nat) (hk : ∀ ps, paramsNeeded code ps = some k)
    (h : NeedsBytes k read) : ReadsWhatItNeeds ⟨code, read⟩ := fun ps => ⟨k, hk ps, h ps⟩

theorem ReadsWhatItNeeds.bare {r : Request} (hk : ∀ ps, paramsNeeded code ps = some 0) : ReadsWhatItNeeds (rowNone code r) :=
  .fixed 0 hk (.zero fun _ => rfl)

theorem ReadsWhatItNeeds.one {f : Byte → Request} (hk : ∀ ps, paramsNeeded code ps = some 1) : ReadsWhatItNeeds (rowOne code f) :=
  .fixed 1 hk (.succ rfl fun _ => .zero fun _ => rfl)

theorem ReadsWhatItNeeds.three {f : Byte → Byte → Byte → Request} (hk : ∀ ps, paramsNeeded code ps = some 3) :
    ReadsWhatItNeeds (rowThree code f) :=
  .fixed 3 hk (.succ rfl fun _ => .succ rfl fun _ => .succ rfl fun _ => .zero fun _ => rfl)

theorem ReadsWhatItNeeds.five {f : Byte → Byte → Byte → Byte → Byte → Request} (hk : ∀ ps, paramsNeeded code ps = some 5) :
    ReadsWhatItNeeds (rowFive code f) :=
  .fixed 5 hk (.succ rfl fun _ => .succ rfl fun _ => .succ rfl fun _ => .succ rfl fun _ => .succ rfl fun _ => .zero fun _ => rfl)

end

theorem readImageCreate_needs : NeedsBytes 20 readImageCreate := by
  iterate 4 refine .succ rfl fun _ => ?_
  exact .measured _ 16

theorem readTrackFill_needs : NeedsBytes 10 readTrackFill := by
  iterate 10 refine .succ rfl fun _ => ?_
  exact .zero fun _ => rfl

theorem readSectorPeek_needs : NeedsBytes 7 readSectorPeek := by
  iterate 7 refine .succ rfl fun _ => ?_
  exact .zero fun _ => rfl

theorem readSectorAmend_needs : NeedsBytes 7 readSectorAmend := by
  iterate 7 refine .succ rfl fun _ => ?_
  exact .zero fun _ => rfl

theorem readProfileSet_needs : NeedsBytes 11 readProfileSet := by
  iterate 11 refine .succ rfl fun _ => ?_
  exact .zero fun _ => rfl

theorem readLotCreate_needs : NeedsBytes 23 readLotCreate := by
  iterate 23 refine .succ rfl fun _ => ?_
  exact .zero fun _ => rfl

theorem readLotMark_needs : NeedsBytes 3 readLotMark := by
  iterate 3 refine .succ rfl fun _ => ?_
  exact .zero fun _ => rfl

theorem readChannelAssign_needs : NeedsBytes 2 readChannelAssign := by
  iterate 2 refine .succ rfl fun _ => ?_
  exact .zero fun _ => rfl

theorem readNoticeClear_needs : NeedsBytes 3 readNoticeClear := by
  iterate 3 refine .succ rfl fun _ => ?_
  exact .zero fun _ => rfl

theorem readNoticeEnable_needs : NeedsBytes 4 readNoticeEnable := by
  iterate 4 refine .succ rfl fun _ => ?_
  exact .zero fun _ => rfl

/-- TRACK LOAD's number depends on its own sector count, the seventh byte (R49, R163). -/
theorem readTrackLoad_needs : ReadsWhatItNeeds ⟨0x20, readTrackLoad⟩
  | i :: c :: h :: g :: il :: sk :: n :: rest => by
    have hneeded : paramsNeeded 0x20 (i :: c :: h :: g :: il :: sk :: n :: rest) = some (6 * entriesNeeded n + 7) := by
      change some (if 1 ≤ n.toNat ∧ n.toNat ≤ 40 then 7 + 6 * n.toNat else 7) = _
      unfold entriesNeeded
      split <;> exact congrArg some (by omega)
    refine ⟨_, hneeded, ?_⟩
    exact (NeedsBytes.measured (fun ps => .trackLoad ⟨i, c, h, g, il, sk, n, readEntries (entriesNeeded n) ps⟩)
      (6 * entriesNeeded n) rest).trans (by simp only [List.length_cons]; omega)
  | [] | [_] | [_, _] | [_, _, _] | [_, _, _, _] | [_, _, _, _, _] | [_, _, _, _, _, _] => ⟨7, rfl, iff_of_false nofun (by simp)⟩

theorem requestTable_readsWhatItNeeds : ∀ row ∈ requestTable, ReadsWhatItNeeds row := by
  simp only [requestTable, List.cons_append, List.nil_append, List.forall_mem_cons, List.not_mem_nil, false_implies, implies_true,
    and_true]
  exact ⟨.fixed 20 (fun _ => rfl) readImageCreate_needs, .one fun _ => rfl, .one fun _ => rfl, .one fun _ => rfl, .one fun _ => rfl,
    .one fun _ => rfl, readTrackLoad_needs, .fixed 10 (fun _ => rfl) readTrackFill_needs, .three fun _ => rfl, .three fun _ => rfl,
    .five fun _ => rfl, .fixed 7 (fun _ => rfl) readSectorPeek_needs, .fixed 7 (fun _ => rfl) readSectorAmend_needs,
    .bare fun _ => rfl, .fixed 11 (fun _ => rfl) readProfileSet_needs, .one fun _ => rfl,
    .fixed 23 (fun _ => rfl) readLotCreate_needs, .one fun _ => rfl, .one fun _ => rfl, .one fun _ => rfl, .one fun _ => rfl,
    .one fun _ => rfl, .fixed 3 (fun _ => rfl) readLotMark_needs, .one fun _ => rfl, .one fun _ => rfl, .one fun _ => rfl,
    .fixed 2 (fun _ => rfl) readChannelAssign_needs, .one fun _ => rfl, .one fun _ => rfl, .one fun _ => rfl, .one fun _ => rfl,
    .one fun _ => rfl, .three fun _ => rfl, .one fun _ => rfl, .five fun _ => rfl, .bare fun _ => rfl, .bare fun _ => rfl,
    .bare fun _ => rfl, .fixed 3 (fun _ => rfl) readNoticeClear_needs, .fixed 4 (fun _ => rfl) readNoticeEnable_needs,
    .bare fun _ => rfl, .bare fun _ => rfl⟩

/-- Section 8.9 calls for parameter bytes only under the codes of the request summary. -/
theorem paramsNeeded_unknown {code : Byte} (h : ∀ row ∈ requestTable, row.code ≠ code) (ps : List Byte) :
    paramsNeeded code ps = none := by
  have hknown : ∀ n : Fin 256, (paramsNeeded (BitVec.ofFin n) []).isSome = true →
      (requestTable.map RequestRow.code).contains (BitVec.ofFin n) = true := by decide +kernel
  have hsome : (paramsNeeded code ps).isSome = (paramsNeeded code []).isSome := by
    unfold paramsNeeded
    split <;> rfl
  rw [← Option.not_isSome_iff_eq_none, hsome]
  intro hneeded
  obtain ⟨row, hrow, hcode⟩ := List.mem_map.1 (List.contains_iff_mem.1 (hknown code.toFin hneeded))
  exact h row hrow hcode

/-! ## Reading a frame's parameters (R163, steps 3 and 4) -/

/-- A code is no request's, and none of its frames is read, or it has a row, which reads what section 8.9 calls for. -/
theorem decodeRequest_cases (code : Byte) (ps : List Byte) :
    (paramsNeeded code ps = none ∧ decodeRequest code ps = .error .badCode) ∨
      ∃ k, paramsNeeded code ps = some k ∧
        ((ps.length < k ∧ decodeRequest code ps = .error .badLength) ∨ (k ≤ ps.length ∧ ∃ r, decodeRequest code ps = .ok r)) := by
  unfold decodeRequest
  split
  · rename_i hnone
    refine .inl ⟨paramsNeeded_unknown (fun row hrow hc => ?_) ps, rfl⟩
    exact List.find?_eq_none.1 hnone row hrow (beq_iff_eq.2 hc)
  · rename_i row hrow
    obtain ⟨k, hk, hread⟩ := requestTable_readsWhatItNeeds row (List.mem_of_find?_eq_some hrow) ps
    have hcode : row.code = code := by simpa using List.find?_some hrow
    refine .inr ⟨k, hcode ▸ hk, ?_⟩
    split <;> rename_i hr <;> rw [hr] at hread
    · exact .inl ⟨Nat.not_le.1 fun hle => (nomatch hread.2 hle), rfl⟩
    · exact .inr ⟨hread.1 rfl, _, rfl⟩

section
variable {code : Byte} {ps : List Byte}

theorem decodeRequest_badCode (h : paramsNeeded code ps = none) : decodeRequest code ps = .error .badCode := by
  rcases decodeRequest_cases code ps with ⟨_, hd⟩ | ⟨k, hk, _⟩
  · exact hd
  · exact nomatch h.symm.trans hk

theorem decodeRequest_badLength {k : Nat} (h : paramsNeeded code ps = some k) (hlen : ps.length < k) :
    decodeRequest code ps = .error .badLength := by
  rcases decodeRequest_cases code ps with ⟨hk, _⟩ | ⟨k', hk, hd⟩
  · exact nomatch h.symm.trans hk
  · obtain rfl := Option.some.inj (h.symm.trans hk)
    rcases hd with ⟨_, hd⟩ | ⟨hle, _⟩
    · exact hd
    · exact absurd hlen (Nat.not_lt.2 hle)

theorem decodeRequest_ok {k : Nat} (h : paramsNeeded code ps = some k) (hlen : k ≤ ps.length) :
    ∃ r, decodeRequest code ps = .ok r := by
  rcases decodeRequest_cases code ps with ⟨hk, _⟩ | ⟨k', hk, hd⟩
  · exact nomatch h.symm.trans hk
  · obtain rfl := Option.some.inj (h.symm.trans hk)
    rcases hd with ⟨hlt, _⟩ | ⟨_, hd⟩
    · exact absurd hlt (Nat.not_lt.2 hlen)
    · exact hd

end

/-! ## The engine's checks in their order (R163) -/

section
variable {f : Frame} {tag : Byte} {ps : List Byte}

theorem workFrame_empty (h : f.body = []) (d : Device) : workFrame f d = replied (refuse d .badLength) := if_pos h

theorem workFrame_long (hb : f.body = tag :: ps) (hl : f.long = true) (d : Device) :
    workFrame f d = replied (refuse d .badLength) := by
  rw [workFrame, if_neg (by rw [hb]; exact List.cons_ne_nil _ _), if_pos hl]

theorem workFrame_badCode (hb : f.body = tag :: ps) (hl : f.long = false) (hd : decodeRequest f.code ps = .error .badCode)
    (d : Device) : workFrame f d = replied (refuse d .badCode) := by
  rw [workFrame, if_neg (by rw [hb]; exact List.cons_ne_nil _ _), if_neg (ne_true_of_eq_false hl), hb, List.tail_cons, hd]

theorem workFrame_badLength (hb : f.body = tag :: ps) (hl : f.long = false) (hd : decodeRequest f.code ps = .error .badLength)
    (d : Device) : workFrame f d = replied (refuse d .badLength) := by
  rw [workFrame, if_neg (by rw [hb]; exact List.cons_ne_nil _ _), if_neg (ne_true_of_eq_false hl), hb, List.tail_cons, hd]

theorem workFrame_ok (hb : f.body = tag :: ps) (hl : f.long = false) {r : Request} (hd : decodeRequest f.code ps = .ok r)
    (d : Device) : workFrame f d = work r d := by
  rw [workFrame, if_neg (by rw [hb]; exact List.cons_ne_nil _ _), if_neg (ne_true_of_eq_false hl), hb, List.tail_cons, hd]

end

/-- The reply to the frame the engine is working, placed: the part has been answered (R162, R164). -/
theorem Device.placeReply_taking {d : Device} (hq : d.port.requests = []) (hi : d.port.working = none) (f : Frame) (x : Response) :
    (d.taking f).placeReply f (some x) = d.answered (f.body.headD 0) f.code x.completion x.result := by
  simp [Device.placeReply, Device.answered, Device.taking, replyTo, hq, hi]

section
variable {s : State} {f : Frame} (h : PortReady s.dev) (hf : s.dev.port.frame = some f)
include h hf

theorem exec_post_ready : exec .post s =
    .next { s with dev := (workFrame f (s.dev.taking f)).1.placeReply f (workFrame f (s.dev.taking f)).2 } := by
  rw [exec_post h.released, Device.post_open hf, Device.postFrame_ready h]

theorem exec_post_refused {c : Completion} (hw : workFrame f (s.dev.taking f) = replied (refuse (s.dev.taking f) c)) :
    exec .post s = .next (s.refused (f.body.headD 0) f.code c) := by
  rw [exec_post_ready h hf, hw]
  exact next_dev (Device.placeReply_taking h.empty h.idle f ⟨c, []⟩)

end

/-- Settles O6. -/
theorem engineChecks : Obligations.EngineChecks := by
  intro s f h hf
  refine ⟨fun hb => ?_, fun tag ps hb => ?_⟩
  · have hreply := exec_post_refused h hf (workFrame_empty hb _)
    rwa [hb] at hreply
  · have refused : ∀ {c}, workFrame f (s.dev.taking f) = replied (refuse (s.dev.taking f) c) →
        exec .post s = .next (s.refused tag f.code c) := fun hw => by
      have hreply := exec_post_refused h hf hw
      rwa [hb] at hreply
    refine ⟨fun hl => refused (workFrame_long hb hl _),
      fun hl hk => refused (workFrame_badCode hb hl (decodeRequest_badCode hk) _),
      fun hl k hk hlen => refused (workFrame_badLength hb hl (decodeRequest_badLength hk hlen) _), fun hl k hk hlen => ?_⟩
    obtain ⟨r, hr⟩ := decodeRequest_ok hk hlen
    refine ⟨r, decodeRequest_code hr, hr, ?_⟩
    rw [exec_post_ready h hf, workFrame_ok hb hl hr]

/-! ## A refusal changes nothing (R166) -/

/-- A request's result that is no refusal, or leaves the part `d` as it was and carries no result bytes. -/
def CleanRefusal (d : Device) (x : Device × Response) : Prop :=
  x.2.completion ≠ .ok → x.2.completion ≠ .started → x.1 = d ∧ x.2.result = []

section
variable {d : Device}

theorem CleanRefusal.refused (c : Completion) : CleanRefusal d (refuse d c) := fun _ _ => ⟨rfl, rfl⟩

theorem CleanRefusal.ok (e : Device) (bs : List Byte) : CleanRefusal d (answerOk e bs) := fun h => absurd rfl h

theorem CleanRefusal.started (e : Device) : CleanRefusal d (answerStarted e) := fun _ h => absurd rfl h

theorem CleanRefusal.slot {n : Nat} {b : Byte} {k : Fin n → Device × Response} (h : ∀ i, CleanRefusal d (k i)) :
    CleanRefusal d (withSlot n b d k) := withSlot_elim .refused fun i _ => h i

theorem CleanRefusal.checks {cs : List (Bool × Completion)} {k : Device × Response} (h : CleanRefusal d k) :
    CleanRefusal d (checked d cs k) := checked_elim .refused fun _ => h

end

section
variable (d : Device)

theorem workImageRetire_refuses (i : Byte) : CleanRefusal d (workImageRetire i d) :=
  .slot fun _ => .checks (by split <;> exact .ok _ _)

theorem workTrackLoad_refuses (ps : LoadParams) : CleanRefusal d (workTrackLoad ps d) :=
  .slot fun _ => .checks (by
    split
    · exact .refused _
    · split
      · exact .ok _ _
      · exact .checks (.ok _ _))

theorem workTrackFill_refuses (ps : FillParams) : CleanRefusal d (workTrackFill ps d) :=
  .slot fun _ => .checks (by
    split
    · exact .refused _
    · exact .ok _ _)

theorem workTrackRemove_refuses (i c h : Byte) : CleanRefusal d (workTrackRemove i c h d) :=
  .slot fun _ => .checks (by split <;> exact .ok _ _)

theorem workTrackRead_refuses (i c h : Byte) : CleanRefusal d (workTrackRead i c h d) :=
  .slot fun _ => .checks (by
    split
    · exact .ok _ _
    · split
      · exact .ok _ _
      · exact .checks (.ok _ _))

theorem workSectorAmend_refuses (i c h j : Byte) (o : Half) (n : Byte) (bs : List Byte) :
    CleanRefusal d (workSectorAmend i c h j o n bs d) :=
  .slot fun _ => .checks (by
    split
    · exact .refused _
    · exact .checks (.ok _ _))

theorem workProfileSet_refuses (ps : ProfileParams) : CleanRefusal d (workProfileSet ps d) :=
  .slot fun _ => .checks (by
    split
    · exact .ok _ _
    · exact .checks (.ok _ _))

theorem workLotClose_refuses (l : Byte) : CleanRefusal d (workLotClose l d) :=
  .slot fun _ => .checks (by split <;> exact .ok _ _)

theorem workChannelAssign_refuses (c l : Byte) : CleanRefusal d (workChannelAssign c l d) :=
  .slot fun _ => by
    split
    · exact .refused _
    · exact .checks (.ok _ _)

theorem workChannelQuery_refuses (c : Byte) : CleanRefusal d (workChannelQuery c d) := by
  unfold workChannelQuery withChan
  exact .slot fun _ => .ok _ _

theorem workChannelClear_refuses (c : Byte) : CleanRefusal d (workChannelClear c d) :=
  .slot fun _ => by
    split
    · exact .refused _
    · exact .ok _ _

end

/-- The result of a request other than PART RESET: a reply, and no effect where it is a refusal. -/
theorem work_refuses {r : Request} (hr : r ≠ .partReset) (d : Device) : ∃ x, work r d = replied x ∧ CleanRefusal d x := by
  cases r with
  | imageCreate => exact ⟨_, rfl, .slot fun _ => .slot fun _ => .checks (.ok _ _)⟩
  | imageSeal | imageUnseal | imageDiscard => exact ⟨_, rfl, .slot fun _ => .checks (.ok _ _)⟩
  | imageRetire i => exact ⟨_, rfl, workImageRetire_refuses d i⟩
  | trackLoad ps => exact ⟨_, rfl, workTrackLoad_refuses d ps⟩
  | trackFill ps => exact ⟨_, rfl, workTrackFill_refuses d ps⟩
  | trackRemove i c h => exact ⟨_, rfl, workTrackRemove_refuses d i c h⟩
  | trackRead i c h => exact ⟨_, rfl, workTrackRead_refuses d i c h⟩
  | trackQuery | sectorPeek => exact ⟨_, rfl, .slot fun _ => .checks (.ok _ _)⟩
  | sectorAmend i c h j o n bs => exact ⟨_, rfl, workSectorAmend_refuses d i c h j o n bs⟩
  | imageQuery | profileQuery | lotQuery => exact ⟨_, rfl, .slot fun _ => .ok _ _⟩
  | channelQuery c => exact ⟨workChannelQuery c d, rfl, workChannelQuery_refuses d c⟩
  | streamAbort | captureQuery | noticeRead | noticeClear | storeStatus => exact ⟨_, rfl, .ok _ _⟩
  | profileSet ps => exact ⟨_, rfl, workProfileSet_refuses d ps⟩
  | lotCreate => exact ⟨_, rfl, .slot fun _ => .checks (.slot fun _ => .checks (.ok _ _))⟩
  | lotStart => exact ⟨_, rfl, .slot fun _ => .checks (.started _)⟩
  | lotHold | lotResume | lotDelete | lotMark => exact ⟨_, rfl, .slot fun _ => .checks (.ok _ _)⟩
  | lotClose l => exact ⟨_, rfl, workLotClose_refuses d l⟩
  | channelAssign c l => exact ⟨_, rfl, workChannelAssign_refuses d c l⟩
  | channelHold | channelRelease => exact ⟨_, rfl, .slot fun _ => .ok _ _⟩
  | channelEnable | channelDisable | channelAbort | channelEject | channelTiming =>
    exact ⟨_, rfl, .slot fun _ => .checks (.ok _ _)⟩
  | channelClear c => exact ⟨_, rfl, workChannelClear_refuses d c⟩
  | captureStart => exact ⟨_, rfl, .slot fun _ => .slot fun _ => .checks (.started _)⟩
  | captureAbort | noticeEnable => exact ⟨_, rfl, .checks (.ok _ _)⟩
  | partReset => exact absurd rfl hr

/-- A frame on a ready port that is not PART RESET's is answered; where the answer is a refusal, with no effect (R162, R166). -/
theorem Device.postFrame_answered {d : Device} (h : PortReady d) {f : Frame} (hf : f.code ≠ 0xF0) :
    ∃ (e : Device) (x : Response), d.postFrame f = e.answered (f.body.headD 0) f.code x.completion x.result ∧
      e.port.replies = d.port.replies ∧ CleanRefusal d (e, x) := by
  rw [Device.postFrame_ready h]
  rcases workFrame_cases f (d.taking f) with ⟨c, hw⟩ | ⟨r, hc, hw⟩ <;> rw [hw]
  · exact ⟨d, ⟨c, []⟩, Device.placeReply_taking h.empty h.idle f ⟨c, []⟩, rfl, .refused c⟩
  · have hr : r ≠ .partReset := Request.ne_partReset_of_code hc hf
    obtain ⟨y, hy, hclean⟩ := work_refuses hr d
    obtain ⟨x, hx, htaking⟩ := work_taking hr d f
    obtain ⟨st, fault, hport⟩ := (work_works hr d).1.port
    rw [hy] at hx htaking hport
    obtain rfl : y.2 = x := Option.some.inj hx
    rw [htaking]
    exact ⟨y.1, y.2, Device.placeReply_taking ((congrArg Port.requests hport).trans h.empty)
      ((congrArg Port.working hport).trans h.idle) f y.2,
      (congrArg Port.replies hport :), hclean⟩

/-- Settles O52. -/
theorem refusalsChangeNothing : Obligations.RefusalsChangeNothing := by
  intro c tag r s hc hr h
  obtain ⟨e, x, he, hreplies, hclean⟩ :=
    Device.postFrame_answered h (f := requestFrame tag r) (Request.code_partReset hr)
  exact ⟨e, x.completion, x.result, (exec_row hc s).trans (next_dev ((Device.access_released h.released).trans he)), hreplies,
    hclean⟩

end Sys2Proof.Machine
end

section
/-! PROOFS. The bits of the port status byte and of the attention summary byte, and the attention line (O12). -/

open Sys2Proof Sys2Proof.Machine

namespace Sys2Proof.Machine

/-! ## Bits of a byte and of a notice word -/

theorem foldr_bits_testBit : ∀ (bits : List Bool) (j : Nat),
    (bits.foldr (fun (b : Bool) n => b.toNat + 2 * n) 0).testBit j = bits.getD j false
  | [], j => by simp
  | b :: bits, 0 => by cases b <;> simp [Nat.testBit_zero]
  | b :: bits, j + 1 => by
    have hhalf : ∀ n, (b.toNat + 2 * n) / 2 = n := fun n => by
      have := b.toNat_le
      omega
    rw [List.foldr_cons, Nat.testBit_succ, hhalf, foldr_bits_testBit bits j, List.getD_cons_succ]

/-- Bit `j` of a byte made of bits is the `j`-th of them. -/
theorem byteOfBits_bit {x : Byte} {bits : List Bool} (hx : x = byteOfBits bits) {j : Nat} {p : Prop}
    (h : bits.getD j false = true ↔ p) (hj : j < 8 := by decide) : x.getLsbD j = true ↔ p := by
  rw [hx, byteOfBits, BitVec.getLsbD_ofNat, decide_eq_true hj, Bool.true_and, foldr_bits_testBit]
  exact h

theorem word_ne_zero_iff (x : BitVec 24) : (x != 0#24) = true ↔ ∃ k, x.getLsbD k = true := by
  rw [bne_iff_ne]
  refine ⟨fun hne => ?_, fun ⟨k, hk⟩ hzero => ?_⟩
  · by_contra hnone
    exact hne (BitVec.eq_of_getLsbD_eq fun k _ =>
      (Bool.eq_false_iff.2 fun hk => hnone ⟨k, hk⟩).trans BitVec.getLsbD_zero.symm)
  · rw [hzero, BitVec.getLsbD_zero] at hk
    exact nomatch hk

/-- The mask `m` names the positions `lo` to `hi` and no other. -/
def Names (m : BitVec 24) (lo hi : Nat) : Prop := ∀ k, m.getLsbD k = true ↔ lo ≤ k ∧ k ≤ hi

theorem Names.of_decide {m : BitVec 24} {lo hi : Nat} (hhi : hi < 24)
    (h : ∀ k : Fin 24, m.getLsbD k.val = decide (lo ≤ k.val ∧ k.val ≤ hi)) : Names m lo hi := fun k => by
  by_cases hk : k < 24
  · rw [h ⟨k, hk⟩, decide_eq_true_iff]
  · exact iff_of_false (by rw [BitVec.getLsbD_of_ge m k (Nat.not_lt.1 hk)]; exact nofun) (by omega)

/-! ## Notices set and enabled -/

/-- A flag at one of the positions `lo` to `hi` is set and enabled. -/
def Device.SetAmong (d : Device) (lo hi : Nat) : Prop :=
  ∃ k, lo ≤ k ∧ k ≤ hi ∧ d.notices.flags.getLsbD k = true ∧ d.notices.enable.getLsbD k = true

section
variable {d : Device}

theorem Device.setAmong_split {lo mid hi : Nat} (hlo : lo ≤ mid + 1) (hhi : mid ≤ hi) :
    d.SetAmong lo hi ↔ d.SetAmong lo mid ∨ d.SetAmong (mid + 1) hi := by
  constructor
  · rintro ⟨k, hk, hk', hset⟩
    by_cases hm : k ≤ mid
    · exact .inl ⟨k, hk, hm, hset⟩
    · exact .inr ⟨k, Nat.not_le.1 hm, hk', hset⟩
  · rintro (⟨k, hk, hk', hset⟩ | ⟨k, hk, hk', hset⟩)
    · exact ⟨k, hk, hk'.trans hhi, hset⟩
    · exact ⟨k, hlo.trans hk, hk', hset⟩

theorem Device.replyReady_iff : d.replyReady = true ↔ d.port.replies ≠ [] := by
  cases h : d.port.replies <;> simp [Device.replyReady, h]

/-- The notice word holds REPLY READY at position 0 and the flags at positions 1 to 22 (R175). -/
theorem Device.noticeWord_bit (d : Device) (k : Nat) : d.noticeWord.getLsbD k = true ↔
    (k = 0 ∧ d.port.replies ≠ []) ∨ (1 ≤ k ∧ k ≤ 22 ∧ d.notices.flags.getLsbD k = true) := by
  have hflags : Names 0x7FFFFE#24 1 22 := .of_decide (by decide) (by decide)
  have hready : (if d.replyReady then 1#24 else 0#24).getLsbD k = true ↔ k = 0 ∧ d.port.replies ≠ [] := by
    rw [← Device.replyReady_iff]
    cases d.replyReady <;> simp
  rw [Device.noticeWord, BitVec.getLsbD_or, Bool.or_eq_true, hready, BitVec.getLsbD_and, Bool.and_eq_true, hflags k, or_comm]
  exact or_congr_right ⟨fun ⟨hf, h1, h2⟩ => ⟨h1, h2, hf⟩, fun ⟨h1, h2, hf⟩ => ⟨hf, h1, h2⟩⟩

/-- A cause stands among some positions when one of them is set and enabled. -/
theorem Device.causeAmong_iff {m : BitVec 24} (lo hi : Nat)
    (hm : ∀ k : Fin 24, m.getLsbD k.val = decide (lo ≤ k.val ∧ k.val ≤ hi) := by decide)
    (hlo : 1 ≤ lo := by decide) (hhi : hi ≤ 22 := by decide) : d.causeAmong m = true ↔ d.SetAmong lo hi := by
  have hm : Names m lo hi := .of_decide (by omega) hm
  rw [Device.causeAmong, word_ne_zero_iff]
  refine exists_congr fun k => ?_
  rw [BitVec.getLsbD_and, BitVec.getLsbD_and, Bool.and_eq_true, Bool.and_eq_true, hm k, d.noticeWord_bit]
  constructor
  · rintro ⟨⟨⟨hzero, _⟩ | ⟨_, _, hf⟩, he⟩, h1, h2⟩
    · omega
    · exact ⟨h1, h2, hf, he⟩
  · rintro ⟨h1, h2, hf, he⟩
    exact ⟨⟨.inr ⟨hlo.trans h1, h2.trans hhi, hf⟩, he⟩, h1, h2⟩

/-- REPLY READY is a cause when it is enabled (R174). -/
theorem Device.causeAmong_reply :
    d.causeAmong 0x000001#24 = true ↔ d.port.replies ≠ [] ∧ d.notices.enable.getLsbD 0 = true := by
  have hfirst : Names 0x000001#24 0 0 := .of_decide (by decide) (by decide)
  rw [Device.causeAmong, word_ne_zero_iff]
  constructor
  · rintro ⟨k, hk⟩
    rw [BitVec.getLsbD_and, BitVec.getLsbD_and, Bool.and_eq_true, Bool.and_eq_true, hfirst k, d.noticeWord_bit] at hk
    obtain ⟨⟨hword, he⟩, hk⟩ := hk
    obtain rfl : k = 0 := by omega
    rcases hword with ⟨_, hr⟩ | ⟨hpos, _⟩
    · exact ⟨hr, he⟩
    · exact absurd hpos (by decide)
  · rintro ⟨hr, he⟩
    refine ⟨0, ?_⟩
    rw [BitVec.getLsbD_and, BitVec.getLsbD_and, Bool.and_eq_true, Bool.and_eq_true, hfirst 0, d.noticeWord_bit]
    exact ⟨⟨.inl ⟨rfl, hr⟩, he⟩, Nat.le_refl 0, Nat.le_refl 0⟩

/-- A set flag is not enabled. -/
theorem Device.masked_iff : (d.noticeWord &&& ~~~d.notices.enable &&& 0x7FFFFE#24 != 0#24) = true ↔
    ∃ k, 1 ≤ k ∧ k ≤ 22 ∧ d.notices.flags.getLsbD k = true ∧ d.notices.enable.getLsbD k = false := by
  have hflags : Names 0x7FFFFE#24 1 22 := .of_decide (by decide) (by decide)
  rw [word_ne_zero_iff]
  refine exists_congr fun k => ?_
  rw [BitVec.getLsbD_and, BitVec.getLsbD_and, Bool.and_eq_true, Bool.and_eq_true, hflags k, d.noticeWord_bit, BitVec.getLsbD_not,
    Bool.and_eq_true, decide_eq_true_iff, Bool.not_eq_true']
  constructor
  · rintro ⟨⟨⟨hzero, _⟩ | ⟨_, _, hf⟩, _, he⟩, h1, h2⟩
    · omega
    · exact ⟨h1, h2, hf, he⟩
  · rintro ⟨h1, h2, hf, he⟩
    exact ⟨⟨.inr ⟨h1, h2, hf⟩, by omega, he⟩, h1, h2⟩

/-- The line is asserted when a flag is set and enabled, or REPLY READY is (R178). -/
theorem Device.lineAsserted_iff (h : d.resetInput = false) : d.lineAsserted = true ↔
    d.SetAmong 1 22 ∨ (d.port.replies ≠ [] ∧ d.notices.enable.getLsbD 0 = true) := by
  rw [Device.lineAsserted, h, Bool.not_false, Bool.true_and, word_ne_zero_iff]
  constructor
  · rintro ⟨k, hk⟩
    rw [BitVec.getLsbD_and, Bool.and_eq_true, d.noticeWord_bit] at hk
    rcases hk with ⟨⟨rfl, hr⟩ | ⟨h1, h2, hf⟩, he⟩
    · exact .inr ⟨hr, he⟩
    · exact .inl ⟨k, h1, h2, hf, he⟩
  · rintro (⟨k, h1, h2, hf, he⟩ | ⟨hr, he⟩)
    · exact ⟨k, by rw [BitVec.getLsbD_and, Bool.and_eq_true, d.noticeWord_bit]; exact ⟨.inr ⟨h1, h2, hf⟩, he⟩⟩
    · exact ⟨0, by rw [BitVec.getLsbD_and, Bool.and_eq_true, d.noticeWord_bit]; exact ⟨.inl ⟨rfl, hr⟩, he⟩⟩

/-- The six groups of positions make up positions 1 to 22 (R173). -/
theorem Device.setAmong_groups : d.SetAmong 1 22 ↔ d.SetAmong 1 6 ∨ d.SetAmong 7 12 ∨ d.SetAmong 13 16 ∨ d.SetAmong 17 20 ∨
    d.SetAmong 21 21 ∨ d.SetAmong 22 22 := by
  rw [Device.setAmong_split (mid := 6), Device.setAmong_split (lo := 7) (mid := 12),
    Device.setAmong_split (lo := 13) (mid := 16), Device.setAmong_split (lo := 17) (mid := 20),
    Device.setAmong_split (lo := 21) (mid := 21)]
  all_goals decide

theorem Device.readFrame_released (h : d.resetInput = false) : d.readFrame = d.statusByte := if_neg (ne_true_of_eq_false h)

theorem Device.readControl_released (h : d.resetInput = false) : d.readControl = d.attentionSummary :=
  if_neg (ne_true_of_eq_false h)

/-- Bits 0 to 6 of the attention summary byte are the causes by group (R170). -/
theorem Device.readControl_causes (h : d.resetInput = false) :
    (d.readControl.getLsbD 0 = true ↔ d.port.replies ≠ [] ∧ d.notices.enable.getLsbD 0 = true) ∧
      (d.readControl.getLsbD 1 = true ↔ d.SetAmong 1 6) ∧ (d.readControl.getLsbD 2 = true ↔ d.SetAmong 7 12) ∧
      (d.readControl.getLsbD 3 = true ↔ d.SetAmong 13 16) ∧ (d.readControl.getLsbD 4 = true ↔ d.SetAmong 17 20) ∧
      (d.readControl.getLsbD 5 = true ↔ d.SetAmong 21 21) ∧ (d.readControl.getLsbD 6 = true ↔ d.SetAmong 22 22) :=
  have hcontrol := Device.readControl_released h
  ⟨byteOfBits_bit hcontrol Device.causeAmong_reply, byteOfBits_bit hcontrol (Device.causeAmong_iff 1 6),
    byteOfBits_bit hcontrol (Device.causeAmong_iff 7 12), byteOfBits_bit hcontrol (Device.causeAmong_iff 13 16),
    byteOfBits_bit hcontrol (Device.causeAmong_iff 17 20), byteOfBits_bit hcontrol (Device.causeAmong_iff 21 21),
    byteOfBits_bit hcontrol (Device.causeAmong_iff 22 22)⟩

/-- The line is asserted exactly when one of bits 0 to 6 of the attention summary byte is true (R170). -/
theorem Device.lineAsserted_iff_cause (h : d.resetInput = false) :
    d.lineAsserted = true ↔ ∃ j, j < 7 ∧ d.readControl.getLsbD j = true := by
  obtain ⟨bit0, bit1, bit2, bit3, bit4, bit5, bit6⟩ := Device.readControl_causes h
  rw [Device.lineAsserted_iff h, Device.setAmong_groups]
  constructor
  · rintro ((g | g | g | g | g | g) | g)
    · exact ⟨1, by decide, bit1.2 g⟩
    · exact ⟨2, by decide, bit2.2 g⟩
    · exact ⟨3, by decide, bit3.2 g⟩
    · exact ⟨4, by decide, bit4.2 g⟩
    · exact ⟨5, by decide, bit5.2 g⟩
    · exact ⟨6, by decide, bit6.2 g⟩
    · exact ⟨0, by decide, bit0.2 g⟩
  · rintro ⟨j, hj, hbit⟩
    match j, hj with
    | 0, _ => exact .inr (bit0.1 hbit)
    | 1, _ => exact .inl (.inl (bit1.1 hbit))
    | 2, _ => exact .inl (.inr (.inl (bit2.1 hbit)))
    | 3, _ => exact .inl (.inr (.inr (.inl (bit3.1 hbit))))
    | 4, _ => exact .inl (.inr (.inr (.inr (.inl (bit4.1 hbit)))))
    | 5, _ => exact .inl (.inr (.inr (.inr (.inr (.inl (bit5.1 hbit))))))
    | 6, _ => exact .inl (.inr (.inr (.inr (.inr (.inr (bit6.1 hbit))))))

end

/-- Settles O12. -/
theorem portLevels : Obligations.PortLevels := by
  intro d h
  have hframe := Device.readFrame_released h
  obtain ⟨bit0, bit1, bit2, bit3, bit4, bit5, bit6⟩ := Device.readControl_causes h
  refine ⟨byteOfBits_bit hframe decide_eq_true_iff, byteOfBits_bit hframe Device.replyReady_iff,
    byteOfBits_bit hframe Option.isSome_iff_ne_none, byteOfBits_bit hframe Iff.rfl, byteOfBits_bit hframe ?_,
    byteOfBits_bit hframe ?_, byteOfBits_bit hframe Iff.rfl, byteOfBits_bit hframe (Device.lineAsserted_iff h),
    bit0, bit1, bit2, bit3, bit4, bit5, bit6, byteOfBits_bit (Device.readControl_released h) Device.masked_iff,
    Device.lineAsserted_iff_cause h⟩
  · cases d.port.stream with
    | inbound r k => exact iff_of_true rfl ⟨r, k, rfl⟩
    | closed | outbound => exact iff_of_false nofun nofun
  · cases d.port.stream with
    | outbound r k => exact iff_of_true rfl ⟨r, k, rfl⟩
    | closed | inbound => exact iff_of_false nofun nofun

end Sys2Proof.Machine
end

section
/-! PROOFS. The notice requests on a ready port (O50): the notice word bit by bit (R175), what NOTICE CLEAR leaves of it (R176), and
the three rows (R175 to R178). -/

open Sys2Proof Sys2Proof.Machine

namespace Sys2Proof.Machine

/-! ## The notice word before and after NOTICE CLEAR (R175, R176) -/

/-- The notice word bit by bit, with 0 at position 23 and beyond (R175). -/
theorem Device.noticeWord_getLsbD (d : Device) (k : Nat) : d.noticeWord.getLsbD k =
    if k = 0 then !d.port.replies.isEmpty else decide (k < 23) && d.notices.flags.getLsbD k := by
  rw [Bool.eq_iff_iff, d.noticeWord_bit]
  split
  next hk => simp [hk]
  next hk =>
    rw [Bool.and_eq_true, decide_eq_true_iff]
    constructor
    · rintro (⟨hzero, _⟩ | ⟨_, h22, hf⟩)
      · exact absurd hzero hk
      · exact ⟨Nat.lt_succ_of_le h22, hf⟩
    · rintro ⟨h23, hf⟩
      exact .inr ⟨Nat.one_le_iff_ne_zero.2 hk, Nat.le_of_lt_succ h23, hf⟩

/-- Clearing takes out of the flags those the mask names and leaves the others (R176). -/
theorem Device.clearNotices_flags (d : Device) (mask : BitVec 24) (k : Nat) :
    (d.clearNotices mask).notices.flags.getLsbD k = (d.notices.flags.getLsbD k && !mask.getLsbD k) := by
  change (d.notices.flags &&& ~~~mask).getLsbD k = _
  rw [BitVec.getLsbD_and, BitVec.getLsbD_not]
  by_cases hk : k < 24
  · rw [decide_eq_true hk, Bool.true_and]
  · rw [BitVec.getLsbD_of_ge d.notices.flags k (Nat.not_lt.1 hk), Bool.false_and, Bool.false_and]

/-- The notice word after clearing keeps REPLY READY, whatever the mask has at position 0 (R176). -/
theorem Device.clearNotices_noticeWord (d : Device) (mask : BitVec 24) (k : Nat) :
    (d.clearNotices mask).noticeWord.getLsbD k =
      if k = 0 then d.noticeWord.getLsbD k else d.noticeWord.getLsbD k && !mask.getLsbD k := by
  rw [Device.noticeWord_getLsbD, d.noticeWord_getLsbD, Device.clearNotices_flags, Device.clearNotices_port]
  split
  · rfl
  · rw [Bool.and_assoc]

/-! ## The attention line (R178) -/

/-- With the RESET input released, the line is asserted when a position is both enabled and 1 in the notice word (R178). -/
theorem Device.lineAsserted_released {d : Device} (h : d.resetInput = false) :
    d.lineAsserted = decide (d.noticeWord &&& d.notices.enable ≠ 0) := by
  rw [Device.lineAsserted, h, Bool.not_false, Bool.true_and, Bool.eq_iff_iff, bne_iff_ne, decide_eq_true_iff]
  rfl

/-! ## The rows -/

section
variable {s : State} (h : PortReady s.dev) (tag : Byte) (mask : BitVec 24)
include h

theorem exec_noticeRead : exec (.noticeRead tag) s = .next (s.answered s.dev tag 0x70 .ok (
    maskBytes s.dev.noticeWord ++ maskBytes s.dev.notices.enable ++ uFlag s.dev.notices.activeHigh ++
      uFlag (decide (s.dev.noticeWord &&& s.dev.notices.enable ≠ 0)))) := by
  refine exec_report h rfl rfl rfl rfl ?_
  rw [Device.lineAsserted_released h.released]

theorem exec_noticeClear : exec (.noticeClear tag mask) s = .next (s.answered (s.dev.clearNotices mask) tag 0x71 .ok (
    maskBytes s.dev.noticeWord ++ maskBytes (s.dev.clearNotices mask).noticeWord)) := by
  rw [exec_worked h rfl rfl rfl, workNoticeClear, worked_answerOk]
  rfl

/-- NOTICE ENABLE accepts the polarities 0 and 1, of which 1 is active-high (R177). -/
theorem exec_noticeEnable (polarity : Byte) : exec (.noticeEnable tag mask polarity) s = .next (
    if mask.getLsbD 23 = true ∨ 1 < polarity.toNat then s.refused tag 0x72 .badValue
    else s.answered (s.dev.enableNotices mask (decide (polarity = 1))) tag 0x72 .ok
      (uFlag (decide (s.dev.noticeWord &&& mask ≠ 0)))) := by
  have hhigh : (polarity.toNat == 1) = decide (polarity = 1) := by
    rw [Bool.eq_iff_iff, beq_iff_eq, decide_eq_true_iff, BitVec.toNat_eq]
    rfl
  have hline : (s.dev.enableNotices mask (decide (polarity = 1))).lineAsserted = decide (s.dev.noticeWord &&& mask ≠ 0) :=
    Device.lineAsserted_released h.released
  rw [exec_worked h rfl rfl rfl, workNoticeEnable, hhigh, hline, ite_or]
  exact congrArg Host.Outcome.next (worked_check (by simp) fun _ => worked_check (by simp) fun _ => rfl)

end

/-- Settles O50. -/
theorem noticeRequests : Obligations.NoticeRequests := fun s tag mask polarity h =>
  ⟨s.dev.noticeWord, (s.dev.clearNotices mask).noticeWord, s.dev.noticeWord_getLsbD, s.dev.clearNotices_noticeWord mask,
    exec_noticeRead h tag, ⟨_, s.dev.clearNotices_flags mask, exec_noticeClear h tag mask⟩, exec_noticeEnable h tag mask polarity⟩

end Sys2Proof.Machine
end

section
/-! PROOFS. The step and the queue (O1), and that every command acts on the part alone (O2). -/

open Sys2Proof Sys2Proof.Machine

namespace Sys2Proof.Machine

/-- The step on a queue with a command at its front (log 2). -/
@[simp] theorem step_waiting (c : Instr) (rest : List Instr) (s : State) :
    step { s with pending := c :: rest } = exec c { s with pending := rest } := rfl

/-- The step on an empty queue (log 2). -/
theorem step_idle {s : State} (h : s.pending = []) : step s = .next s := by
  unfold step
  rw [h]

/-- Settles O1. -/
theorem stepTakesTheFront : Obligations.StepTakesTheFront := ⟨step_waiting, fun _ => step_idle⟩

/-- Every command acts on the part through one function: the request rows send their request through the port (log 1), and each
access, reset and event of a bay or timer has its own. -/
theorem exec_onDevice (c : Instr) : ∃ f : Device → Device, ∀ s, exec c s = onDevice s f := by
  cases hr : c.request? with
  | some x =>
    obtain ⟨tag, r⟩ := x
    exact ⟨fun d => d.submit tag r, exec_row hr⟩
  | none =>
    cases c with
    | reset => exact ⟨fun d => { d.afterReset with resetInput := true }, fun _ => rfl⟩
    | powerOn => exact ⟨Device.afterReset, fun _ => rfl⟩
    | resetInputRelease => exact ⟨fun d => { d with resetInput := false }, fun _ => rfl⟩
    | frameWrite b => exact ⟨fun d => d.writeAt .frame b, fun _ => rfl⟩
    | bodyWrite b => exact ⟨fun d => d.writeAt .body b, fun _ => rfl⟩
    | bodyRead => exact ⟨fun d => (d.readAt .body).2, fun _ => rfl⟩
    | post => exact ⟨fun d => d.writeAt .control 0x01, fun _ => rfl⟩
    | nextReply => exact ⟨fun d => d.writeAt .control 0x02, fun _ => rfl⟩
    | cancelFrame => exact ⟨fun d => d.writeAt .control 0x03, fun _ => rfl⟩
    | streamWrite b => exact ⟨fun d => d.writeAt .stream b, fun _ => rfl⟩
    | streamRead => exact ⟨fun d => (d.readAt .stream).2, fun _ => rfl⟩
    | insertion c l => exact ⟨fun d => (d.sample c l).insertion c, fun _ => rfl⟩
    | removal c l => exact ⟨fun d => (d.sample c l).removal c, fun _ => rfl⟩
    | indexPulse c l time => exact ⟨fun d => (d.sample c l).indexPulse c time, fun _ => rfl⟩
    | idBlock c a b n z hi lo => exact ⟨fun d => d.idBlockRead c a b n z [hi, lo], fun _ => rfl⟩
    | dataBlock c mark raw => exact ⟨fun d => d.dataBlockRead c mark raw, fun _ => rfl⟩
    | revolutionBudget c l => exact ⟨fun d => (d.sample c l).budgetPulse c, fun _ => rfl⟩
    | spinUpWait c l => exact ⟨fun d => (d.sample c l).spinUpExpired c, fun _ => rfl⟩
    | indexTimeout c l => exact ⟨fun d => (d.sample c l).indexExpired c, fun _ => rfl⟩
    | stepInterval c l => exact ⟨fun d => (d.sample c l).stepExpired c, fun _ => rfl⟩
    | noTrack0 c l => exact ⟨fun d => (d.sample c l).noTrack0Expired c, fun _ => rfl⟩
    | settle c l => exact ⟨fun d => (d.sample c l).settleExpired c, fun _ => rfl⟩
    | feedTimeout c l => exact ⟨fun d => (d.sample c l).feedExpired c, fun _ => rfl⟩
    | ejectTimeout c l => exact ⟨fun d => (d.sample c l).ejectExpired c, fun _ => rfl⟩
    | _ => cases hr

/-- Settles O2. -/
theorem everyCommandActsOnThePart : Obligations.EveryCommandActsOnThePart := exec_onDevice

end Sys2Proof.Machine
end
